-- ==== Sys2Proof/Word.lean ====
section
/-! DEFINITION. The words of the part: bytes of the host link, its 16-bit CRC word, and a raw photocell sample. -/

namespace Sys2Proof

/-- A byte of the UART link (R191). -/
abbrev Byte := BitVec 8

/-- The CRC word of a frame (R191). -/
abbrev Word16 := BitVec 16

/-- A raw sample of the photocell converter, 0..4,095 (R94). -/
abbrev Sample := BitVec 12

end Sys2Proof
end

