-- ==== Sys2Proof/Syntax.lean ====
section
/-! DEFINITION. The commands of the part: one constructor for each row of spec/opcode_table.json. Every command but
POWER_ON carries `dt`, the microseconds that passed since the command before it (log entry 1). -/

namespace Sys2Proof

/-- The levels the switches and the paper sensor show when power is applied (R49, R59, R93, R180, R190). -/
structure Levels where
  doorClosed : Bool
  clampEngaged : Bool
  paperPresent : Bool
  homeSwitchClosed : Bool
  deriving DecidableEq, Repr

/-- The two reply tones of a receiving station (R134). -/
inductive ReplyTone where
  | tA
  | tB
  deriving DecidableEq, Repr

/-- The edge of a drum encoder count (R94). -/
inductive Edge where
  | rising
  | falling
  deriving DecidableEq, Repr

/-- The commands. A request row stands for one whole frame of that kind completing at the receiver, with its tag and
its payload bytes; for CAL_RUN, QUEUE_CONTROL and SLIP_CONTROL, whose rows name the first payload byte, `rest` is the
payload after that byte (log entry 7). -/
inductive Instr where
  | powerOn (levels : Levels)
  | linkByteReceived (dt : Nat) (byte : Byte)
  | gapTimerExpiry (dt : Nat)
  | frameSent (dt : Nat)
  | unknownKind (dt : Nat) (tag kind : Byte) (payload : List Byte)
  | status (dt : Nat) (tag : Byte) (payload : List Byte)
  | settingsSet (dt : Nat) (tag : Byte) (payload : List Byte)
  | settingsGet (dt : Nat) (tag : Byte) (payload : List Byte)
  | clockSet (dt : Nat) (tag : Byte) (payload : List Byte)
  | stationLoad (dt : Nat) (tag : Byte) (payload : List Byte)
  | stationRead (dt : Nat) (tag : Byte) (payload : List Byte)
  | calLoad (dt : Nat) (tag : Byte) (payload : List Byte)
  | calRead (dt : Nat) (tag : Byte) (payload : List Byte)
  | curveLoad (dt : Nat) (tag : Byte) (payload : List Byte)
  | calRunMotor (dt : Nat) (tag : Byte) (rest : List Byte)
  | calRunDark (dt : Nat) (tag : Byte) (rest : List Byte)
  | calRunWhite (dt : Nat) (tag : Byte) (rest : List Byte)
  | calRunSteps (dt : Nat) (tag : Byte) (rest : List Byte)
  | orderBegin (dt : Nat) (tag : Byte) (payload : List Byte)
  | orderPart (dt : Nat) (tag : Byte) (payload : List Byte)
  | orderCancel (dt : Nat) (tag : Byte) (payload : List Byte)
  | orderInquire (dt : Nat) (tag : Byte) (payload : List Byte)
  | orderList (dt : Nat) (tag : Byte) (payload : List Byte)
  | queueControlHalt (dt : Nat) (tag : Byte) (rest : List Byte)
  | queueControlResume (dt : Nat) (tag : Byte) (rest : List Byte)
  | drumSpin (dt : Nat) (tag : Byte) (payload : List Byte)
  | slipControlMode (dt : Nat) (tag : Byte) (rest : List Byte)
  | slipControlFeed (dt : Nat) (tag : Byte) (rest : List Byte)
  | slipControlReprint (dt : Nat) (tag : Byte) (rest : List Byte)
  | restart (dt : Nat) (tag : Byte) (payload : List Byte)
  | assemblyTimeout (dt : Nat)
  | doorOpen (dt : Nat)
  | doorClose (dt : Nat)
  | clampEngage (dt : Nat)
  | clampRelease (dt : Nat)
  | stopKey (dt : Nat)
  | indexPulse (dt : Nat) (sample : Sample)
  | spinUpLimitExpiry (dt : Nat)
  | stall (dt : Nat)
  | quietTimerExpiry (dt : Nat)
  | spinHoldExpiry (dt : Nat)
  | motorSettleEnd (dt : Nat)
  | darkLampSettled (dt : Nat)
  | warmUpExpiry (dt : Nat)
  | lampIdleExpiry (dt : Nat)
  | carriageStep (dt : Nat)
  | homeSwitchClose (dt : Nat)
  | homeSearchLimit (dt : Nat)
  | lineBoundary (dt : Nat)
  | startToneEnd (dt : Nat)
  | stopToneEnd (dt : Nat)
  | releaseCleared (dt : Nat)
  | loopCurrentLost (dt : Nat)
  | loopCurrentReturn (dt : Nat)
  | lineLoss (dt : Nat)
  | guardExpiry (dt : Nat)
  | callEnd (dt : Nat)
  | replyQualified (dt : Nat) (tone : ReplyTone)
  | replyEnd (dt : Nat)
  | replyOverlong (dt : Nat)
  | replyWindowExpiry (dt : Nat)
  | dialToneFound (dt : Nat)
  | noDialTone (dt : Nat)
  | dialDigitsEnd (dt : Nat)
  | holdBurst (dt : Nat)
  | holdBurstEnd (dt : Nat)
  | deferLimitExpiry (dt : Nat)
  | paperOut (dt : Nat)
  | paperBack (dt : Nat)
  | rowStepEnd (dt : Nat)
  | timeOfDayTick (dt : Nat)
  | encoderCount (dt : Nat) (edge : Edge) (sample : Sample)
  deriving DecidableEq, Repr

end Sys2Proof
end

