-- ==== Sys2Proof/Config.lean ====
section
/-! DEFINITION. What the manual leaves to the individual part or does not state: constants without a body, so that no
proof can use their values (log entry 6). -/

namespace Sys2Proof.Config

/-- The dots of the glyph of character code `c` (0x21..0x7E), row `j` (0 at the top): "The dot patterns of the glyph
table are fixed at manufacture and lie outside this manual" (R182). Bit 7 is the leftmost dot. The space glyph is all
white by rule and does not use this constant. -/
opaque glyphRow (c j : Nat) : BitVec 8

/-- The speed, in m-rpm, that a motor calibration computes from an average period of 0 microseconds. R75 divides by the
average period and states no result for 0; it can arise only from index pulses at the same microsecond. -/
opaque speedAtZeroPeriod : Nat

end Sys2Proof.Config
end

