-- ==== Sys2Proof/Machine/State.lean ====
section
/-! DEFINITION. The state of the part as plain data, block by block, and the state after reset. Numbers are natural
numbers (R1); a moment is microseconds since power-on; a running timer is the moment at which it is due and a stopped
one is `none` (log entry 1). -/

namespace Sys2Proof.Machine

/-! ## Enumerations (their constructors in the order of the manual's lists, R196) -/

/-- R2. -/
inductive OrderState where
  | assembling | queued | preparing | phasing | sending | ending | confirming | finished
  deriving DecidableEq, Repr

/-- R7. -/
inductive OrderResult where
  | complete | partialResult | noStation | cancelled | mountGone | doorOpen | stopped | drumFault | lampFault
  | carriageFault | lineLost | prepTimeout
  deriving DecidableEq, Repr

/-- R3, R196. -/
inductive DestResult where
  | pending | ready | busy | noReply | noLine | clean | faulty | unconfirmed | aborted | lineLost | notCalled
  deriving DecidableEq, Repr

/-- R2. -/
inductive Network where
  | loop | dial
  deriving DecidableEq, Repr

/-- R2. -/
inductive Modulation where
  | fm | am
  deriving DecidableEq, Repr

/-- R22. -/
inductive QueryReason where
  | hostTimeout | operator
  deriving DecidableEq, Repr

/-- R19. -/
inductive ManagerState where
  | running | halted
  deriving DecidableEq, Repr

/-- R37. -/
inductive DrumState where
  | stopped | spinningUp | locked | drift | spinningDown | calibrating | fault
  deriving DecidableEq, Repr

/-- R54, R123. -/
inductive Trim where
  | none | faster | slower
  deriving DecidableEq, Repr

/-- R49. -/
inductive Door where
  | closed | opened
  deriving DecidableEq, Repr

/-- R49. -/
inductive Clamp where
  | engaged | released
  deriving DecidableEq, Repr

/-- R69. -/
inductive CalKind where
  | motor | dark | white | steps
  deriving DecidableEq, Repr

/-- Section 4.3, R74, R196. -/
inductive CalPhase where
  | waiting | measuring | settleLow | measureLow | settleHigh | measureHigh
  deriving DecidableEq, Repr

/-- R71. -/
inductive CalOutcome where
  | done | failed | doorOpen | stopped
  deriving DecidableEq, Repr

/-- R71. -/
inductive CalFailure where
  | slope | stall | noLock | darkHigh | whiteLow | notMonotonic | carriage
  deriving DecidableEq, Repr

/-- R84. -/
inductive LampState where
  | off | warming | ready
  deriving DecidableEq, Repr

/-- R89. -/
inductive CarriageState where
  | homing | home | advancing | returning | fault
  deriving DecidableEq, Repr

/-- R128. -/
inductive LineState where
  | idle | seized | releasing
  deriving DecidableEq, Repr

/-- Chapter 8's item table. -/
inductive Activity where
  | quiet | dialing | calling | polling | listening | holding | startTone | phasing | picture | stopTone
  deriving DecidableEq, Repr

/-- The run sequencer's requests of the line unit (R129). -/
inductive LineRequest where
  | seize | call | poll | listen | hold | start | stopTone | release
  deriving DecidableEq, Repr

/-- The listens of R135. -/
inductive ListenKind where
  | rollCall | poll | dialAnswer | dialConfirm
  deriving DecidableEq, Repr

/-- What a release was made by (R148, R149). -/
inductive ReleaseCause where
  | request | loss | restart
  deriving DecidableEq, Repr

/-- The abort causes of R165. -/
inductive AbortCause where
  | cancel | door | stop | drumFault | lampFault | carriageFault | deferLimit | lineLoss
  deriving DecidableEq, Repr

/-- R150. -/
inductive LineAction where
  | none | stopTone | release
  deriving DecidableEq, Repr

/-- R180. -/
inductive Paper where
  | present | out
  deriving DecidableEq, Repr

/-- R181. -/
inductive FeedPurpose where
  | recovery | host
  deriving DecidableEq, Repr

/-- R56. -/
inductive DrumCause where
  | state | stall | noLock | clip
  deriving DecidableEq, Repr

/-- R57. -/
inductive PanelInput where
  | door | clamp | stop
  deriving DecidableEq, Repr

/-- R189. -/
inductive SlipCause where
  | printed | paperOut | paperBack
  deriving DecidableEq, Repr

/-- R148. -/
inductive LineEventKind where
  | seize | loss | release
  deriving DecidableEq, Repr

/-- The state an ORDER_EVENT carries (R8): an order state, RETIRED or DISCARDED. -/
inductive EventState where
  | entered (state : OrderState)
  | retired
  | discarded
  deriving DecidableEq, Repr

/-- One of the dial symbols 0..9, * and # (R28). -/
inductive DialSymbol where
  | digit (d : Fin 10)
  | star
  | hash
  deriving DecidableEq, Repr

/-! ## Orders (chapter 1) -/

/-- The ORDER_BEGIN header as received, before validation (R13, R196). -/
structure Header where
  hostRef : Nat
  mount : Nat
  cls : Nat
  speed : Nat
  samples : Nat
  pitch : Nat
  length : Nat
  modulation : Nat
  polarity : Nat
  phasing : Nat
  attempts : Nat
  destCount : Nat
  captionLen : Nat
  deriving DecidableEq, Repr

/-- A destination of an order (R2). -/
structure Dest where
  station : Nat
  result : DestResult
  deriving DecidableEq, Repr

/-- A query mark (R22). -/
structure QueryMark where
  tod : Option Nat
  reason : QueryReason
  deriving DecidableEq, Repr

/-- A duration of R24: its starting moment not reached, still in progress, or fixed in 0.1 s. -/
inductive Span where
  | notBegun
  | running (since : Nat)
  | ended (tenths : Nat)
  deriving DecidableEq, Repr

/-- The five counts of an order (R2, R160). -/
structure Counts where
  sent : Nat
  repeats : Nat
  rescans : Nat
  extra : Nat
  flagged : Nat
  deriving DecidableEq, Repr

/-- The order record (R2), with the content bytes an assembly has stored and counted (R13, R14). An absent caption is
the empty one. -/
structure Order where
  number : Nat
  header : Header
  content : List Byte
  received : Nat
  fragments : Nat
  mount : Nat
  lines : Nat
  network : Network
  dests : List Dest
  caption : List Char
  state : OrderState
  result : Option OrderResult
  counts : Counts
  accepted : Option Nat
  started : Option Nat
  ended : Option Nat
  queue : Span
  prepare : Span
  defer : Span
  picture : Span
  confirm : Span
  marks : List QueryMark
  queryCount : Nat
  deriving DecidableEq, Repr

/-- The order manager (R4, R5, R15, R19). -/
structure Manager where
  table : List Order
  state : ManagerState
  nextNumber : Nat
  assemblyTimer : Option Nat
  deriving DecidableEq, Repr

/-! ## Station directory (chapter 2) -/

/-- How a station is reached (R28). -/
inductive Address where
  | loop (code : Nat)
  | dial (digits : List DialSymbol)
  deriving DecidableEq, Repr

/-- An enabled station's fields (R28). -/
structure Station where
  name : List Char
  address : Address
  rpm60 : Bool
  rpm90 : Bool
  rpm120 : Bool
  fm : Bool
  am : Bool
  deriving DecidableEq, Repr

/-- A directory entry; a disabled one holds its mark only (R28). -/
inductive StationEntry where
  | disabled
  | enabled (station : Station)
  deriving DecidableEq, Repr

/-! ## Drum, panel and calibration record (chapters 3 and 4) -/

/-- The drum control unit (section 3.1). -/
structure Drum where
  state : DrumState
  target : Nat
  dff : Option Nat
  drive : Nat
  integral : Int
  clip : Bool
  inCount : Nat
  outCount : Nat
  lastIndex : Option Nat
  period : Option Nat
  trim : Trim
  brake : Bool
  noLock : Bool
  spinUpTimer : Option Nat
  stallTimer : Option Nat
  quietTimer : Option Nat
  spinHoldTimer : Option Nat
  deriving DecidableEq, Repr

/-- The debounced panel inputs and the mount (R49, R51). -/
structure Panel where
  door : Door
  clamp : Clamp
  mountCounter : Nat
  mountPresent : Bool
  deriving DecidableEq, Repr

/-- The motor part of the calibration record (R61). -/
structure MotorPart where
  s1 : Nat
  s2 : Nat
  kp : Nat
  ki : Nat
  valid : Bool
  deriving DecidableEq, Repr

/-- The scan part of the calibration record (R61, R62). -/
structure ScanPart where
  offset : Nat
  wRaw : Nat
  gain : Nat
  darkMark : Bool
  whiteMark : Bool
  valid : Bool
  deriving DecidableEq, Repr

/-- One step of a STEPS request (R78). -/
structure TabletStep where
  first : Nat
  last : Nat
  target : Nat
  deriving DecidableEq, Repr

/-- A calibration run's record (section 4.3, R72, R74, R80). `sums` holds one running sum for each measured quantity;
`used` and `passed` count revolutions (for MOTOR, `used` counts the periods of the measure phase); `revBegun` says that
the first index pulse since MEASURING began has come, `eligible` that the drum was LOCKED or DRIFT at the pulse that
began the present revolution, and `samples` holds that revolution's raw samples. -/
structure CalRun where
  kind : CalKind
  phase : CalPhase
  settleTimer : Option Nat
  sums : List Nat
  used : Nat
  passed : Nat
  p1 : Nat
  revBegun : Bool
  eligible : Bool
  samples : List Nat
  offset : Nat
  gain : Nat
  position : Nat
  steps : List TabletStep
  arrived : Bool
  deriving DecidableEq, Repr

/-! ## Scan unit (chapter 5) and line store (chapter 7) -/

/-- The lamp (R84 to R87). -/
structure Lamp where
  state : LampState
  prewarm : Bool
  runReq : Bool
  calReq : Bool
  darkHold : Bool
  warmTimer : Option Nat
  offTime : Option Nat
  idleTimer : Option Nat
  deriving DecidableEq, Repr

/-- The carriage (R89 to R91). `target` is the position an outward movement in progress goes to, `stepAt` the moment of
the movement's next step, `waitingMove` a STEPS move that waits for HOME. `homeClosed` is the level of the home switch,
which a home-seeking movement reads when it begins (R90; log entry 28). -/
structure Carriage where
  state : CarriageState
  position : Option Nat
  stepsTaken : Nat
  target : Option Nat
  stepAt : Option Nat
  waitingMove : Option Nat
  homeClosed : Bool
  deriving DecidableEq, Repr

/-- The drum encoder's count since the index pulse, and the level of its count signal (R94). -/
structure Encoder where
  count : Nat
  high : Bool
  deriving DecidableEq, Repr

/-- The scan record (section 5.4). `inRevolution` says that the first index pulse after the request has come (R96);
`samples` are the raw samples of the revolution in progress, position 0 first. -/
structure ScanRecord where
  order : Nat
  samplesPerLine : Nat
  lines : Nat
  pitch : Nat
  negative : Bool
  nextLine : Nat
  offset : Nat
  gain : Nat
  wRef : Int
  tracking : Bool
  trackSum : Nat
  trackCount : Nat
  lowCount : Nat
  inRevolution : Bool
  samples : List Nat
  deriving DecidableEq, Repr

/-- A picture line: number, flags and values (R116). -/
structure PictureLine where
  number : Nat
  drift : Bool
  unsteady : Bool
  weak : Bool
  values : List Nat
  deriving DecidableEq, Repr

/-- The run figures of the line store (R117). -/
structure StoreFigures where
  order : Nat
  samples : Nat
  lines : Nat
  deriving DecidableEq, Repr

/-- The line store (R116, R117). -/
structure Store where
  slots : List PictureLine
  isOpen : Bool
  figures : Option StoreFigures
  lastOut : Option PictureLine
  deriving DecidableEq, Repr

/-! ## Line unit (chapter 8) -/

/-- Where the present activity stands on the line: nothing sent or heard; waiting for the turnaround guard (R133); a hold
burst sounding (R140); the activity's own signal sounding; watching for dial tone (R138); a listen open with its window
timer and the reply qualified so far, with the moment it qualified (R134, R135). -/
inductive Signal where
  | silent
  | guardWait (ends : Nat)
  | burst (since : Nat)
  | sounding (since : Nat)
  | dialTone (since : Nat)
  | listen (opened : Nat) (window : Option Nat) (reply : Option (ReplyTone × Nat))
  deriving DecidableEq, Repr

/-- The run figures a START copies (R141). -/
structure Figures where
  modulation : Modulation
  speed : Nat
  samples : Nat
  phasing : Nat
  lines : Nat
  deriving DecidableEq, Repr

/-- The line timer: its start and the number of the next boundary (R142). -/
structure LineTimer where
  start : Nat
  next : Nat
  deriving DecidableEq, Repr

/-- What a line time sends (R143, R144). -/
inductive SentKind where
  | phasing | take | repeated | extra | closed
  deriving DecidableEq, Repr

/-- The line the modulator is sending (R144). -/
structure SentLine where
  number : Nat
  kind : SentKind
  values : List Nat
  start : Nat
  deriving DecidableEq, Repr

/-- The line unit (chapter 8's item table). `sent` is the line being sent now, and `lineNumber` the number the modulator
keeps of the line at the latest line time, which an abort does not clear (R120, R144). -/
structure LineUnit where
  state : LineState
  loopClosed : Bool
  activity : Option Activity
  signal : Signal
  listenFor : Option ListenKind
  orderNumber : Nat
  network : Option Network
  figures : Option Figures
  callCode : Option Nat
  dialDigits : List DialSymbol
  loopCurrent : Bool
  loopTimer : Option Nat
  lastListenEnd : Option Nat
  lastSignalEnd : Option Nat
  holdAt : Option Nat
  timer : Option LineTimer
  sent : Option SentLine
  lineNumber : Nat
  releaseAt : Option Nat
  releaseCause : ReleaseCause
  lastRequest : Option LineRequest
  deriving DecidableEq, Repr

/-! ## Run sequencer (chapter 9) -/

/-- The run record (R150). `index` and `used` are the roll-call position; `drift` is the drift run, 0..8. -/
structure RunRecord where
  order : Nat
  network : Network
  speed : Nat
  samples : Nat
  lines : Nat
  phasing : Nat
  modulation : Modulation
  attempts : Nat
  stations : List Nat
  index : Nat
  used : Nat
  rollEnded : Bool
  drumReady : Bool
  lampReady : Bool
  carriageReady : Bool
  startMade : Bool
  deferTimer : Option Nat
  scanStarted : Bool
  scanComplete : Bool
  drift : Nat
  abort : Option AbortCause
  action : LineAction
  deriving DecidableEq, Repr

/-! ## Slip unit (chapter 10) -/

/-- A slip (R174). -/
structure Slip where
  order : Nat
  text : List (List Char)
  reprint : Bool
  deriving DecidableEq, Repr

/-- The printer (R181): in PRINTING, whether the leading feed rows are skipped, the rows whose row step has ended, and
when the present row began; in FEEDING, the purpose, the rows left and when the present row began. -/
inductive Printer where
  | idle
  | printing (resumed : Bool) (row : Nat) (since : Nat)
  | held
  | feeding (purpose : FeedPurpose) (left : Nat) (since : Nat)
  deriving DecidableEq, Repr

/-- The slip unit (chapter 10's item table). -/
structure SlipUnit where
  queue : List Slip
  lastPrinted : Option Slip
  printer : Printer
  paper : Paper
  deriving DecidableEq, Repr

/-! ## Host link unit and time base (chapter 11) -/

/-- The figures a CAL_DONE carries (R71). -/
inductive CalFigures where
  | motor (p1 p2 s1 s2 : Nat)
  | dark (offset : Nat)
  | white (wRaw gain : Nat)
  | steps (count : Nat) (measured : List Nat)
  deriving DecidableEq, Repr

/-- The notices, with their fields as fixed when they are placed (R8, R56, R57, R71, R148, R189, R195). The printer
state of a SLIP_EVENT is its code of R196. -/
inductive Notice where
  | order (number hostRef : Nat) (state : EventState) (result : Option OrderResult)
  | drum (cause : DrumCause) (state : DrumState) (target drive period : Nat) (clip : Bool)
  | panel (input : PanelInput) (level : Option Nat) (mount : Nat) (present : Bool)
  | cal (kind : CalKind) (outcome : CalOutcome) (failure : Option CalFailure) (number : Nat) (figures : CalFigures)
  | slip (cause : SlipCause) (order : Nat) (reprint : Bool) (printer : Nat) (paper : Paper) (queued : Nat)
  | line (event : LineEventKind) (order : Nat) (network : Option Network) (activity : Option Activity)
      (cause : Option ReleaseCause)
  deriving DecidableEq, Repr

/-- The link receiver: HUNT, or IN_FRAME before its length byte, or IN_FRAME with the bytes kept (length byte first)
and the count of bytes still to come (R191). -/
inductive Receiver where
  | hunt
  | awaitLength
  | inFrame (kept : List Byte) (toCome : Nat)
  deriving DecidableEq, Repr

/-- A held request (R192). -/
structure Request where
  kind : Byte
  tag : Byte
  payload : List Byte
  deriving DecidableEq, Repr

/-- A frame to be sent, less its start, length and CRC bytes (R191). -/
structure Frame where
  kind : Byte
  tag : Byte
  payload : List Byte
  deriving DecidableEq, Repr

/-- The frame the transmitter is sending, since when, and whether it is a reply (R195). -/
structure Sending where
  frame : Frame
  isReply : Bool
  since : Nat
  deriving DecidableEq, Repr

/-- The host link unit (R191 to R195, R201). -/
structure Link where
  receiver : Receiver
  gapTimer : Option Nat
  holding : List Request
  replySlot : Option Frame
  tx : Option Sending
  notices : List Notice
  linkError : Bool
  noticesLost : Bool
  restart : Option Bool
  deriving DecidableEq, Repr

/-- The settings record (R197). -/
structure Settings where
  fBlack : Nat
  fWhite : Nat
  aBlack : Nat
  aWhite : Nat
  lockWindow : Nat
  trim : Nat
  spinHold : Nat
  lampIdle : Nat
  replyWindow : Nat
  whiteTracking : Bool
  slipMode : Bool
  name : List Char
  deriving DecidableEq, Repr

/-- The clock once set: time of day, date text, stale mark, and the moment of the next second (R199). -/
structure Clock where
  tod : Nat
  date : List Char
  stale : Bool
  tickAt : Nat
  deriving DecidableEq, Repr

/-! ## The whole state -/

/-- The state of the part and the queue of the commands that wait, first in, first out. -/
structure State where
  now : Nat
  pending : List Instr
  link : Link
  settings : Settings
  clock : Option Clock
  manager : Manager
  directory : List StationEntry
  panel : Panel
  drum : Drum
  motor : MotorPart
  scanPart : ScanPart
  curve : List Nat
  cal : Option CalRun
  lamp : Lamp
  carriage : Carriage
  encoder : Encoder
  scan : Option ScanRecord
  store : Store
  line : LineUnit
  run : Option RunRecord
  slips : SlipUnit
  deriving DecidableEq, Repr

/-- Why the machine stops with a fault: it never does. Every request of the manual is answered and every event is taken
or has no effect, so the type is empty (INVENTORY.md, "Faults"). Safe. -/
inductive Fault where
  deriving DecidableEq, Repr

/-- Why a command has no meaning. -/
inductive Refusal where
  /-- Raised by `exec` alone, for a command that is not modelled yet. Safe. -/
  | notModelled (mnemonic : String)
  deriving DecidableEq, Repr

/-- The part right after power-on (R26, R29, R59, R61, R63, R83, R88, R93, R127, R149, R173, R190, R197, R202), with the
switch and sensor levels of log entry 5: door CLOSED, clamp RELEASED, paper PRESENT, home switch open. -/
def State.reset : State where
  now := 0
  pending := []
  link :=
    { receiver := .hunt, gapTimer := none, holding := [], replySlot := none, tx := none, notices := []
      linkError := false, noticesLost := false, restart := none }
  settings :=
    { fBlack := 1500, fWhite := 2300, aBlack := 24, aWhite := 240, lockWindow := 50, trim := 20, spinHold := 30
      lampIdle := 600, replyWindow := 3, whiteTracking := true, slipMode := true, name := ['P', 'T', 'C', '-', '4', '1'] }
  clock := none
  manager := { table := [], state := .running, nextNumber := 1, assemblyTimer := none }
  directory := List.replicate 32 .disabled
  panel := { door := .closed, clamp := .released, mountCounter := 0, mountPresent := false }
  drum :=
    { state := .stopped, target := 0, dff := none, drive := 0, integral := 0, clip := false, inCount := 0, outCount := 0
      lastIndex := none, period := none, trim := .none, brake := true, noLock := false, spinUpTimer := none
      stallTimer := none, quietTimer := none, spinHoldTimer := none }
  motor := { s1 := 0, s2 := 0, kp := 48, ki := 8, valid := false }
  scanPart := { offset := 0, wRaw := 4095, gain := 4096, darkMark := false, whiteMark := false, valid := false }
  curve := [0, 256, 512, 768, 1024, 1280, 1536, 1792, 2048, 2304, 2560, 2816, 3072, 3328, 3584, 3840, 4095]
  cal := none
  lamp :=
    { state := .off, prewarm := false, runReq := false, calReq := false, darkHold := false, warmTimer := none
      offTime := none, idleTimer := none }
  carriage :=
    { state := .homing, position := none, stepsTaken := 0, target := none, stepAt := some 0, waitingMove := none
      homeClosed := false }
  encoder := { count := 0, high := false }
  scan := none
  store := { slots := [], isOpen := false, figures := none, lastOut := none }
  line :=
    { state := .idle, loopClosed := false, activity := none, signal := .silent, listenFor := none, orderNumber := 0
      network := none, figures := none, callCode := none, dialDigits := [], loopCurrent := true, loopTimer := none
      lastListenEnd := none, lastSignalEnd := none, holdAt := none, timer := none, sent := none, lineNumber := 0
      releaseAt := none, releaseCause := .request, lastRequest := none }
  run := none
  slips := { queue := [], lastPrinted := none, printer := .idle, paper := .present }

end Sys2Proof.Machine
end

