-- ==== Sys2Proof/Machine/Arith.lean ====
section
/-! DEFINITION. The integer arithmetic of R1 (its five roundings and clamping), the manual's times in microseconds, and
timers. -/

namespace Sys2Proof.Machine

/-- Rounded half up: half the divisor, truncated, is added before dividing (R1). -/
def halfUp (n d : Nat) : Nat := (n + d / 2) / d

/-- Rounded half away from zero: the magnitude rounded half up, the sign restored (R1). -/
def halfAway (n : Int) (d : Nat) : Int :=
  if n < 0 then -Int.ofNat (halfUp n.natAbs d) else Int.ofNat (halfUp n.natAbs d)

/-- Truncated toward zero (R1). -/
def truncZero (n : Int) (d : Nat) : Int := Int.tdiv n (Int.ofNat d)

/-- Floor: toward minus infinity (R1). -/
def floorDiv (n : Int) (d : Nat) : Int := Int.fdiv n (Int.ofNat d)

/-- Ceiling of a quotient of non-negative numbers (R1). -/
def ceilDiv (n d : Nat) : Nat := (n + d - 1) / d

/-- Clamped to `lo..hi` (R1). -/
def clamp (lo hi x : Int) : Int := if x < lo then lo else if hi < x then hi else x

/-- A count that saturates at `top` steps up by one (R2, R22). -/
def satSucc (top n : Nat) : Nat := if n < top then n + 1 else n

/-- Milliseconds in microseconds. -/
def ms (n : Nat) : Nat := n * 1000

/-- Seconds in microseconds. -/
def sec (n : Nat) : Nat := n * 1000000

/-- The timer is running and its time has passed. -/
def due (timer : Option Nat) (now : Nat) : Bool :=
  match timer with
  | some t => decide (t ≤ now)
  | none => false

/-- The number after `n` in 1..65535, wrapping from 65535 to 1 (R5, R9, R51). -/
def nextOf (n : Nat) : Nat := if n < 65535 then n + 1 else 1

/-- The nominal line time and drum period of a speed, 60,000,000 / rpm µs, rounded half up (R42, R113, R142). -/
def lineTime (rpm : Nat) : Nat := halfUp 60000000 rpm

/-- The elapsed time between two moments in 0.1 s: in ms divided by 100, truncated, clamped to 65,535 (R24). -/
def tenths (since now : Nat) : Nat := min ((now - since) / 1000 / 100) 65535

/-- A duration stops at `now`: fixed if it was in progress, otherwise as it was (R24, R172). -/
def Span.stop (now : Nat) : Span → Span
  | .running since => .ended (tenths since now)
  | s => s

/-- The value of a duration as ORDER_INQUIRE and the slip give it (R22, R24). -/
def Span.value (now : Nat) : Span → Nat
  | .notBegun => 0
  | .running since => tenths since now
  | .ended t => t

end Sys2Proof.Machine
end

