-- ==== Sys2Proof/Machine/Bytes.lean ====
section
/-! DEFINITION. Numbers and text as bytes of the link (R196), the CRC, and a frame's bytes (R191). -/

namespace Sys2Proof.Machine

/-- One byte. -/
def u8 (n : Nat) : List Byte := [BitVec.ofNat 8 n]

/-- Two bytes, most significant first (R196). -/
def u16 (n : Nat) : List Byte := [BitVec.ofNat 8 (n / 256), BitVec.ofNat 8 n]

/-- Four bytes, most significant first (R196). -/
def u32 (n : Nat) : List Byte :=
  [BitVec.ofNat 8 (n / 16777216), BitVec.ofNat 8 (n / 65536), BitVec.ofNat 8 (n / 256), BitVec.ofNat 8 n]

/-- A mark: 1 for yes, on, set or present, else 0 (R196). -/
def mark (b : Bool) : List Byte := u8 (if b then 1 else 0)

/-- The number that bytes spell, most significant first (R196). -/
def beNat (bs : List Byte) : Nat := bs.foldl (fun n b => n * 256 + b.toNat) 0

/-- Byte `i` of a payload as a number. -/
def byteAt (p : List Byte) (i : Nat) : Nat := (p.getD i 0).toNat

/-- The two bytes at offset `i` as a number. -/
def wordAt (p : List Byte) (i : Nat) : Nat := beNat ((p.drop i).take 2)

/-- The four bytes at offset `i` as a number. -/
def longAt (p : List Byte) (i : Nat) : Nat := beNat ((p.drop i).take 4)

/-- A byte as a character (R196: a character is one byte). -/
def charOf (b : Byte) : Char := Char.ofNat b.toNat

/-- A character as a byte. -/
def byteOf (c : Char) : Byte := BitVec.ofNat 8 c.toNat

/-- The byte is in 0x20..0x7E. -/
def printable (b : Byte) : Bool := 0x20 ≤ b.toNat && b.toNat ≤ 0x7E

/-- Text padded on the right with spaces to `n` characters. -/
def padTo (n : Nat) (t : List Char) : List Char := t ++ List.replicate (n - t.length) ' '

/-- Text as bytes. -/
def textBytes (t : List Char) : List Byte := t.map byteOf

/-- A present time of day, or 0xFFFFFFFF (R196). -/
def todBytes (t : Option Nat) : List Byte := u32 (t.getD 0xFFFFFFFF)

/-- One bit shifted through the CRC register, most significant first: polynomial x^16 + x^12 + x^5 + 1 (R191). -/
def crcBit (crc : Word16) (bit : Bool) : Word16 :=
  if crc.msb != bit then (crc <<< 1) ^^^ 0x1021#16 else crc <<< 1

/-- One byte through the CRC register, most significant bit first (R191). -/
def crcByte (crc : Word16) (b : Byte) : Word16 :=
  [7, 6, 5, 4, 3, 2, 1, 0].foldl (fun c i => crcBit c (b.getLsbD i)) crc

/-- The CRC of bytes, from 0xFFFF; neither reflected nor inverted (R191). -/
def crc16 (bs : List Byte) : Word16 := bs.foldl crcByte 0xFFFF#16

/-- The CRC's two bytes, high byte first (R191). -/
def crcBytes (bs : List Byte) : List Byte := [(crc16 bs).extractLsb' 8 8, (crc16 bs).extractLsb' 0 8]

/-- The bytes a CRC covers: length, kind, tag and payload (R191). -/
def Frame.covered (f : Frame) : List Byte :=
  BitVec.ofNat 8 f.payload.length :: f.kind :: f.tag :: f.payload

/-- A whole frame on the link (R191). -/
def Frame.bytes (f : Frame) : List Byte := 0xA5#8 :: (f.covered ++ crcBytes f.covered)

/-- The time a frame takes at 57,600 baud, ten bit times a byte, in whole microseconds (R191). -/
def Frame.time (f : Frame) : Nat := (f.payload.length + 6) * 10 * 1000000 / 57600

end Sys2Proof.Machine
end

