-- ==== Sys2Proof/Machine/Codes.lean ====
section
/-! DEFINITION. The codes of enumerated values on the link: each its position, counting from 0, in the list or table of
the rule that defines it (R196); an absent one is 0xFF. -/

namespace Sys2Proof.Machine

def OrderState.code : OrderState → Nat
  | .assembling => 0 | .queued => 1 | .preparing => 2 | .phasing => 3
  | .sending => 4 | .ending => 5 | .confirming => 6 | .finished => 7

def EventState.code : EventState → Nat
  | .entered s => s.code
  | .retired => 8
  | .discarded => 9

def OrderResult.code : OrderResult → Nat
  | .complete => 0 | .partialResult => 1 | .noStation => 2 | .cancelled => 3 | .mountGone => 4 | .doorOpen => 5
  | .stopped => 6 | .drumFault => 7 | .lampFault => 8 | .carriageFault => 9 | .lineLost => 10 | .prepTimeout => 11

def DestResult.code : DestResult → Nat
  | .pending => 0 | .ready => 1 | .busy => 2 | .noReply => 3 | .noLine => 4 | .clean => 5 | .faulty => 6
  | .unconfirmed => 7 | .aborted => 8 | .lineLost => 9 | .notCalled => 10

def Network.code : Network → Nat
  | .loop => 0 | .dial => 1

def ManagerState.code : ManagerState → Nat
  | .running => 0 | .halted => 1

def DrumState.code : DrumState → Nat
  | .stopped => 0 | .spinningUp => 1 | .locked => 2 | .drift => 3 | .spinningDown => 4 | .calibrating => 5 | .fault => 6

def Door.code : Door → Nat
  | .closed => 0 | .opened => 1

def Clamp.code : Clamp → Nat
  | .engaged => 0 | .released => 1

def CalKind.code : CalKind → Nat
  | .motor => 0 | .dark => 1 | .white => 2 | .steps => 3

/-- R196: "The run phase is coded WAITING 0, MEASURING 1, SETTLE_LOW 2, MEASURE_LOW 3, SETTLE_HIGH 4 and MEASURE_HIGH 5." -/
def CalPhase.code : CalPhase → Nat
  | .waiting => 0 | .measuring => 1 | .settleLow => 2 | .measureLow => 3 | .settleHigh => 4 | .measureHigh => 5

def CalOutcome.code : CalOutcome → Nat
  | .done => 0 | .failed => 1 | .doorOpen => 2 | .stopped => 3

def CalFailure.code : CalFailure → Nat
  | .slope => 0 | .stall => 1 | .noLock => 2 | .darkHigh => 3 | .whiteLow => 4 | .notMonotonic => 5 | .carriage => 6

def LampState.code : LampState → Nat
  | .off => 0 | .warming => 1 | .ready => 2

def CarriageState.code : CarriageState → Nat
  | .homing => 0 | .home => 1 | .advancing => 2 | .returning => 3 | .fault => 4

def LineState.code : LineState → Nat
  | .idle => 0 | .seized => 1 | .releasing => 2

def Activity.code : Activity → Nat
  | .quiet => 0 | .dialing => 1 | .calling => 2 | .polling => 3 | .listening => 4
  | .holding => 5 | .startTone => 6 | .phasing => 7 | .picture => 8 | .stopTone => 9

def LineRequest.code : LineRequest → Nat
  | .seize => 0 | .call => 1 | .poll => 2 | .listen => 3 | .hold => 4 | .start => 5 | .stopTone => 6 | .release => 7

/-- A LINE_EVENT RELEASE carries REQUEST or LOSS; a release by RESTART sends none (R148, R149). -/
def ReleaseCause.code : ReleaseCause → Nat
  | .request => 0 | .loss => 1 | .restart => 0xFF

def Paper.code : Paper → Nat
  | .present => 0 | .out => 1

def Printer.code : Printer → Nat
  | .idle => 0 | .printing _ _ _ => 1 | .held => 2 | .feeding _ _ _ => 3

def DrumCause.code : DrumCause → Nat
  | .state => 0 | .stall => 1 | .noLock => 2 | .clip => 3

def PanelInput.code : PanelInput → Nat
  | .door => 0 | .clamp => 1 | .stop => 2

def SlipCause.code : SlipCause → Nat
  | .printed => 0 | .paperOut => 1 | .paperBack => 2

def LineEventKind.code : LineEventKind → Nat
  | .seize => 0 | .loss => 1 | .release => 2

/-- The character of a dial symbol in a station entry (R196). -/
def DialSymbol.char : DialSymbol → Char
  | .digit d => Char.ofNat (48 + d.val)
  | .star => '*'
  | .hash => '#'

/-- The dial symbol a byte is, if it is one of '0'..'9', '*' and '#' (R28, R31). -/
def dialSymbolOf (b : Byte) : Option DialSymbol :=
  if 48 ≤ b.toNat ∧ b.toNat ≤ 57 then some (.digit (Fin.ofNat 10 (b.toNat - 48)))
  else if b.toNat = 42 then some .star
  else if b.toNat = 35 then some .hash
  else none

/-- The reasons of a refusal, coded as R194's table. -/
inductive Reason where
  | unknownKind | badLength | fieldRange | state | busy | tableFull | notFound | notCalibrated | calInvalid | range
  | assemblyBusy | assemblySequence | orderCount | destUnknown | destDisabled | destDuplicate | destSpeed | networkMix
  | mountInvalid | inUse
  deriving DecidableEq, Repr

def Reason.code : Reason → Nat
  | .unknownKind => 1 | .badLength => 2 | .fieldRange => 3 | .state => 4 | .busy => 5 | .tableFull => 6 | .notFound => 7
  | .notCalibrated => 8 | .calInvalid => 9 | .range => 10 | .assemblyBusy => 11 | .assemblySequence => 12
  | .orderCount => 13 | .destUnknown => 14 | .destDisabled => 15 | .destDuplicate => 16 | .destSpeed => 17
  | .networkMix => 18 | .mountInvalid => 19 | .inUse => 20

/-- An answer to a request: OK with the bytes of its fields, or REFUSED with a reason and a qualifier (R194). -/
inductive Reply where
  | ok (fields : List Byte)
  | refused (reason : Reason) (qualifier : Nat)
  deriving DecidableEq, Repr

/-- A reply's payload: status, reason, qualifier, then the fields of an OK (R194). -/
def Reply.payload : Reply → List Byte
  | .ok fields => u8 0 ++ u8 0 ++ u16 0 ++ fields
  | .refused reason q => u8 1 ++ u8 reason.code ++ u16 q

/-- The reply frame: the request's kind plus 0x80 and its tag (R194). For an unknown kind of 0x80 or more the sum is taken
modulo 256, the model's choice (log entry 29). -/
def Reply.frame (r : Request) (a : Reply) : Frame :=
  { kind := r.kind + 0x80#8, tag := r.tag, payload := a.payload }

/-- An enumerated value's byte, 0xFF when absent (R196). -/
def codeByte (c : Option Nat) : List Byte := u8 (c.getD 0xFF)

/-- A notice's kind byte (R196). -/
def Notice.kind : Notice → Byte
  | .order _ _ _ _ => 0x60#8
  | .drum _ _ _ _ _ _ => 0x61#8
  | .panel _ _ _ _ => 0x62#8
  | .cal _ _ _ _ _ => 0x63#8
  | .slip _ _ _ _ _ _ => 0x64#8
  | .line _ _ _ _ _ => 0x65#8

/-- The figures of a CAL_DONE: periods in four bytes, speeds in four, other figures in two; a STEPS list as its count
and its members (R71, R196). A speed above 4,294,967,295 m-rpm, which an average period of 1 to 13 µs gives, does not fit
and is sent modulo 2^32, the model's choice (log entry 29). -/
def CalFigures.bytes : CalFigures → List Byte
  | .motor p1 p2 s1 s2 => u32 p1 ++ u32 p2 ++ u32 s1 ++ u32 s2
  | .dark o => u16 o
  | .white w g => u16 w ++ u16 g
  | .steps n ms => u8 n ++ ms.flatMap u16

/-- A notice's payload: its fields in the order of its rule, without status bytes (R195, R196). A LINE_EVENT's event, which
R148's column of carried fields does not list, is its first byte, the model's choice (log entry 29). -/
def Notice.payload : Notice → List Byte
  | .order n h st r => u16 n ++ u32 h ++ u8 st.code ++ codeByte (r.map OrderResult.code)
  | .drum c st t d p clip => u8 c.code ++ u8 st.code ++ u16 t ++ u16 d ++ u32 p ++ mark clip
  | .panel i level m present => u8 i.code ++ codeByte level ++ u16 m ++ mark present
  | .cal k o f n fig => u8 k.code ++ u8 o.code ++ codeByte (f.map CalFailure.code) ++ u16 n ++ fig.bytes
  | .slip c n r p pap q => u8 c.code ++ u16 n ++ mark r ++ u8 p ++ u8 pap.code ++ u8 q
  | .line e n net a c =>
    u8 e.code ++ u16 n ++ codeByte (net.map Network.code) ++ codeByte (a.map Activity.code)
      ++ codeByte (c.map ReleaseCause.code)

/-- A notice frame: its kind, a tag of 0 and its fields (R195). -/
def Notice.frame (n : Notice) : Frame := { kind := n.kind, tag := 0#8, payload := n.payload }

end Sys2Proof.Machine
end

