-- ==== Sys2Proof/Machine/Ops.lean ====
section
/-! DEFINITION. The shared operations: updates of one block, the passing of time, the notice queue and the transmitter
(R195), and the order table (R4, R8, R24). -/

namespace Sys2Proof.Machine

/-! ## Updates of one block -/

def State.onLink (f : Link → Link) (s : State) : State := { s with link := f s.link }
def State.onManager (f : Manager → Manager) (s : State) : State := { s with manager := f s.manager }
def State.onPanel (f : Panel → Panel) (s : State) : State := { s with panel := f s.panel }
def State.onDrum (f : Drum → Drum) (s : State) : State := { s with drum := f s.drum }
def State.onLamp (f : Lamp → Lamp) (s : State) : State := { s with lamp := f s.lamp }
def State.onCarriage (f : Carriage → Carriage) (s : State) : State := { s with carriage := f s.carriage }
def State.onStore (f : Store → Store) (s : State) : State := { s with store := f s.store }
def State.onLine (f : LineUnit → LineUnit) (s : State) : State := { s with line := f s.line }
def State.onSlips (f : SlipUnit → SlipUnit) (s : State) : State := { s with slips := f s.slips }
def State.onRun (f : RunRecord → RunRecord) (s : State) : State := { s with run := s.run.map f }
def State.onCal (f : CalRun → CalRun) (s : State) : State := { s with cal := s.cal.map f }

/-- The time a command comes after the command before it (log entry 1). -/
def advance (dt : Nat) (s : State) : State := { s with now := s.now + dt }

/-! ## Transmitter and notice queue (R195) -/

/-- The oldest held request is being served, or its reply waits or is being sent: it is not served again (R193). -/
def Link.inService (l : Link) : Bool :=
  l.replySlot.isSome || l.restart.isSome || (l.tx.map Sending.isReply).getD false

/-- When the transmitter is free it sends the reply in the slot if there is one, and otherwise the oldest notice, which
leaves the queue. While a held request's reply has not been made, notices wait for it (R195, R201; log entry 4). -/
def Link.kick (now : Nat) (l : Link) : Link :=
  match l.tx, l.replySlot, l.holding, l.notices with
  | some _, _, _, _ => l
  | none, some f, _, _ => { l with replySlot := none, tx := some { frame := f, isReply := true, since := now } }
  | none, none, [], n :: ns =>
    { l with notices := ns, tx := some { frame := n.frame, isReply := false, since := now } }
  | none, none, _, _ => l

/-- A block places a notice: it joins the queue, or with 24 queued it is lost and the notices-lost flag is set (R195). -/
def Link.place (now : Nat) (n : Notice) (l : Link) : Link :=
  (if l.notices.length < 24 then { l with notices := l.notices ++ [n] } else { l with noticesLost := true }).kick now

def placeNotice (n : Notice) (s : State) : State := s.onLink (Link.place s.now n)

/-! ## Orders -/

/-- PREPARING through CONFIRMING (section 1.3). -/
def OrderState.isRunning : OrderState → Bool
  | .preparing | .phasing | .sending | .ending | .confirming => true
  | _ => false

/-- The present time of day, absent while the clock is unset (R24). -/
def State.todNow (s : State) : Option Nat := s.clock.map Clock.tod

def State.findOrder (s : State) (n : Nat) : Option Order := s.manager.table.find? (fun o => o.number == n)

def State.runningOrder (s : State) : Option Order := s.manager.table.find? (fun o => o.state.isRunning)

def State.assemblingOrder (s : State) : Option Order := s.manager.table.find? (fun o => o.state == .assembling)

def updateOrder (n : Nat) (f : Order → Order) (s : State) : State :=
  s.onManager fun m => { m with table := m.table.map fun o => if o.number = n then f o else o }

/-- An order leaves the table and closes the gap (R4). -/
def removeOrder (n : Nat) (s : State) : State :=
  s.onManager fun m => { m with table := m.table.filter fun o => o.number != n }

/-- The ORDER_EVENT of an order, with the result only for FINISHED (R8). -/
def orderNotice (o : Order) (e : EventState) : Notice :=
  .order o.number o.header.hostRef e (if e = .entered .finished then o.result else none)

def placeOrderEvent (n : Nat) (e : EventState) (s : State) : State :=
  match s.findOrder n with
  | some o => placeNotice (orderNotice o e) s
  | none => s

/-- An order enters a state, with its ORDER_EVENT (R6, R8). -/
def enterState (n : Nat) (st : OrderState) (s : State) : State :=
  placeOrderEvent n (.entered st) (updateOrder n (fun o => { o with state := st }) s)

/-- Every destination that still holds PENDING is set to NOT_CALLED (R3). -/
def notCalled (ds : List Dest) : List Dest :=
  ds.map fun d => if d.result = .pending then { d with result := .notCalled } else d

/-- An order enters FINISHED with its result: destinations, ended time and every duration still running (R3, R7, R24,
R171), and its ORDER_EVENT (R8). -/
def finishOrder (n : Nat) (r : OrderResult) (s : State) : State :=
  enterState n .finished <| updateOrder n (fun o =>
    { o with
      result := some r
      dests := notCalled o.dests
      ended := s.todNow
      queue := o.queue.stop s.now
      prepare := o.prepare.stop s.now
      defer := o.defer.stop s.now
      picture := o.picture.stop s.now
      confirm := o.confirm.stop s.now }) s

/-- The order is QUEUED and bound to the present mount (R10, R12, R18). -/
def State.waitsOnMount (s : State) (o : Order) : Bool :=
  o.state == .queued && s.panel.mountPresent && o.mount == s.panel.mountCounter

/-- Header fields as values (R2, R196). -/
def Header.network (dir : List StationEntry) (station : Nat) : Network :=
  match dir.getD (station - 1) .disabled with
  | .enabled { address := .dial _, .. } => .dial
  | _ => .loop

def Header.mod (h : Header) : Modulation := if h.modulation = 0 then .fm else .am

def Order.urgent (o : Order) : Bool := o.header.cls == 0

/-- Station `n`'s entry in the directory, `none` outside 1..32 or when disabled (R28). -/
def State.station (s : State) (n : Nat) : Option Station :=
  if n = 0 then none
  else match s.directory[n - 1]? with
    | some (.enabled st) => some st
    | _ => none

end Sys2Proof.Machine
end

