-- ==== Sys2Proof/Machine/Carriage.lean ====
section
/-! DEFINITION. The carriage's movements (R89 to R93). -/

namespace Sys2Proof.Machine

/-- One step lasts 2.5 ms at 400 steps per second (R89). -/
def stepTime : Nat := 2500

/-- HOMING and RETURNING (R90). -/
def CarriageState.homeSeeking : CarriageState → Bool
  | .homing | .returning => true
  | _ => false

/-- The carriage state is reported to the run sequencer (R89, R150). -/
def reportCarriage (s : State) : State := s.onRun fun r => { r with carriageReady := s.carriage.state == .home }

/-- The home switch closes or was closed: HOME at position 0 (R90). -/
def Carriage.arriveHome (c : Carriage) : Carriage :=
  { c with state := .home, position := some 0, target := none, stepAt := none, homeClosed := true }

/-- A home-seeking movement begins: steps taken 0, its first step due now; with the home switch already closed it ends at
once in HOME, without a step (R89, R90). -/
def Carriage.seekHome (st : CarriageState) (position : Option Nat) (now : Nat) (c : Carriage) : Carriage :=
  if c.homeClosed then { c with stepsTaken := 0 }.arriveHome
  else { c with state := st, position := position, stepsTaken := 0, target := none, stepAt := some now }

/-- A return request: from ADVANCING the carriage enters RETURNING, or HOME at once with the home switch closed; otherwise
nothing changes (R90, R91). -/
def returnCarriage (s : State) : State :=
  if s.carriage.state = .advancing then
    reportCarriage (s.onCarriage fun c => c.seekHome .returning c.position s.now)
  else s

/-- One outward step: the position counts up, and the carriage leaves the home switch (log entry 28); at the target the
movement ends, else the next step is 2.5 ms later (R89). -/
def Carriage.stepOut (now : Nat) (c : Carriage) : Carriage :=
  let p := c.position.getD 0 + 1
  if c.target = some p then { c with position := some p, target := none, stepAt := none, homeClosed := false }
  else { c with position := some p, stepAt := some (now + stepTime), homeClosed := false }

/-- An outward movement to `target` begins, with its first step (R89, R91). -/
def Carriage.advanceTo (target now : Nat) (c : Carriage) : Carriage :=
  { c with state := .advancing, target := some target }.stepOut now

/-- The line advance by the order's pitch, from HOME or standing in ADVANCING (R91, R97). -/
def advanceByPitch (pitch : Nat) (s : State) : State :=
  if s.carriage.state = .home ∨ s.carriage.state = .advancing then
    reportCarriage (s.onCarriage fun c => c.advanceTo (c.position.getD 0 + pitch) s.now)
  else s

/-- Home was not found: FAULT, position unknown (R90). -/
def Carriage.fail (c : Carriage) : Carriage :=
  { c with state := .fault, position := none, target := none, stepAt := none }

/-- One step toward home: steps taken counts up, the position counts down and not below 0 (R89, R90). -/
def Carriage.stepHome (now : Nat) (c : Carriage) : Carriage :=
  { c with stepsTaken := c.stepsTaken + 1, position := c.position.map (· - 1), stepAt := some (now + stepTime) }

end Sys2Proof.Machine
end

