-- ==== Sys2Proof/Machine/Picture.lean ====
section
/-! DEFINITION. The picture arithmetic (chapter 6), the gain formula (R64), the tone-curve build (R81) and the carrier. -/

namespace Sys2Proof.Machine

/-- The gain for a white of `w` above dark: (4,095 · 4,096 + w ÷ 2) ÷ w (R64). -/
def gainFor (w : Nat) : Nat := (16773120 + w / 2) / w

/-- Stage 3, dark subtraction (R104). -/
def darkSubtract (r o : Nat) : Nat := r - o

/-- Stage 5, normalisation (R105). -/
def normalise (c g : Nat) : Nat := min ((c * g + 2048) / 4096) 4095

/-- Stage 6, polarity (R106). -/
def polarise (negative : Bool) (n : Nat) : Nat := if negative then 4095 - n else n

/-- Stage 7, the tone curve, with the quotient taken as a floor (R107, R108). -/
def curveValue (t : List Nat) (n : Nat) : Nat :=
  let k := n / 256
  let f := n - 256 * k
  let d : Int := Int.ofNat (t.getD (k + 1) 0) - Int.ofNat (t.getD k 0)
  (Int.ofNat (t.getD k 0) + floorDiv (d * Int.ofNat f + 128) 256).toNat

/-- Stages 3 to 7 for one picture sample (R103). -/
def pixel (o g : Nat) (negative : Bool) (curve : List Nat) (r : Nat) : Nat :=
  curveValue curve (polarise negative (normalise (darkSubtract r o) g))

/-- The values of a picture line from its S raw samples: the clamp zone, 0..S/16 − 1, is 4,095 and each picture position
is its sample through the chain (R95, R109). -/
def lineValues (o g : Nat) (negative : Bool) (curve : List Nat) (samples : List Nat) : List Nat :=
  let zone := samples.length / 16
  List.replicate zone 4095 ++ (samples.drop zone).map (pixel o g negative curve)

/-- The values of a phasing line, the black pulse at S/32..S/16 − 1 (R110). -/
def phasingValues (S : Nat) : List Nat :=
  List.replicate (S / 32) 4095 ++ List.replicate (S / 16 - S / 32) 0 ++ List.replicate (S - S / 16) 4095

/-- The FM frequency of a line value, in Hz (R111). -/
def fmHz (st : Settings) (v : Nat) : Nat := st.fBlack + ((st.fWhite - st.fBlack) * v + 2047) / 4095

/-- The AM amplitude step of a line value (R112). -/
def amStep (st : Settings) (v : Nat) : Nat := st.aBlack + ((st.aWhite - st.aBlack) * v + 2047) / 4095

/-- The start of position `p`'s value within the line time `T`, in µs (R113). -/
def valueStart (T S p : Nat) : Nat := p * T / S

/-- The position whose value is held `t` µs after the line's start: the last one with `valueStart T S p ≤ t` (R113). -/
def positionAt (T S t : Nat) : Nat := min (((t + 1) * S - 1) / T) (S - 1)

/-- The segment of a step tablet that holds `x`: the lowest i with m_i ≤ x ≤ m_{i+1}, interpolated and rounded half
away from zero, clamped to 0..4,095 (R81). The pairs are (m_i, v_i) in step order. -/
def tabletSegment (x : Nat) : List (Nat × Nat) → Nat
  | (m1, v1) :: (m2, v2) :: rest =>
    if m1 ≤ x ∧ x ≤ m2 then
      (clamp 0 4095 (Int.ofNat v1 +
        halfAway ((Int.ofNat v2 - Int.ofNat v1) * Int.ofNat (x - m1)) (m2 - m1))).toNat
    else tabletSegment x ((m2, v2) :: rest)
  | _ => 0

/-- Knot value t[k] for a normalised value x_k (R81): v_1 below m_1, v_c above m_c, else the segment's. -/
def tabletKnot (pairs : List (Nat × Nat)) (x : Nat) : Nat :=
  match pairs.head?, pairs.getLast? with
  | some (m1, v1), some (mc, vc) =>
    if x < m1 then v1 else if mc < x then vc else tabletSegment x pairs
  | _, _ => 0

/-- The 17 knots of a new curve (R81). -/
def tabletCurve (pairs : List (Nat × Nat)) : List Nat := (List.range 17).map (fun k => tabletKnot pairs (256 * k))

/-- The first step i (2..c) whose m_i is below m_{i−1} + 16, counting from `i` for the second of the list (R81). -/
def firstNotRising (i : Nat) : List Nat → Option Nat
  | a :: b :: rest => if b < a + 16 then some i else firstNotRising (i + 1) (b :: rest)
  | _ => none

end Sys2Proof.Machine
end

