-- ==== Sys2Proof/Machine/Flags.lean ====
section
/-! DEFINITION. The white of a scanned line and the flags it sets (R99), white tracking (R100, R102) and the low count
(R101). -/

namespace Sys2Proof.Machine

/-- A revolution's samples completed to `S`: positions not reached take the last sample of that revolution (R94). -/
def fillSamples (S : Nat) (samples : List Nat) : List Nat :=
  samples.take S ++ List.replicate (S - samples.length) (samples.getLastD 0)

/-- The next index pulse came before the last position was taken (R94). -/
def miscounted (S : Nat) (samples : List Nat) : Bool := decide (samples.length < S)

/-- The line's white: the average of the S/32 white patch samples less the dark offset, clamped below at 0 (R99). -/
def lineWhite (S o : Nat) (samples : List Nat) : Nat := halfUp (samples.take (S / 32)).sum (S / 32) - o

/-- LAMP_UNSTEADY: a white more than one eighth away from the reference (R99). -/
def lampUnsteady (w : Nat) (wRef : Int) : Bool := decide (wRef < Int.ofNat (Int.ofNat w - wRef).natAbs * 8)

/-- LAMP_WEAK: a white below 512 (R99). -/
def lampWeak (w : Nat) : Bool := decide (w < 512)

/-- The low count after a line of white `w` (R101). -/
def lowCountAfter (w low : Nat) : Nat := if w < 256 then low + 1 else 0

/-- White tracking of one line's white: with the setting ON the white joins the sum, and the sixteenth makes the
average, the new run gain and the new reference, or holds them when the average is below 512 (R100, R102). -/
def ScanRecord.track (w : Nat) (sc : ScanRecord) : ScanRecord :=
  if sc.tracking then
    if sc.trackCount + 1 = 16 then
      let avg := halfUp (sc.trackSum + w) 16
      if 512 ≤ avg then
        { sc with gain := gainFor avg, wRef := Int.ofNat avg, trackSum := 0, trackCount := 0 }
      else { sc with trackSum := 0, trackCount := 0 }
    else { sc with trackSum := sc.trackSum + w, trackCount := sc.trackCount + 1 }
  else sc

/-- The picture line a revolution's samples give (R94, R95, R97 steps 1 and 2, R99): its values by the scan record's
figures and the curve as it stands, and its three flags. -/
def ScanRecord.line (curve : List Nat) (locked : Bool) (sc : ScanRecord) : PictureLine :=
  let raw := fillSamples sc.samplesPerLine sc.samples
  let w := lineWhite sc.samplesPerLine sc.offset raw
  { number := sc.nextLine
    drift := !locked || miscounted sc.samplesPerLine sc.samples
    unsteady := lampUnsteady w sc.wRef
    weak := lampWeak w
    values := lineValues sc.offset sc.gain sc.negative curve raw }

/-- The position that an encoder edge marks, if any: count `c`'s rising edge marks c ÷ 2 at S = 512 for even c, c at
1,024 and 2c at 2,048; its falling edge marks 2c + 1 at 2,048 (R94). -/
def markedPosition (S c : Nat) (edge : Edge) : Option Nat :=
  match edge with
  | .rising =>
    if S = 512 then (if c % 2 = 0 then some (c / 2) else none) else if S = 1024 then some c else some (2 * c)
  | .falling => if S = 2048 then some (2 * c + 1) else none

/-- A sample joins a revolution's samples when the edge marks the next position and it lies below `S` (R94). -/
def takeSample (S c : Nat) (edge : Edge) (r : Nat) (samples : List Nat) : List Nat :=
  if markedPosition S c edge = some samples.length ∧ samples.length < S then samples ++ [r] else samples

end Sys2Proof.Machine
end

