-- ==== Sys2Proof/Machine/Lamp.lean ====
section
/-! DEFINITION. The lamp and its requests (R84 to R88) and the pre-warm request (R12). -/

namespace Sys2Proof.Machine

/-- Who wants the lamp lit (R84). -/
inductive LampRequest where
  | prewarm | run | calibration
  deriving DecidableEq, Repr

def Lamp.standing (q : LampRequest) (l : Lamp) : Bool :=
  match q with
  | .prewarm => l.prewarm
  | .run => l.runReq
  | .calibration => l.calReq

def Lamp.setRequest (q : LampRequest) (b : Bool) (l : Lamp) : Lamp :=
  match q with
  | .prewarm => { l with prewarm := b }
  | .run => { l with runReq := b }
  | .calibration => { l with calReq := b }

/-- Some request stands (R84). -/
def Lamp.wanted (l : Lamp) : Bool := l.prewarm || l.runReq || l.calReq

/-- The lamp is lit in WARMING and READY (R84). -/
def Lamp.lit (l : Lamp) : Bool := l.state != .off

/-- Cold: not lit since power-on, or off for 600 s or more (R85). -/
def Lamp.cold (now : Nat) (l : Lamp) : Bool :=
  match l.offTime with
  | none => true
  | some t => decide (t + sec 600 ≤ now)

/-- A request has joined the set: the idle timer stops, and an OFF lamp without dark hold is lit (R85). -/
def Lamp.answer (now : Nat) (l : Lamp) : Lamp :=
  if l.state = .off ∧ l.darkHold = false then
    { l with idleTimer := none, state := .warming, warmTimer := some (now + sec (if l.cold now then 45 else 8)) }
  else { l with idleTimer := none }

/-- The lamp goes OFF at this moment; its timers stop (R86, R87). -/
def Lamp.putOut (now : Nat) (l : Lamp) : Lamp :=
  { l with state := .off, warmTimer := none, idleTimer := none, offTime := some now }

/-- The lamp state is reported to the run sequencer (R84, R150). -/
def reportLamp (s : State) : State := s.onRun fun r => { r with lampReady := s.lamp.state == .ready }

/-- A lamp request is made; one already standing is not made twice (R84, R85). -/
def lampJoin (q : LampRequest) (s : State) : State :=
  if s.lamp.standing q then s else reportLamp (s.onLamp fun l => (l.setRequest q true).answer s.now)

/-- A lamp request is withdrawn; the last one withdrawn from a lit lamp starts the lamp-idle timer (R84, R86). -/
def lampWithdraw (q : LampRequest) (s : State) : State :=
  if s.lamp.standing q then
    s.onLamp fun l =>
      let l' := l.setRequest q false
      if l'.lit && !l'.wanted then { l' with idleTimer := some (s.now + sec s.settings.lampIdle) } else l'
  else s

/-- A DARK run sets the dark hold: a lit lamp goes OFF at once (R87). -/
def setDarkHold (s : State) : State :=
  reportLamp (s.onLamp fun l => if l.lit then { l.putOut s.now with darkHold := true } else { l with darkHold := true })

/-- The dark hold is cleared; with a request standing the lamp acts as if it had just joined (R87). -/
def clearDarkHold (s : State) : State :=
  reportLamp (s.onLamp fun l =>
    if l.wanted then { l with darkHold := false }.answer s.now else { l with darkHold := false })

/-- At least one QUEUED order is bound to a present mount (R12). -/
def State.prewarmWanted (s : State) : Bool := s.manager.table.any s.waitsOnMount

/-- The pre-warm request is made or withdrawn as its condition stands (R12). -/
def updatePrewarm (s : State) : State :=
  if s.prewarmWanted then lampJoin .prewarm s else lampWithdraw .prewarm s

end Sys2Proof.Machine
end

