-- ==== Sys2Proof/Machine/Calibration.lean ====
section
/-! DEFINITION. Calibration runs: their end (R70, R71), their waits (R72, R76, R77, R80), their revolutions (R72) and
their outcomes (R76, R77, R80 to R82); the periods of a motor calibration (R74, R75). -/

namespace Sys2Proof.Machine

/-! ## The end of a run -/

/-- The spin-hold timer starts, or restarts, at the spin hold setting (R53). -/
def startSpinHold (s : State) : State :=
  s.onDrum fun d => { d with spinHoldTimer := some (s.now + sec s.settings.spinHold) }

/-- The figures of a run that reached no more than its phases show; what was not reached is 0 (R71). -/
def CalRun.figures (c : CalRun) : CalFigures :=
  match c.kind with
  | .motor => .motor c.p1 0 0 0
  | .dark => .dark 0
  | .white => .white 0 0
  | .steps => .steps c.steps.length (c.steps.map fun _ => 0)

/-- What the run held is given back: a DARK run's hold, a WHITE or STEPS run's lamp request, and a STEPS run's waiting move
and carriage (R73, R77, R82, R91). -/
def calGiveBack (k : CalKind) (s : State) : State :=
  match k with
  | .motor => s
  | .dark => clearDarkHold s
  | .white => lampWithdraw .calibration s
  | .steps => returnCarriage ((lampWithdraw .calibration s).onCarriage fun c => { c with waitingMove := none })

/-- A run ends: the record is cleared, the CAL_DONE is placed, what the run held is given back, and after a DARK, WHITE or
STEPS run the spin-hold timer starts unless the door or the STOP key ended it (R53, R70, R71, R73, R82). -/
def calEnd (o : CalOutcome) (f : Option CalFailure) (number : Nat) (fig : CalFigures) (s : State) : State :=
  match s.cal with
  | none => s
  | some c =>
    let s := calGiveBack c.kind (placeNotice (.cal c.kind o f number fig) { s with cal := none })
    if c.kind != .motor && (o == .done || o == .failed) then startSpinHold s else s

/-- A run fails with a number and the figures it has reached (R71). -/
def calFail (f : CalFailure) (number : Nat) (s : State) : State :=
  match s.cal with
  | none => s
  | some c => calEnd .failed (some f) number c.figures s

/-- A run is aborted by the door or the STOP key (R73). -/
def calAbort (o : CalOutcome) (s : State) : State :=
  match s.cal with
  | none => s
  | some c => calEnd o none 0 c.figures s

/-! ## Waiting -/

/-- The lamp has been OFF for at least 1 s by its lamp-off time; an absent one satisfies this (R76). -/
def Lamp.dark (now : Nat) (l : Lamp) : Bool :=
  l.state == .off && (match l.offTime with | none => true | some t => decide (t + sec 1 ≤ now))

/-- What a WAITING run waits for holds (R76, R77, R80). -/
def calReady (c : CalRun) (s : State) : Bool :=
  match c.kind with
  | .motor => false
  | .dark => s.lamp.dark s.now && (s.drum.state == .locked || s.drum.state == .drift)
  | .white => s.lamp.state == .ready && s.drum.state == .locked
  | .steps => c.arrived && s.lamp.state == .ready && s.drum.state == .locked

/-- A WAITING run enters MEASURING when what it waits for holds; a STEPS run reads o and g at that moment (R76, R77,
R80). -/
def calExamine (s : State) : State :=
  match s.cal with
  | none => s
  | some c =>
    if c.phase = .waiting ∧ calReady c s then
      s.onCal fun c => { c with phase := .measuring, offset := s.scanPart.offset, gain := s.scanPart.gain }
    else s

/-- The drum's change of state reaches a DARK, WHITE or STEPS run: SPINNING_DOWN is NO_LOCK, any other may end its waiting
(R58, R72). -/
def drumReportToCal (s : State) : State :=
  match s.cal with
  | none => s
  | some c =>
    if c.kind = .motor then s
    else if s.drum.state = .spinningDown then calFail .noLock 0 s
    else calExamine s

/-- The no-lock condition reaches a DARK, WHITE or STEPS run that is WAITING (R72). -/
def noLockToCal (s : State) : State :=
  match s.cal with
  | none => s
  | some c => if c.kind ≠ .motor ∧ c.phase = .waiting then calFail .noLock 0 s else s

/-- A carriage FAULT reaches a STEPS run (R80, R92). -/
def carriageFaultToCal (s : State) : State :=
  match s.cal with
  | none => s
  | some c => if c.kind = .steps then calFail .carriage 0 s else s

/-! ## The STEPS move -/

/-- Arrival at the position is reported to the STEPS run (R91). -/
def calArrived (s : State) : State := calExamine (s.onCal fun c => { c with arrived := true })

/-- A movement that a STEPS run asked for has no step left to take (R91). -/
def reportArrival (s : State) : State := if s.carriage.target = none then calArrived s else s

/-- From HOME: position 0 is reached at once; any other begins the movement outward (R91). -/
def moveFromHome (p : Nat) (s : State) : State :=
  if p = 0 then calArrived s else reportArrival (reportCarriage (s.onCarriage fun c => c.advanceTo p s.now))

/-- A STEPS run asks for a position: from HOME at once, otherwise the move waits for HOME (R80, R91). -/
def moveTo (p : Nat) (s : State) : State :=
  if s.carriage.state = .home then moveFromHome p s else s.onCarriage fun c => { c with waitingMove := some p }

/-! ## Measuring revolutions -/

/-- The revolutions a measurement needs (R72). -/
def CalKind.needed : CalKind → Nat
  | .motor => 4 | .dark => 1 | .white => 16 | .steps => 8

/-- The sums of one used revolution: all 1,024 raw samples for DARK, the white patch for WHITE, the normalised samples of
each step's range for STEPS (R76, R77, R80). -/
def CalRun.revolutionSums (c : CalRun) : List Nat :=
  let raw := fillSamples 1024 c.samples
  match c.kind with
  | .motor => []
  | .dark => [raw.sum]
  | .white => [(raw.take 32).sum]
  | .steps =>
    c.steps.map fun st =>
      (((raw.drop st.first).take (st.last + 1 - st.first)).map fun r => normalise (darkSubtract r c.offset) c.gain).sum

/-- A revolution is used: for DARK when the drum was LOCKED or DRIFT at the pulse that began it, for WHITE and STEPS when
its revolution report says LOCKED (R72). -/
def CalRun.uses (locked : Bool) (c : CalRun) : Bool :=
  match c.kind with
  | .dark => c.eligible
  | _ => locked

/-- A revolution has ended: a used one joins the sums, and in any case it has passed (R72). -/
def CalRun.countRevolution (locked : Bool) (c : CalRun) : CalRun :=
  if c.uses locked then
    { c with passed := c.passed + 1, used := c.used + 1, sums := List.zipWith (· + ·) c.sums c.revolutionSums }
  else { c with passed := c.passed + 1 }

/-- The outcome of a DARK run (R62, R76). -/
def darkOutcome (c : CalRun) (s : State) : State :=
  let avg := halfUp (c.sums.getD 0 0) 1024
  if 1023 < avg then calEnd .failed (some .darkHigh) avg (.dark avg) s
  else
    calEnd .done none 0 (.dark avg)
      { s with scanPart := { s.scanPart with offset := avg, darkMark := true, whiteMark := false, valid := false } }

/-- The outcome of a WHITE run (R62, R64, R77). -/
def whiteOutcome (c : CalRun) (s : State) : State :=
  let w := halfUp (c.sums.getD 0 0) 512
  if w < s.scanPart.offset + 512 then calEnd .failed (some .whiteLow) w (.white w 0) s
  else
    let g := gainFor (w - s.scanPart.offset)
    calEnd .done none 0 (.white w g)
      { s with scanPart :=
          { s.scanPart with wRaw := w, gain := g, whiteMark := true, valid := s.scanPart.valid || s.scanPart.darkMark } }

/-- A step's measured value (R80). -/
def stepAverage (sum : Nat) (st : TabletStep) : Nat := halfUp sum (8 * (st.last + 1 - st.first))

/-- The outcome of a STEPS run (R81, R82). -/
def stepsOutcome (c : CalRun) (s : State) : State :=
  let m := List.zipWith stepAverage c.sums c.steps
  match firstNotRising 2 m with
  | some i => calEnd .failed (some .notMonotonic) i (.steps c.steps.length m) s
  | none =>
    calEnd .done none 0 (.steps c.steps.length m)
      { s with curve := tabletCurve (m.zip (c.steps.map TabletStep.target)) }

/-- The measurement is complete (R76, R77, R80). -/
def calOutcome (c : CalRun) (s : State) : State :=
  match c.kind with
  | .motor => s
  | .dark => darkOutcome c s
  | .white => whiteOutcome c s
  | .steps => stepsOutcome c s

/-- A revolution of a measuring run has ended: the measurement is complete, or n + 16 revolutions have passed and the run
fails NO_LOCK, or it goes on (R72). -/
def calRevolutionEnd (locked : Bool) (s : State) : State :=
  match s.cal with
  | none => s
  | some c =>
    let c := c.countRevolution locked
    let s := { s with cal := some c }
    if c.kind.needed ≤ c.used then calOutcome c s
    else if c.kind.needed + 16 ≤ c.passed then calFail .noLock 0 s
    else s

/-- A revolution of a measuring run begins, with the sample of position 0 at the index pulse (R72, R94). -/
def calRevolutionBegin (sample : Nat) (s : State) : State :=
  s.onCal fun c =>
    { c with
      revBegun := true
      eligible := s.drum.state == .locked || s.drum.state == .drift
      samples := [sample] }

/-- A revolution report reaches a DARK, WHITE or STEPS run that was MEASURING before this pulse (R72). -/
def revolutionToCal (locked : Bool) (sample : Nat) (s : State) : State :=
  match s.cal with
  | none => s
  | some c =>
    if c.kind ≠ .motor ∧ c.phase = .measuring then
      let s := if c.revBegun then calRevolutionEnd locked s else s
      calRevolutionBegin sample s
    else s

/-! ## MOTOR -/

/-- The drive levels D1 and D2 (section 3.1). -/
def driveLow : Nat := 1200
def driveHigh : Nat := 3600

/-- A speed from an average period (R75); R75 states no value for a period of 0 (log entry 6). -/
def speedOf (p : Nat) : Nat := if p = 0 then Config.speedAtZeroPeriod else halfUp 60000000000 p

/-- A period joins the sum of a measure phase (R74). -/
def CalRun.addPeriod (p : Nat) (c : CalRun) : CalRun := { c with used := c.used + 1, sums := [c.sums.getD 0 0 + p] }

/-- The slope passes: s2 is at least s1 + 20,000 m-rpm (R75). -/
def slopePasses (s1 s2 : Nat) : Bool := decide (s1 + 20000 ≤ s2)

/-- The number a SLOPE failure carries: s2 − s1 in rpm, clamped to 0..65,535 (R71). -/
def slopeNumber (s1 s2 : Nat) : Nat := min ((s2 - s1) / 1000) 65535

/-- The speeds of a successful run are installed and the motor valid mark is set; Kp and Ki are kept (R75). -/
def installSpeeds (s1 s2 : Nat) (s : State) : State :=
  { s with motor := { s.motor with s1 := s1, s2 := s2, valid := true } }

end Sys2Proof.Machine
end

