-- ==== Sys2Proof/Machine/LineUnit.lean ====
section
/-! DEFINITION. The line unit's side of the run sequencer's requests (R129 to R141, R146), its listens and its line
times (R133 to R145). -/

namespace Sys2Proof.Machine

/-! ## Times -/

/-- The turnaround guard, 60 ms (R133). -/
def guardTime : Nat := ms 60

/-- A selective call lasts 1,120 ms (R137). -/
def callTime : Nat := ms 1120

/-- A list of n dial digits takes n · 160 ms (R139). -/
def dialTime (ds : List DialSymbol) : Nat := ms (160 * ds.length)

/-- The window of a listen: 45 s for a DIAL answer, else the reply window setting (R135). -/
def windowTime (st : Settings) (k : Option ListenKind) : Nat :=
  if k = some .dialAnswer then sec 45 else sec st.replyWindow

/-! ## Which requests are taken (R129) -/

/-- The request is taken in the present line state and activity; a STOP_TONE in STOP_TONE and a RELEASE in RELEASING or
IDLE are taken and change nothing (R129). -/
def LineUnit.takes (q : LineRequest) (l : LineUnit) : Bool :=
  match q with
  | .seize => l.state == .idle
  | .call | .poll | .listen | .hold => l.state == .seized && l.activity == some .quiet
  | .start => l.state == .seized && (l.activity == some .quiet || l.activity == some .holding)
  | .stopTone =>
    l.state == .seized &&
      (match l.activity with
        | some .quiet | some .holding | some .startTone | some .phasing | some .picture | some .stopTone => true
        | _ => false)
  | .release => true

/-! ## Signals -/

/-- A sending activity begins its signal when the turnaround guard allows: 60 ms after the last listening end, or at once
(R133). -/
def LineUnit.beginSending (now : Nat) (l : LineUnit) : LineUnit :=
  match l.lastListenEnd with
  | some e =>
    if now < e + guardTime then { l with signal := .guardWait (e + guardTime) } else { l with signal := .sounding now }
  | none => { l with signal := .sounding now }

/-- A listen opens: its window timer starts (R134, R135). -/
def LineUnit.openListen (st : Settings) (now : Nat) (l : LineUnit) : LineUnit :=
  { l with signal := .listen now (some (now + windowTime st l.listenFor)) none }

/-- After the end of a call or of the digits the unit enters LISTENING, and its listen opens after the guard
(R133, R137, R139). -/
def LineUnit.listenAfter (k : ListenKind) (now : Nat) (l : LineUnit) : LineUnit :=
  { l with
    activity := some .listening
    listenFor := some k
    signal := .guardWait (now + guardTime)
    lastSignalEnd := some now }

/-- A listen, for a reply or for dial tone, ends with the unit in QUIET; this moment is the last listening end
(R135, R138). -/
def LineUnit.endListen (now : Nat) (l : LineUnit) : LineUnit :=
  { l with activity := some .quiet, signal := .silent, listenFor := none, lastListenEnd := some now }

/-- The stop tone begins at once; the line timer stops (R145, R146). -/
def LineUnit.beginStopTone (now : Nat) (l : LineUnit) : LineUnit :=
  { l with activity := some .stopTone, signal := .sounding now, timer := none, sent := none, holdAt := none }

/-! ## The requests -/

/-- A SEIZE taken in IDLE: the loop closes, the run figures are cleared, and on LOOP the first call begins, on DIAL the
wait for dial tone (R130, R132). -/
def LineUnit.seized (order : Nat) (net : Network) (code : Nat) (digits : List DialSymbol) (now : Nat) (l : LineUnit) :
    LineUnit :=
  { l with
    state := .seized
    loopClosed := true
    orderNumber := order
    network := some net
    figures := none
    loopTimer := if l.loopCurrent then none else some (now + ms 500)
    lastRequest := some .seize
    activity := some (match net with | .loop => .calling | .dial => .dialing)
    callCode := match net with | .loop => some code | .dial => none
    dialDigits := match net with | .loop => [] | .dial => digits
    signal := match net with | .loop => .sounding now | .dial => .dialTone now }

/-- SEIZE (R129, R130), with its LINE_EVENT SEIZE (R148). -/
def lineSeize (order : Nat) (net : Network) (code : Nat) (digits : List DialSymbol) (s : State) : State :=
  if s.line.takes .seize then
    placeNotice (.line .seize order (some net) none none) (s.onLine (LineUnit.seized order net code digits s.now))
  else s

/-- CALL or POLL: one selective call for the code, after any guard (R133, R137). -/
def lineCall (q : LineRequest) (a : Activity) (code : Nat) (s : State) : State :=
  if s.line.takes q then
    s.onLine fun l =>
      { l with activity := some a, callCode := some code, lastRequest := some q }.beginSending s.now
  else s

/-- LISTEN in QUIET, the DIAL confirmation: the guard counts from the end of the last signal sent (R135). -/
def lineListen (s : State) : State :=
  if s.line.takes .listen then
    s.onLine fun l =>
      let l' := { l with activity := some .listening, listenFor := some .dialConfirm, lastRequest := some .listen }
      match l.lastSignalEnd with
      | some e =>
        if s.now < e + guardTime then { l' with signal := .guardWait (e + guardTime) } else l'.openListen s.settings s.now
      | none => l'.openListen s.settings s.now
  else s

/-- HOLD in QUIET: the first burst is 5 s away (R140). -/
def lineHold (s : State) : State :=
  if s.line.takes .hold then
    s.onLine fun l =>
      { l with
        activity := some .holding, signal := .silent, holdAt := some (s.now + sec 5), lastRequest := some .hold }
  else s

/-- The start tone begins: unless an abort has been taken, the order enters PHASING, its prepare and defer durations stop,
its picture duration begins and the drift run becomes 0 (R141, R147, R159, R165, R172). -/
def startToneBegun (s : State) : State :=
  match s.run with
  | some r =>
    if r.abort = none then
      (enterState r.order .phasing <|
        updateOrder r.order (fun o =>
          { o with prepare := o.prepare.stop s.now, defer := o.defer.stop s.now, picture := .running s.now }) s).onRun
        fun r => { r with drift := 0 }
    else s
  | none => s

/-- The start tone sounds: its beginning is reported (R141). -/
def reportIfStartTone (s : State) : State :=
  match s.line.activity, s.line.signal with
  | some .startTone, .sounding _ => startToneBegun s
  | _, _ => s

/-- START in QUIET or HOLDING: the figures are copied; the start tone follows a hold burst in progress, and otherwise any
guard (R129, R140, R141). -/
def lineStart (fig : Figures) (s : State) : State :=
  if s.line.takes .start then
    reportIfStartTone <| s.onLine fun l =>
      let l' := { l with activity := some .startTone, figures := some fig, holdAt := none, lastRequest := some .start }
      match l.signal with
      | .burst _ => l'
      | _ => l'.beginSending s.now
  else s

/-- STOP_TONE: in QUIET or HOLDING after any guard or hold burst; in START_TONE, PHASING or PICTURE the signal is cut off
and the stop tone begins at once; a start tone that still waits for a guard or a burst gives its place to the stop tone;
in STOP_TONE nothing changes (R129, R140, R145, R146). -/
def lineStopTone (s : State) : State :=
  if s.line.takes .stopTone then
    if s.line.activity = some .stopTone then s
    else
      s.onLine fun l =>
        let l' := { l with activity := some .stopTone, holdAt := none, lastRequest := some .stopTone }
        match l.activity, l.signal with
        | _, .burst _ => l'
        | some .startTone, .guardWait _ => l'
        | some .quiet, _ => l'.beginSending s.now
        | some .holding, _ => l'.beginSending s.now
        | _, _ => l'.beginStopTone s.now
  else s

/-- The release of R131 from its step 1: the signal stops, the reply detector becomes idle, the timers stop, the loop
opens, and the clearing time of 300 ms begins. -/
def LineUnit.released (c : ReleaseCause) (now : Nat) (l : LineUnit) : LineUnit :=
  { l with
    state := .releasing
    loopClosed := false
    activity := none
    signal := .silent
    listenFor := none
    loopTimer := none
    holdAt := none
    timer := none
    sent := none
    releaseAt := some (now + ms 300)
    releaseCause := c }

/-- RELEASE: in SEIZED at once, whatever the activity; otherwise it changes nothing (R129, R131). -/
def lineRelease (s : State) : State :=
  if s.line.state = .seized then
    s.onLine fun l => { l with lastRequest := some .release }.released .request s.now
  else s

/-- The line enters IDLE: the run figures and the last listening end are cleared (R131, R149). -/
def LineUnit.idled (l : LineUnit) : LineUnit :=
  { l with
    state := .idle
    activity := none
    signal := .silent
    network := none
    figures := none
    callCode := none
    dialDigits := []
    lastListenEnd := none
    lastSignalEnd := none
    releaseAt := none
    lastRequest := none }

/-! ## Line times (R142 to R145) -/

/-- Boundary j of a line timer started at `start` (R142). -/
def boundaryAt (rpm start j : Nat) : Nat := start + j * lineTime rpm

/-- The line timer's next boundary has come (R142). -/
def LineUnit.boundaryDue (now : Nat) (l : LineUnit) : Bool :=
  match l.timer, l.figures with
  | some t, some f => decide (boundaryAt f.speed t.start t.next ≤ now)
  | _, _ => false

/-- The line timer starts at the end of the start tone, and phasing line 1 begins (R141, R142, R143). -/
def LineUnit.beginPhasing (now : Nat) (l : LineUnit) : LineUnit :=
  { l with
    activity := some .phasing
    signal := .sounding now
    timer := some { start := now, next := 1 }
    sent := some
      { number := 0, kind := .phasing, values := phasingValues ((l.figures.map Figures.samples).getD 0), start := now }
    lineNumber := 0 }

/-- A line time's line begins at the boundary that has come, its number is kept, and the next boundary is awaited (R120,
R142, R143, R144). -/
def LineUnit.sendLine (number : Nat) (kind : SentKind) (values : List Nat) (l : LineUnit) : LineUnit :=
  match l.timer, l.figures with
  | some t, some f =>
    { l with
      timer := some { t with next := t.next + 1 }
      sent := some { number := number, kind := kind, values := values, start := boundaryAt f.speed t.start t.next }
      lineNumber := number }
  | _, _ => l

/-- The line time that ends sent line L as a take (R145). -/
def LineUnit.lastLineSent (l : LineUnit) : Bool :=
  match l.sent, l.figures with
  | some x, some f => x.kind == .take && x.number == f.lines
  | _, _ => false

end Sys2Proof.Machine
end

