-- ==== Sys2Proof/Machine/Store.lean ====
section
/-! DEFINITION. The line store: opening, the writer, the reader, trim and closing (R116 to R127). -/

namespace Sys2Proof.Machine

/-- Opening for a run (R117). -/
def Store.opened (order samples lines : Nat) : Store :=
  { slots := [], isOpen := true, figures := some { order := order, samples := samples, lines := lines }, lastOut := none }

/-- Closed and cleared (R125, R126, R127). -/
def Store.closed : Store := { slots := [], isOpen := false, figures := none, lastOut := none }

def closeStore (s : State) : State := s.onStore fun _ => Store.closed

/-- The store's answer to an offer (R118). -/
inductive OfferAnswer where
  | accepted | full | discarded
  deriving DecidableEq, Repr

def Store.offerAnswer (st : Store) : OfferAnswer :=
  if st.isOpen then if st.slots.length < 8 then .accepted else .full else .discarded

/-- An offer to the store (R118). -/
def Store.offer (l : PictureLine) (st : Store) : Store :=
  if st.offerAnswer = .accepted then { st with slots := st.slots ++ [l] } else st

/-- The store's answer to the modulator at a picture line time (R120 to R122). -/
inductive ReadAnswer where
  | take (l : PictureLine)
  | repeated (l : PictureLine)
  | extra
  | closed
  deriving DecidableEq, Repr

def Store.readAnswer (st : Store) : ReadAnswer :=
  if st.isOpen then
    match st.slots, st.lastOut with
    | l :: _, _ => .take l
    | [], some l => .repeated l
    | [], none => .extra
  else .closed

/-- The store after its answer: a take moves the oldest line to the last line out (R120); otherwise nothing leaves. -/
def Store.afterRead (st : Store) : Store :=
  match st.readAnswer with
  | .take l => { st with slots := st.slots.tail, lastOut := some l }
  | _ => st

/-- The trim request of a fill (R123). -/
def trimForFill (fill : Nat) : Trim := if fill ≤ 1 then .faster else if fill ≤ 3 then .none else .slower

/-- Any of the three flags is set (R160). -/
def PictureLine.flagged (l : PictureLine) : Bool := l.drift || l.unsteady || l.weak

/-- The counts a store's answer steps up in the order record (R119 to R122, R160). -/
def Counts.afterRead (a : ReadAnswer) (c : Counts) : Counts :=
  match a with
  | .take l =>
    { c with
      sent := satSucc 65535 c.sent
      flagged := if l.flagged then satSucc 65535 c.flagged else c.flagged }
  | .repeated _ => { c with repeats := satSucc 65535 c.repeats }
  | .extra => { c with extra := satSucc 65535 c.extra }
  | .closed => c

/-- One picture line time's reading: the store's state, the counts of the running order and the trim request
(R120 to R123, R160). A closed store counts, reports and asks nothing. -/
def readStore (s : State) : State :=
  match s.store.readAnswer with
  | .closed => s
  | a =>
    let counted :=
      match s.run with
      | some r => updateOrder r.order (fun o => { o with counts := o.counts.afterRead a }) s
      | none => s
    let taken := counted.onStore Store.afterRead
    taken.onDrum fun d => { d with trim := trimForFill taken.store.slots.length }

end Sys2Proof.Machine
end

