-- ==== Sys2Proof/Machine/Sequencer.lean ====
section
/-! DEFINITION. The run sequencer's answers to the reports of its neighbours: aborts (R165 to R169), the roll call
(R152 to R154), the start conditions (R155), phasing and the end of the picture (R159, R162) and the confirmation
(R163). -/

namespace Sys2Proof.Machine

/-! ## Destinations -/

/-- Destination `i`, counting from 1, takes a result (R152). -/
def setDest (i : Nat) (r : DestResult) (o : Order) : Order :=
  { o with dests := o.dests.modify (i - 1) fun d => { d with result := r } }

def Order.anyReady (o : Order) : Bool := o.dests.any (fun d => d.result == .ready)

/-- The list index, from 1, of the first READY destination (R163). -/
def Order.firstReady (o : Order) : Option Nat := (o.dests.findIdx? (fun d => d.result == .ready)).map (· + 1)

/-- The station of destination `i`, counting from 1. -/
def Order.stationAt (o : Order) (i : Nat) : Nat := ((o.dests[i - 1]?).map Dest.station).getD 0

/-- The call code that the run sequencer reads from the directory (R35). -/
def State.callCodeOf (s : State) (n : Nat) : Nat :=
  match (s.station n).map Station.address with
  | some (.loop c) => c
  | _ => 0

/-- The dial digits that the run sequencer reads from the directory (R35). -/
def State.digitsOf (s : State) (n : Nat) : List DialSymbol :=
  match (s.station n).map Station.address with
  | some (.dial ds) => ds
  | _ => []

/-- Every READY destination is written to ABORTED, or to LINE_LOST when the cause is a line loss (R165, R168). -/
def abortDests (c : AbortCause) (ds : List Dest) : List Dest :=
  ds.map fun d => if d.result = .ready then { d with result := if c = .lineLoss then .lineLost else .aborted } else d

/-! ## Aborts -/

/-- The result an abort cause gives (R165). -/
def AbortCause.result : AbortCause → OrderResult
  | .cancel => .cancelled
  | .door => .doorOpen
  | .stop => .stopped
  | .drumFault => .drumFault
  | .lampFault => .lampFault
  | .carriageFault => .carriageFault
  | .deferLimit => .prepTimeout
  | .lineLoss => .lineLost

/-- The order states in which the cause is an abort cause (R166). -/
def AbortCause.actsIn (c : AbortCause) (st : OrderState) : Bool :=
  match c, st with
  | .stop, st => st.isRunning
  | .lineLoss, st => st.isRunning
  | .carriageFault, .preparing => true
  | .deferLimit, .preparing => true
  | .lampFault, .phasing => true
  | .lampFault, .sending => true
  | .cancel, .preparing | .cancel, .phasing | .cancel, .sending => true
  | .door, .preparing | .door, .phasing | .door, .sending => true
  | .drumFault, .preparing | .drumFault, .phasing | .drumFault, .sending => true
  | _, _ => false

/-- The line action of a first cause (R157, R158, R166). `waiting` says that the roll call has ended with a READY
destination. -/
def AbortCause.action (c : AbortCause) (st : OrderState) (waiting : Bool) : LineAction :=
  match c with
  | .stop => .release
  | .lineLoss => .none
  | .lampFault => .stopTone
  | .deferLimit => .stopTone
  | .cancel | .door => if st = .preparing then .release else .stopTone
  | .drumFault | .carriageFault => if st = .preparing && !waiting then .release else .stopTone

/-- The line action is made; a STOP_TONE that the line unit refuses is followed by a RELEASE (R129, R165). -/
def makeLineAction (a : LineAction) (s : State) : State :=
  match a with
  | .none => s
  | .release => lineRelease s
  | .stopTone => if s.line.takes .stopTone then lineStopTone s else lineRelease s

/-- Scanning stops: the scan record is cleared and the carriage is sent home (R98). -/
def stopScan (s : State) : State := returnCarriage { s with scan := none }

/-- The trim request becomes NONE (R54). -/
def trimOff (s : State) : State := s.onDrum fun d => { d with trim := .none }

/-- The first cause of a run is taken, steps 1 to 7 of R165. -/
def firstAbort (c : AbortCause) (r : RunRecord) (o : Order) (s : State) : State :=
  let a := c.action o.state (r.rollEnded && o.anyReady)
  let s := s.onRun fun r => { r with abort := some c, deferTimer := none, action := a }
  let s := updateOrder o.number (fun o => { o with dests := abortDests c o.dests }) s
  let s := closeStore s
  let s := if r.scanStarted && !r.scanComplete then stopScan s else s
  let s := if o.state = .sending then trimOff s else s
  makeLineAction a s

/-- A second cause changes no result; a STOP key cuts a stop tone that is sounding or pending (R169). -/
def secondAbort (c : AbortCause) (r : RunRecord) (s : State) : State :=
  if c = .stop ∧ r.action = .stopTone then lineRelease (s.onRun fun r => { r with action := .release }) else s

/-- An abort cause reaches the run sequencer (R165 to R169). -/
def runAbort (c : AbortCause) (s : State) : State :=
  match s.run with
  | none => s
  | some r =>
    match s.findOrder r.order with
    | none => s
    | some o =>
      if r.abort.isSome then secondAbort c r s
      else if c.actsIn o.state then firstAbort c r o s
      else s

/-! ## Start conditions -/

def RunRecord.figures (r : RunRecord) : Figures :=
  { modulation := r.modulation, speed := r.speed, samples := r.samples, phasing := r.phasing, lines := r.lines }

/-- The start conditions hold and no START has been made (R155). -/
def startConditions (r : RunRecord) (o : Order) : Bool :=
  o.state == .preparing && r.rollEnded && o.anyReady && r.abort.isNone && r.drumReady && r.lampReady && r.carriageReady
    && !r.startMade

/-- The start conditions are examined; when they hold, the START is made (R155). -/
def examineStart (s : State) : State :=
  match s.run with
  | none => s
  | some r =>
    match s.findOrder r.order with
    | none => s
    | some o =>
      if startConditions r o then
        lineStart r.figures (s.onRun fun r => { r with startMade := true, deferTimer := none })
      else s

/-! ## The roll call -/

/-- The roll call has ended: with no READY destination a RELEASE, else the defer duration and timer begin, and the START is
made or a HOLD (R154). -/
def rollCallEnd (s : State) : State :=
  match s.run with
  | none => s
  | some r =>
    match s.findOrder r.order with
    | none => s
    | some o =>
      let s := s.onRun fun r => { r with rollEnded := true }
      if o.anyReady then
        let s := updateOrder o.number (fun o => { o with defer := .running s.now }) s
        let s := examineStart (s.onRun fun r => { r with deferTimer := some (s.now + sec 60) })
        if (s.run.map RunRecord.startMade).getD false then s else lineHold s
      else lineRelease s

/-- The destination result of a roll-call outcome (R152, R153). -/
def rollCallResult : Option ReplyTone → DestResult
  | some .tA => .ready
  | some .tB => .busy
  | none => .noReply

/-- A roll-call outcome: a retry of the same destination, or its result and the next destination or the end of the roll
call (R152, R153). -/
def rollCallStep (out : Option ReplyTone) (r : RunRecord) (o : Order) (s : State) : State :=
  if r.network = .loop ∧ out = none ∧ r.used < r.attempts then
    lineCall .call .calling (s.callCodeOf (o.stationAt r.index)) (s.onRun fun r => { r with used := r.used + 1 })
  else
    let s := updateOrder o.number (setDest r.index (rollCallResult out)) s
    if r.network = .loop ∧ r.index < o.dests.length then
      lineCall .call .calling (s.callCodeOf (o.stationAt (r.index + 1)))
        (s.onRun fun r => { r with index := r.index + 1, used := 1 })
    else rollCallEnd s

/-! ## Confirmation -/

/-- The next READY destination is polled, or the line is released when none is left (R163). -/
def pollNext (s : State) : State :=
  match s.run with
  | none => s
  | some r =>
    match s.findOrder r.order with
    | none => s
    | some o =>
      match o.firstReady with
      | some i => lineCall .poll .polling (s.callCodeOf (o.stationAt i)) s
      | none => lineRelease s

/-- The destination result of a confirmation outcome (R163). -/
def confirmResult : Option ReplyTone → DestResult
  | some .tA => .clean
  | some .tB => .faulty
  | none => .unconfirmed

/-- A confirmation outcome writes the result of the destination polled, the first READY one, and on LOOP the next POLL
follows, on DIAL the RELEASE (R163). -/
def confirmStep (out : Option ReplyTone) (r : RunRecord) (o : Order) (s : State) : State :=
  let s := match o.firstReady with
    | some i => updateOrder o.number (setDest i (confirmResult out)) s
    | none => s
  match r.network with
  | .loop => pollNext s
  | .dial => lineRelease s

/-! ## The line unit's reports (R147) -/

/-- A report that is discarded once an abort has been taken; otherwise the run record and its order answer it (R165). -/
def withRun (f : RunRecord → Order → State → State) (s : State) : State :=
  match s.run with
  | none => s
  | some r =>
    match s.findOrder r.order with
    | none => s
    | some o => if r.abort.isSome then s else f r o s

/-- A listen outcome: T-A, T-B or NONE (R152, R153, R163). -/
def listenOutcome (out : Option ReplyTone) (s : State) : State :=
  withRun (fun r o s =>
    match o.state with
    | .preparing => rollCallStep out r o s
    | .confirming => confirmStep out r o s
    | _ => s) s

/-- NO_DIAL_TONE: the single destination is NO_LINE and the roll call has ended (R153). -/
def noDialToneReport (s : State) : State :=
  withRun (fun r o s =>
    match o.state with
    | .preparing => rollCallEnd (updateOrder o.number (setDest r.index .noLine) s)
    | _ => s) s

/-- The scan record is set up from the order, the calibration record and the white tracking setting (R96, R102). -/
def scanRecordFor (r : RunRecord) (o : Order) (s : State) : ScanRecord :=
  { order := r.order
    samplesPerLine := r.samples
    lines := r.lines
    pitch := o.header.pitch
    negative := o.header.polarity == 1
    nextLine := 1
    offset := s.scanPart.offset
    gain := s.scanPart.gain
    wRef := Int.ofNat s.scanPart.wRaw - Int.ofNat s.scanPart.offset
    tracking := s.settings.whiteTracking
    trackSum := 0
    trackCount := 0
    lowCount := 0
    inRevolution := false
    samples := [] }

/-- The beginning of phasing line `n` is reported; at phasing line P − 2 the scan is asked to start (R143, R159). -/
def phasingLineReport (n : Nat) (s : State) : State :=
  withRun (fun r o s =>
    if o.state = .phasing ∧ n + 2 = r.phasing then
      { s.onRun (fun r => { r with scanStarted := true }) with scan := some (scanRecordFor r o s) }
    else s) s

/-- Phasing has ended: the order enters SENDING (R159). -/
def phasingEndedReport (s : State) : State :=
  withRun (fun r o s => if o.state = .phasing then enterState r.order .sending s else s) s

/-- The end of picture line L: the order enters ENDING, the store closes and the trim request becomes NONE (R125, R162). -/
def endOfPictureReport (s : State) : State :=
  withRun (fun r o s =>
    if o.state = .sending then trimOff (closeStore (enterState r.order .ending s)) else s) s

/-- The end of a full stop tone: after an abort the picture duration ends and a RELEASE follows; in ENDING the order enters
CONFIRMING, and the confirmation begins (R163, R165, R172). -/
def stopToneEndedReport (s : State) : State :=
  match s.run with
  | none => s
  | some r =>
    match s.findOrder r.order with
    | none => s
    | some o =>
      if r.abort.isSome then
        lineRelease <| updateOrder r.order (fun o => { o with picture := o.picture.stop s.now })
          (s.onRun fun r => { r with action := .release })
      else if o.state = .ending then
        let s := enterState r.order .confirming <|
          updateOrder r.order (fun o => { o with picture := o.picture.stop s.now, confirm := .running s.now }) s
        match r.network with
        | .loop => pollNext s
        | .dial => lineListen s
      else s

/-- The defer timer expires: PREP_TIMEOUT (R156). -/
def deferExpired (s : State) : State := runAbort .deferLimit (s.onRun fun r => { r with deferTimer := none })

/-! ## Reports of the drum and the carriage -/

/-- The drum's state is reported to the run: drum ready is LOCKED at the order's speed, and the start conditions are
examined (R58, R150, R155). -/
def drumReportToRun (s : State) : State :=
  examineStart (s.onRun fun r => { r with drumReady := s.drum.state == .locked && s.drum.target == r.speed })

/-- The no-lock condition is an abort cause in PREPARING (R46, R157). -/
def noLockToRun (s : State) : State :=
  withRun (fun _ o s => if o.state = .preparing then runAbort .drumFault s else s) s

/-- A revolution report reaches the run: in PHASING and SENDING the drift run counts consecutive ones marked not locked, and
eight are DRUM_FAULT (R161). It is kept after an abort too, which discards only the line unit's reports (R165), and stays
at 8, the top of its range (R150); eight are then a second cause (R169). -/
def revolutionToRun (locked : Bool) (s : State) : State :=
  match s.run with
  | none => s
  | some r =>
    match s.findOrder r.order with
    | none => s
    | some o =>
      if o.state = .phasing ∨ o.state = .sending then
        let n := if locked then 0 else satSucc 8 r.drift
        let s := s.onRun fun r => { r with drift := n }
        if 8 ≤ n then runAbort .drumFault s else s
      else s

/-- One rescan is counted (R119, R160). -/
def countRescan (s : State) : State :=
  withRun (fun r _ s =>
    updateOrder r.order (fun o => { o with counts := { o.counts with rescans := satSucc 65535 o.counts.rescans } }) s) s

/-- The normal result of a run that ends without an abort cause (R164). -/
def Order.normalResult (o : Order) : OrderResult :=
  if o.state = .preparing then .noStation
  else if o.dests.all (fun d => d.result == .clean) then .complete
  else .partialResult

end Sys2Proof.Machine
end

