-- ==== Sys2Proof/Machine/Drum.lean ====
section
/-! DEFINITION. The drum control unit: feed-forward and feasibility (R44), speed and stop requests (R38, R39), the motor
calibration at the drum (R48, R75), stall and no-lock (R46, R47), the loop step (R42, R43), the lock test (R45), the
revolution report (R58) and RESTART (R60). -/

namespace Sys2Proof.Machine

/-- The turning states (R37). -/
def DrumState.isTurning : DrumState → Bool
  | .spinningUp | .locked | .drift => true
  | _ => false

/-! ## Feed-forward (R44) -/

/-- D_ff for a speed in rpm (R44). -/
def feedForward (m : MotorPart) (rpm : Nat) : Int :=
  let num : Int := (Int.ofNat (rpm * 1000) - Int.ofNat m.s1) * 2400
  let den : Int := Int.ofNat m.s2 - Int.ofNat m.s1
  1200 + (if den < 0 then halfAway (-num) den.natAbs else halfAway num den.natAbs)

/-- The speed is feasible: D_ff lies within 200..3,900 (R44). -/
def feasible (m : MotorPart) (rpm : Nat) : Bool := decide (200 ≤ feedForward m rpm) && decide (feedForward m rpm ≤ 3900)

/-! ## Notices and reports -/

/-- A DRUM_EVENT with the fields as they stand (R56). -/
def drumEvent (c : DrumCause) (s : State) : State :=
  placeNotice (.drum c s.drum.state s.drum.target s.drum.drive (s.drum.period.getD 0) s.drum.clip) s

/-- A change of drum state is reported to the run and to a calibration run in progress (R58). -/
def reportDrum (s : State) : State := drumReportToCal (drumReportToRun s)

/-- A change of drum state: its DRUM_EVENT STATE, then its reports (R56, R58). -/
def drumChanged (s : State) : State := reportDrum (drumEvent .state s)

/-! ## Speed requests (R38) -/

/-- The entry to SPINNING_UP (R38 step 5). -/
def Drum.spinUp (rpm dff now : Nat) (d : Drum) : Drum :=
  { d with
    state := .spinningUp
    target := rpm
    dff := some dff
    drive := dff
    integral := 0
    inCount := 0
    outCount := 0
    clip := false
    trim := .none
    brake := false
    noLock := false
    spinUpTimer := some (now + sec 20)
    quietTimer := none
    spinHoldTimer := none
    stallTimer := some (now + sec 3) }

/-- A speed request passes steps 1 to 3 of R38. -/
def State.speedTaken (rpm : Nat) (s : State) : Bool :=
  s.panel.door == .closed && s.drum.state != .fault && s.drum.state != .calibrating && s.motor.valid
    && feasible s.motor rpm

/-- LOCKED at this speed or SPINNING_UP toward it (R38 step 4). -/
def Drum.atSpeed (rpm : Nat) (d : Drum) : Bool := (d.state == .locked || d.state == .spinningUp) && d.target == rpm

/-- A speed request: refused it changes nothing; taken at speed it changes nothing; otherwise the drum enters SPINNING_UP,
with a DRUM_EVENT when that is a change of state (R38, R56). -/
def speedRequest (rpm : Nat) (s : State) : State :=
  if s.speedTaken rpm then
    if s.drum.atSpeed rpm then s
    else
      let t := s.onDrum (Drum.spinUp rpm (feedForward s.motor rpm).toNat s.now)
      if s.drum.state = .spinningUp then reportDrum t else drumChanged t
  else s

/-! ## Stop requests (R39) -/

/-- The entry to SPINNING_DOWN by a stop request (R39). -/
def Drum.spinDown (now : Nat) (d : Drum) : Drum :=
  { d with
    state := .spinningDown
    target := 0
    dff := none
    drive := 0
    integral := 0
    brake := true
    clip := false
    trim := .none
    noLock := false
    spinUpTimer := none
    stallTimer := none
    spinHoldTimer := none
    quietTimer := some (now + sec 2) }

def enterSpinningDown (s : State) : State := drumChanged (s.onDrum (Drum.spinDown s.now))

/-- A stop request; FAULT is left only by one from DRUM_SPIN (R39). -/
def stopRequest (fromSpin : Bool) (s : State) : State :=
  match s.drum.state with
  | .spinningUp | .locked | .drift | .calibrating => enterSpinningDown s
  | .fault => if fromSpin then enterSpinningDown s else s
  | .stopped | .spinningDown => s

/-! ## Motor calibration at the drum (R48, R74, R75) -/

/-- The entry to CALIBRATING (R48). -/
def Drum.calibrate (now : Nat) (d : Drum) : Drum :=
  { d with
    state := .calibrating
    target := 0
    dff := none
    drive := driveLow
    integral := 0
    inCount := 0
    outCount := 0
    clip := false
    trim := .none
    brake := false
    noLock := false
    spinUpTimer := none
    quietTimer := none
    spinHoldTimer := none
    stallTimer := some (now + sec 3) }

/-- The end of MEASURE_HIGH: s1 and s2, the slope check, the drum to SPINNING_DOWN and then the CAL_DONE (R75). -/
def motorComplete (p1 p2 : Nat) (s : State) : State :=
  let s1 := speedOf p1
  let s2 := speedOf p2
  if slopePasses s1 s2 then
    calEnd .done none 0 (.motor p1 p2 s1 s2) (stopRequest false (installSpeeds s1 s2 s))
  else calEnd .failed (some .slope) (slopeNumber s1 s2) (.motor p1 p2 s1 s2) (stopRequest false s)

/-- A period reaches the motor calibration: in a measure phase it joins the sum, and the fourth ends the phase (R74). -/
def motorPeriod (p : Nat) (s : State) : State :=
  match s.cal with
  | none => s
  | some c =>
    let c' := c.addPeriod p
    match c.phase with
    | .measureLow =>
      if c'.used = 4 then
        { s with
          cal := some
            { c' with
              phase := .settleHigh, p1 := halfUp (c'.sums.getD 0 0) 4, settleTimer := some (s.now + sec 3), sums := [0]
              used := 0 }
          drum := { s.drum with drive := driveHigh } }
      else { s with cal := some c' }
    | .measureHigh =>
      if c'.used = 4 then motorComplete c.p1 (halfUp (c'.sums.getD 0 0) 4) s else { s with cal := some c' }
    | _ => s

/-! ## No-lock and stall (R46, R47) -/

/-- The spin-up limit has expired in SPINNING_UP: the no-lock condition is set, noticed and reported (R46). -/
def noLockFound (s : State) : State :=
  noLockToCal <| noLockToRun <| drumEvent .noLock <| s.onDrum fun d => { d with noLock := true, spinUpTimer := none }

/-- The entry to FAULT (R37, R47). -/
def Drum.stalled (d : Drum) : Drum :=
  { d with
    state := .fault
    target := 0
    dff := none
    drive := 0
    brake := true
    trim := .none
    noLock := false
    spinUpTimer := none
    stallTimer := none
    quietTimer := none
    spinHoldTimer := none }

/-- A stall: FAULT, its DRUM_EVENT STALL, and the reports to the run and to a calibration run (R47, R72, R157, R161). -/
def stallFound (s : State) : State :=
  calFail .stall 0 <| runAbort .drumFault <| drumReportToRun <| drumEvent .stall <| s.onDrum Drum.stalled

/-! ## The revolution (R41) -/

/-- The measure of a revolution at an index pulse: P, the last index time and the stall timer (R41). -/
def Drum.measure (now : Nat) (d : Drum) : Drum :=
  { d with
    period := match d.lastIndex with
      | some t => if now < t + sec 3 then some (now - t) else none
      | none => none
    lastIndex := some now
    stallTimer := if 0 < d.drive then some (now + sec 3) else d.stallTimer }

/-- T_target: the nominal period moved by the trim amount (R42). -/
def targetPeriod (st : Settings) (d : Drum) : Nat :=
  let T := lineTime d.target
  let amount := halfUp (T * st.trim) 1000000
  match d.trim with
  | .none => T
  | .faster => T - amount
  | .slower => T + amount

/-- The loop error e in ppm, clamped to −100,000..+100,000 (R42). -/
def loopError (P T : Nat) : Int := clamp (-100000) 100000 (halfAway ((Int.ofNat P - Int.ofNat T) * 1000000) T)

/-- The lock error e_nom in ppm (R42). -/
def lockError (P T : Nat) : Nat := halfUp ((Int.ofNat P - Int.ofNat T).natAbs * 1000000) T

/-- The integral term after an error `e` (R43 step 1). -/
def integralAfter (m : MotorPart) (e i : Int) : Int := clamp (-1024) 1024 (i + truncZero (e * Int.ofNat m.ki) 1024)

/-- The unclamped drive (R43 steps 2 and 3). -/
def unclampedDrive (m : MotorPart) (dff : Nat) (e i : Int) : Int := Int.ofNat dff + truncZero (e * Int.ofNat m.kp) 256 + i

/-- The loop step: I, D and CLIP, and the stall timer, which stops when D becomes 0 and starts when D rises from 0
(R43, R47). -/
def Drum.loopStep (m : MotorPart) (st : Settings) (P now : Nat) (d : Drum) : Drum :=
  let e := loopError P (targetPeriod st d)
  let i := integralAfter m e d.integral
  let u := unclampedDrive m (d.dff.getD 0) e i
  let D := (clamp 0 4095 u).toNat
  { d with
    integral := i
    clip := decide (u < 0) || decide (4095 < u)
    drive := D
    stallTimer := if D = 0 then none else if d.drive = 0 then some (now + sec 3) else d.stallTimer }

/-- The revolution is within the window (R42). -/
def withinWindow (st : Settings) (P rpm : Nat) : Bool := decide (lockError P (lineTime rpm) ≤ st.lockWindow)

/-- The lock test (R45). -/
def Drum.lockTest (within : Bool) (d : Drum) : Drum :=
  match d.state with
  | .spinningUp | .drift =>
    if within then
      if d.inCount + 1 = 4 then
        { d with state := .locked, inCount := 0, outCount := 0, spinUpTimer := none, noLock := false }
      else { d with inCount := d.inCount + 1 }
    else { d with inCount := 0 }
  | .locked =>
    if within then { d with outCount := 0 }
    else if d.outCount + 1 = 2 then { d with state := .drift, inCount := 0, outCount := 0 }
    else { d with outCount := d.outCount + 1 }
  | _ => d

/-- The loop step and the lock test of a measured revolution, with the DRUM_EVENTs CLIP and STATE in that order
(R41, R43, R45, R56). -/
def regulate (P : Nat) (s : State) : State :=
  let t := s.onDrum (Drum.loopStep s.motor s.settings P s.now)
  let t := if !s.drum.clip && t.drum.clip then drumEvent .clip t else t
  let u := t.onDrum (Drum.lockTest (withinWindow s.settings P s.drum.target))
  if u.drum.state = t.drum.state then u else drumChanged u

/-! ## Spin hold (R53) and RESTART (R60) -/

/-- An order is in a running state (R18). -/
def State.orderRunning (s : State) : Bool := s.runningOrder.isSome

/-- The drum at a RESTART; no DRUM_EVENT is sent (R60). -/
def Drum.restart (keepSpin : Bool) (spinHold now : Nat) (d : Drum) : Drum :=
  match d.state with
  | .spinningUp | .locked | .drift =>
    if keepSpin then { d with trim := .none, spinHoldTimer := some (now + sec spinHold) } else d.spinDown now
  | .calibrating | .fault => d.spinDown now
  | .spinningDown | .stopped => { d with trim := .none, spinHoldTimer := none }

end Sys2Proof.Machine
end

