-- ==== Sys2Proof/Machine/Operands.lean ====
section
/-! DEFINITION. The payloads of the requests: their lengths (R196's catalogue) and their fields by the layout tables
(R196). -/

namespace Sys2Proof.Machine

/-! ## Request kinds and lengths -/

/-- The kinds of the catalogue's requests, 0x01..0x13 (R196). -/
def knownKind (k : Byte) : Bool := 1 ≤ k.toNat && k.toNat ≤ 0x13

/-- The payload length agrees with the catalogue (R196). The length of a STATION_LOAD is read from its dial digit count
byte and that of a CAL_RUN from its first and fourth bytes, taken as given; a payload too short to hold the byte its
length is read from does not agree. -/
def lengthAgrees (k : Byte) (p : List Byte) : Bool :=
  match k.toNat with
  | 0x01 => p.length == 0
  | 0x02 => p.length == 29
  | 0x03 => p.length == 0
  | 0x04 => p.length == 14
  | 0x05 => decide (19 ≤ p.length) && p.length == 21 + byteAt p 18
  | 0x06 => p.length == 1
  | 0x07 => p.length == 19
  | 0x08 => p.length == 1
  | 0x09 => p.length == 34
  | 0x0A =>
    if p.length = 0 then false
    else if byteAt p 0 = 3 then decide (4 ≤ p.length) && p.length == 4 + 4 * byteAt p 3
    else p.length == 1
  | 0x0B => decide (20 ≤ p.length) && decide (p.length ≤ 60)
  | 0x0C => decide (3 ≤ p.length) && decide (p.length ≤ 60)
  | 0x0D => p.length == 2
  | 0x0E => p.length == 4
  | 0x0F => p.length == 0
  | 0x10 => p.length == 1
  | 0x11 => p.length == 1
  | 0x12 => p.length == 2
  | 0x13 => p.length == 1
  | _ => false

/-! ## Order header (R196) -/

def Header.ofPayload (p : List Byte) : Header :=
  { hostRef := longAt p 0
    mount := wordAt p 4
    cls := byteAt p 6
    speed := byteAt p 7
    samples := wordAt p 8
    pitch := byteAt p 10
    length := wordAt p 11
    modulation := byteAt p 13
    polarity := byteAt p 14
    phasing := byteAt p 15
    attempts := byteAt p 16
    destCount := byteAt p 17
    captionLen := byteAt p 18 }

/-- The last flag of an ORDER_BEGIN (byte 19) or ORDER_PART (byte 2): 0 clear, any other value set (R196). -/
def lastFlag (p : List Byte) (i : Nat) : Bool := byteAt p i != 0

/-- Field `i` of the header is in its range, by R16's field numbers. -/
def Header.inRange (h : Header) : Nat → Bool
  | 1 => decide (h.cls ≤ 1)
  | 2 => h.speed == 60 || h.speed == 90 || h.speed == 120
  | 3 => h.samples == 512 || h.samples == 1024 || h.samples == 2048
  | 4 => decide (2 ≤ h.pitch) && decide (h.pitch ≤ 8)
  | 5 => decide (20 ≤ h.length) && decide (h.length ≤ 5000)
  | 6 => decide (h.modulation ≤ 1)
  | 7 => decide (h.polarity ≤ 1)
  | 8 => decide (10 ≤ h.phasing) && decide (h.phasing ≤ 30)
  | 9 => decide (1 ≤ h.attempts) && decide (h.attempts ≤ 3)
  | 10 => decide (1 ≤ h.destCount) && decide (h.destCount ≤ 24)
  | 11 => decide (h.captionLen ≤ 64)
  | _ => true

/-- The number of the first header field out of range (R16 step 2). -/
def Header.firstOutOfRange (h : Header) : Option Nat :=
  [1, 2, 3, 4, 5, 6, 7, 8, 9, 10, 11].find? (fun i => !h.inRange i)

/-- Unprintable bytes of a caption are stored as '?' (R2). -/
def captionOf (bs : List Byte) : List Char := bs.map fun b => if printable b then charOf b else '?'

/-! ## Station entry (R196) -/

/-- The fields of a STATION_LOAD, as given. -/
structure StationFields where
  number : Nat
  enabled : Nat
  nameLen : Nat
  name : List Byte
  network : Nat
  code : Nat
  digits : List Byte
  speeds : Nat
  mods : Nat
  deriving DecidableEq, Repr

def StationFields.ofPayload (p : List Byte) : StationFields :=
  let d := byteAt p 18
  { number := byteAt p 0
    enabled := byteAt p 1
    nameLen := byteAt p 2
    name := ((p.drop 3).take 12).take (byteAt p 2)
    network := byteAt p 15
    code := wordAt p 16
    digits := (p.drop 19).take d
    speeds := byteAt p (19 + d)
    mods := byteAt p (20 + d) }

/-- The dial symbols of bytes, if every one is a symbol (R31 step 6). -/
def dialSymbols (bs : List Byte) : Option (List DialSymbol) :=
  bs.foldr (fun b acc => match dialSymbolOf b, acc with
    | some d, some ds => some (d :: ds)
    | _, _ => none) (some [])

/-- A speed set's byte, bit i for the i-th of 60, 90 and 120 (R196). -/
def speedsByte (st : Station) : Nat :=
  (if st.rpm60 then 1 else 0) + (if st.rpm90 then 2 else 0) + (if st.rpm120 then 4 else 0)

/-- A modulation set's byte (R196). -/
def modsByte (st : Station) : Nat := (if st.fm then 1 else 0) + (if st.am then 2 else 0)

/-- The station a valid load describes (R32): the name, the code or the digits, and the capability sets. -/
def StationFields.station (f : StationFields) : Station :=
  { name := f.name.map charOf
    address := if f.network = 0 then .loop f.code else .dial ((dialSymbols f.digits).getD [])
    rpm60 := f.speeds % 2 == 1
    rpm90 := f.speeds / 2 % 2 == 1
    rpm120 := f.speeds / 4 % 2 == 1
    fm := f.mods % 2 == 1
    am := f.mods / 2 % 2 == 1 }

/-! ## Calibration record (R196) -/

/-- The fields of a CAL_LOAD, as given. -/
structure CalFields where
  selector : Nat
  s1 : Nat
  s2 : Nat
  kp : Nat
  ki : Nat
  offset : Nat
  wRaw : Nat
  gain : Nat
  deriving DecidableEq, Repr

def CalFields.ofPayload (p : List Byte) : CalFields :=
  { selector := byteAt p 0, s1 := longAt p 1, s2 := longAt p 5, kp := wordAt p 9, ki := wordAt p 11
    offset := wordAt p 13, wRaw := wordAt p 15, gain := wordAt p 17 }

/-- The 17 knots of a CURVE_LOAD (R196). -/
def knotsOf (p : List Byte) : List Nat := (List.range 17).map fun k => wordAt p (2 * k)

/-- A step of a CAL_RUN STEPS, from its four-byte number: first · 4,194,304 + last · 4,096 + v (R196). -/
def TabletStep.ofNumber (n : Nat) : TabletStep :=
  { first := n / 4194304, last := n / 4096 % 1024, target := n % 4096 }

/-- The fields of a CAL_RUN STEPS after its kind byte: the position and the steps (R78, R196). -/
def stepsOf (p : List Byte) : List TabletStep :=
  (List.range (byteAt p 3)).map fun i => TabletStep.ofNumber (longAt p (4 + 4 * i))

/-! ## Settings record (R197) -/

/-- The fields of a SETTINGS_SET, as given. -/
structure SettingsFields where
  fBlack : Nat
  fWhite : Nat
  aBlack : Nat
  aWhite : Nat
  lockWindow : Nat
  trim : Nat
  spinHold : Nat
  lampIdle : Nat
  replyWindow : Nat
  whiteTracking : Nat
  slipMode : Nat
  nameLen : Nat
  name : List Byte
  deriving DecidableEq, Repr

/-- The fields of a SETTINGS_SET payload. The transmitter name's bytes past its length byte are neither examined nor kept,
the model's choice (log entry 29). -/
def SettingsFields.ofPayload (p : List Byte) : SettingsFields :=
  { fBlack := wordAt p 0
    fWhite := wordAt p 2
    aBlack := byteAt p 4
    aWhite := byteAt p 5
    lockWindow := wordAt p 6
    trim := byteAt p 8
    spinHold := wordAt p 9
    lampIdle := wordAt p 11
    replyWindow := byteAt p 13
    whiteTracking := byteAt p 14
    slipMode := byteAt p 15
    nameLen := byteAt p 16
    name := ((p.drop 17).take 12).take (byteAt p 16) }

/-- Field `i` of the settings is in its range, with the condition its row gives (R197). -/
def SettingsFields.inRange (f : SettingsFields) : Nat → Bool
  | 1 => decide (1200 ≤ f.fBlack) && decide (f.fBlack ≤ 2000)
  | 2 => decide (1800 ≤ f.fWhite) && decide (f.fWhite ≤ 2600) && decide (f.fBlack + 400 ≤ f.fWhite)
  | 3 => decide (f.aBlack ≤ 255)
  | 4 => decide (f.aWhite ≤ 255) && decide (f.aBlack + 32 ≤ f.aWhite)
  | 5 => decide (10 ≤ f.lockWindow) && decide (f.lockWindow ≤ 500)
  | 6 => decide (f.trim ≤ 250) && decide (f.trim ≤ f.lockWindow / 2)
  | 7 => decide (f.spinHold ≤ 600)
  | 8 => decide (f.lampIdle ≤ 3600)
  | 9 => decide (1 ≤ f.replyWindow) && decide (f.replyWindow ≤ 10)
  | 10 => decide (f.whiteTracking ≤ 1)
  | 11 => decide (f.slipMode ≤ 1)
  | 12 => decide (1 ≤ f.nameLen) && decide (f.nameLen ≤ 12) && f.name.all printable
  | _ => true

/-- The number of the first settings field out of range (R197 step 2). -/
def SettingsFields.firstOutOfRange (f : SettingsFields) : Option Nat :=
  [1, 2, 3, 4, 5, 6, 7, 8, 9, 10, 11, 12].find? (fun i => !f.inRange i)

/-- The record that valid fields give (R197). -/
def SettingsFields.settings (f : SettingsFields) : Settings :=
  { fBlack := f.fBlack, fWhite := f.fWhite, aBlack := f.aBlack, aWhite := f.aWhite, lockWindow := f.lockWindow
    trim := f.trim, spinHold := f.spinHold, lampIdle := f.lampIdle, replyWindow := f.replyWindow
    whiteTracking := f.whiteTracking == 1, slipMode := f.slipMode == 1, name := f.name.map charOf }

/-- The record in the layout of SETTINGS_SET (R197, R198): the name's length, then its 12 bytes padded with spaces. -/
def Settings.bytes (st : Settings) : List Byte :=
  u16 st.fBlack ++ u16 st.fWhite ++ u8 st.aBlack ++ u8 st.aWhite ++ u16 st.lockWindow ++ u8 st.trim
    ++ u16 st.spinHold ++ u16 st.lampIdle ++ u8 st.replyWindow ++ mark st.whiteTracking ++ mark st.slipMode
    ++ u8 st.name.length ++ textBytes (padTo 12 st.name)

end Sys2Proof.Machine
end

