-- ==== Sys2Proof/Machine/Slips.lean ====
section
/-! DEFINITION. Slip composition and layout (R174 to R179), the print rows (R182), the start of a slip (R181) and
retirement (R25, R175). -/

namespace Sys2Proof.Machine

/-! ## Text -/

def decimal (n : Nat) : List Char := Nat.toDigits 10 n

def digitChar (n : Nat) : Char := Char.ofNat (48 + n % 10)

def twoDigits (n : Nat) : List Char := [digitChar (n / 10), digitChar n]

/-- A duration in 0.1 s: whole seconds, a full stop, the tenths digit (R176). -/
def tenthsText (t : Nat) : List Char := decimal (t / 10) ++ ['.', digitChar t]

/-- HH:MM:SS, or "--:--:--" when absent (R176, R179). -/
def timeText : Option Nat → List Char
  | some t => twoDigits (t / 3600) ++ [':'] ++ twoDigits (t % 3600 / 60) ++ [':'] ++ twoDigits (t % 60)
  | none => "--:--:--".toList

def OrderResult.name : OrderResult → List Char
  | .complete => "COMPLETE".toList
  | .partialResult => "PARTIAL".toList
  | .noStation => "NO_STATION".toList
  | .cancelled => "CANCELLED".toList
  | .mountGone => "MOUNT_GONE".toList
  | .doorOpen => "DOOR_OPEN".toList
  | .stopped => "STOPPED".toList
  | .drumFault => "DRUM_FAULT".toList
  | .lampFault => "LAMP_FAULT".toList
  | .carriageFault => "CARRIAGE_FAULT".toList
  | .lineLost => "LINE_LOST".toList
  | .prepTimeout => "PREP_TIMEOUT".toList

def DestResult.name : DestResult → List Char
  | .pending => "PENDING".toList
  | .ready => "READY".toList
  | .busy => "BUSY".toList
  | .noReply => "NO_REPLY".toList
  | .noLine => "NO_LINE".toList
  | .clean => "CLEAN".toList
  | .faulty => "FAULTY".toList
  | .unconfirmed => "UNCONFIRMED".toList
  | .aborted => "ABORTED".toList
  | .lineLost => "LINE_LOST".toList
  | .notCalled => "NOT_CALLED".toList

def QueryReason.name : QueryReason → List Char
  | .hostTimeout => "HOST_TIMEOUT".toList
  | .operator => "OPERATOR".toList

/-! ## Layout -/

/-- The heading line (R176). -/
def headingLine (transmitter : List Char) (n : Nat) : List Char := padTo 12 transmitter ++ " NO ".toList ++ decimal n

/-- The date line: date text or ten dashes, stale mark, a space, the ended time (R176). -/
def dateLine (clock : Option Clock) (ended : Option Nat) : List Char :=
  (match clock with
    | some c => c.date ++ [if c.stale then '*' else ' ']
    | none => "---------- ".toList) ++ [' '] ++ timeText ended

/-- The caption cut at 24 characters into 0..3 lines (R177). -/
def captionLines (c : List Char) : List (List Char) :=
  [c.take 24, (c.drop 24).take 24, c.drop 48].filter (fun t => !t.isEmpty)

/-- A destination line: the name padded to 12, a space, the result name (R36, R177). -/
def destLine (name : List Char) (r : DestResult) : List Char := padTo 12 name ++ [' '] ++ r.name

/-- Two items on one line when they fit 24 characters, else on two (R178). -/
def pairLine (a b : List Char) : List (List Char) :=
  if (a ++ [' '] ++ b).length ≤ 24 then [a ++ [' '] ++ b] else [a, b]

/-- The count and time lines (R178). -/
def countLines (o : Order) (now : Nat) : List (List Char) :=
  ["LINES ".toList ++ decimal o.counts.sent ++ ['/'] ++ decimal o.lines]
    ++ pairLine ("REPEATS ".toList ++ decimal o.counts.repeats) ("RESCANS ".toList ++ decimal o.counts.rescans)
    ++ pairLine ("FLAGGED ".toList ++ decimal o.counts.flagged) ("EXTRA ".toList ++ decimal o.counts.extra)
    ++ pairLine ("QUEUE ".toList ++ tenthsText (o.queue.value now))
        ("PREP ".toList ++ tenthsText (o.prepare.value now) ++ " (".toList ++ tenthsText (o.defer.value now) ++ [')'])
    ++ pairLine ("PICT ".toList ++ tenthsText (o.picture.value now)) ("CONF ".toList ++ tenthsText (o.confirm.value now))

/-- The query lines (R179). -/
def queryLines (o : Order) : List (List Char) :=
  o.marks.map (fun m => "Q ".toList ++ timeText m.tod ++ [' '] ++ m.reason.name)
    ++ (if o.marks.length < o.queryCount then ["QUERIES ".toList ++ decimal o.queryCount] else [])

/-- The name on a destination line: the directory entry's (R36). -/
def State.stationName (s : State) (n : Nat) : List Char := ((s.station n).map Station.name).getD []

/-- The text of an order's slip (R175 to R179). -/
def slipText (o : Order) (s : State) : List (List Char) :=
  [headingLine s.settings.name o.number, dateLine s.clock o.ended, (o.result.map OrderResult.name).getD []]
    ++ captionLines o.caption
    ++ o.dests.map (fun d => destLine (s.stationName d.station) d.result)
    ++ countLines o s.now ++ queryLines o ++ ["END".toList]

def composeSlip (o : Order) (s : State) : Slip := { order := o.number, text := slipText o s, reprint := false }

/-! ## Printing -/

/-- The text lines as printed: the REPRINT line first when the mark is set (R174, R181). -/
def Slip.printedLines (sl : Slip) : List (List Char) :=
  if sl.reprint then "REPRINT".toList :: sl.text else sl.text

/-- The leading feed rows, skipped when a held slip is resumed (R181, R185). -/
def leadRows (resumed : Bool) : Nat := if resumed then 0 else 24

/-- All rows of a printed slip: leading feed rows, 20 rows a text line, 24 trailing feed rows (R181, R182). -/
def slipRows (resumed : Bool) (sl : Slip) : Nat := leadRows resumed + 20 * sl.printedLines.length + 24

/-- A character's glyph row: the space is all white, a character outside 0x20..0x7E is drawn as '?' (R182). -/
def glyphOf (c : Char) (j : Nat) : BitVec 8 :=
  if c = ' ' then 0#8
  else if 0x20 ≤ c.toNat ∧ c.toNat ≤ 0x7E then Config.glyphRow c.toNat j
  else Config.glyphRow 63 j

/-- Dot row `j` of a text line: character i at dots 8·i to 8·i + 7, places beyond the line's end white (R182). -/
def dotRow (line : List Char) (j : Nat) : List Bool :=
  let dots := line.flatMap fun c => (List.range 8).map fun i => (glyphOf c j).getMsbD i
  dots ++ List.replicate (192 - dots.length) false

/-- The black dots of a row, from the left (R182). -/
def blackDots (row : List Bool) : List Nat := (List.range row.length).filter (fun i => row.getD i false)

/-- The strobe passes of a row with `b` black dots (R182). -/
def strobePasses (b : Nat) : Nat := max 1 (ceilDiv b 64)

/-- The dots that pass `k` (0 first) fires: at most 64, taken from the left (R182). -/
def passDots (row : List Bool) (k : Nat) : List Nat := ((blackDots row).drop (64 * k)).take 64

/-- A dot row's time: 2 ms a pass and 1 ms for the row step (R182). -/
def dotRowTime (b : Nat) : Nat := ms (2 * strobePasses b + 1)

/-- What a row of a slip is: a feed row, or dot row `j` of a text line (16..19 are blank) (R181, R182). -/
inductive RowKind where
  | feed
  | dots (line : List Char) (j : Nat)

/-- Row `row`, counting from 0, of a slip. -/
def slipRow (resumed : Bool) (sl : Slip) (row : Nat) : RowKind :=
  if row < leadRows resumed then .feed
  else match sl.printedLines[(row - leadRows resumed) / 20]? with
    | some line => .dots line ((row - leadRows resumed) % 20)
    | none => .feed

/-- A row that began `elapsed` µs ago has ended: 1 ms for a feed row, 3 ms for a blank row; a dot row takes 3, 5 or 7 ms
by its black dots, so 7 ms is enough for every one and less than 3 ms for none (R182). -/
def rowEnded (k : RowKind) (elapsed : Nat) : Bool :=
  match k with
  | .feed => decide (ms 1 ≤ elapsed)
  | .dots line j =>
    if j < 16 then
      decide (ms 7 ≤ elapsed)
        || (decide (ms 3 ≤ elapsed) && decide (dotRowTime (blackDots (dotRow line j)).length ≤ elapsed))
    else decide (ms 3 ≤ elapsed)

/-- In IDLE, with a slip queued and paper PRESENT, printing begins with the oldest slip (R181). -/
def startSlip (s : State) : State :=
  match s.slips.printer, s.slips.queue, s.slips.paper with
  | .idle, _ :: _, .present => s.onSlips fun u => { u with printer := .printing false 0 s.now }
  | _, _, _ => s

/-- A slip joins the newest end of the queue, and the start of a slip is examined (R174, R175, R181). -/
def joinSlip (sl : Slip) (s : State) : State := startSlip (s.onSlips fun u => { u with queue := u.queue ++ [sl] })

/-! ## Retirement -/

def State.oldestFinished (s : State) : Option Order := s.manager.table.find? (fun o => o.state == .finished)

/-- One FINISHED order leaves the table with its ORDER_EVENT RETIRED (R8, R25). -/
def leaveTable (o : Order) (s : State) : State := placeNotice (orderNotice o .retired) (removeOrder o.number s)

/-- Retirement examined at most `fuel` times: the oldest FINISHED order leaves, with a slip when slip mode is ON and the
slip queue has room, without one when it is OFF; a full queue keeps it (R25). -/
def retireUpTo : Nat → State → State
  | 0, s => s
  | fuel + 1, s =>
    match s.oldestFinished with
    | none => s
    | some o =>
      if s.settings.slipMode then
        if s.slips.queue.length < 8 then retireUpTo fuel (leaveTable o (joinSlip (composeSlip o s) s)) else s
      else retireUpTo fuel (leaveTable o s)

/-- Retirement is examined (R25). -/
def retire (s : State) : State := retireUpTo s.manager.table.length s

end Sys2Proof.Machine
end

