-- ==== Sys2Proof/Machine/Orders.lean ====
section
/-! DEFINITION. The order manager: numbers (R5), validation and acceptance (R9, R16, R17), selection and the start of a run
(R18, R150, R151), mount ends and starts (R10, R11), the end of a run (R171), and the order requests (R13 to R15, R19,
R21 to R23). -/

namespace Sys2Proof.Machine

/-! ## Selection and the start of a run -/

/-- The order that the manager would select: the first URGENT order that waits on the present mount, else the first one
(R18). -/
def State.candidate (s : State) : Option Order :=
  match s.manager.table.find? (fun o => s.waitsOnMount o && o.urgent) with
  | some o => some o
  | none => s.manager.table.find? s.waitsOnMount

/-- The run record of a selected order (R150). -/
def runRecordFor (o : Order) (s : State) : RunRecord :=
  { order := o.number
    network := o.network
    speed := o.header.speed
    samples := o.header.samples
    lines := o.lines
    phasing := o.header.phasing
    modulation := o.header.mod
    attempts := o.header.attempts
    stations := o.dests.map Dest.station
    index := 1
    used := 1
    rollEnded := false
    drumReady := s.drum.state == .locked && s.drum.target == o.header.speed
    lampReady := s.lamp.state == .ready
    carriageReady := s.carriage.state == .home
    startMade := false
    deferTimer := none
    scanStarted := false
    scanComplete := false
    drift := 0
    abort := none
    action := .none }

/-- The four requests of a run's start, and the abort that a refused speed request or a standing no-lock condition brings
(R38, R46, R151, R157). -/
def runStart (o : Order) (s : State) : State :=
  let s := { s with run := some (runRecordFor o s) }
  let s := s.onStore fun _ => Store.opened o.number o.header.samples o.lines
  let refused := !s.speedTaken o.header.speed
  let s := lampJoin .run (speedRequest o.header.speed s)
  let s := lineSeize o.number o.network (s.callCodeOf (o.stationAt 1)) (s.digitsOf (o.stationAt 1)) s
  if refused then runAbort .drumFault s
  else if s.drum.noLock then noLockToRun s
  else s

/-- Selection of an order: PREPARING, its times, its ORDER_EVENT, and the hand-over (R12, R18, R24). -/
def selectOrder (o : Order) (s : State) : State :=
  let s := updateOrder o.number (fun o =>
    { o with started := s.todNow, queue := o.queue.stop s.now, prepare := .running s.now }) s
  runStart o (updatePrewarm (enterState o.number .preparing s))

/-- The selection conditions but for a waiting order (R18). -/
def State.mayRun (s : State) : Bool :=
  s.manager.state == .running && !s.orderRunning && s.cal.isNone && s.carriage.state != .fault

/-- Selection is examined (R18). -/
def select (s : State) : State :=
  if s.mayRun then
    match s.candidate with
    | some o => selectOrder o s
    | none => s
  else s

/-- Selection is re-examined when the command has ended a calibration run (R18, R70). -/
def selectAfterCal (before s : State) : State := if before.cal.isSome && s.cal.isNone then select s else s

/-! ## Mounts -/

/-- A mount start: M steps up, the mount becomes present, and the order manager acts (R10, R12, R18, R51). -/
def mountStart (s : State) : State :=
  select <| updatePrewarm <| s.onPanel fun p =>
    { p with mountCounter := nextOf p.mountCounter, mountPresent := true }

/-- One order, if it is QUEUED and bound to mount `M`, finishes MOUNT_GONE and retirement is examined (R11). -/
def mountGone (M : Nat) (s : State) (n : Nat) : State :=
  match s.findOrder n with
  | some o => if o.state = .queued ∧ o.mount = M then retire (finishOrder n .mountGone s) else s
  | none => s

/-- A mount end: the mount becomes absent, and the QUEUED orders bound to it finish in table order (R10, R11, R12, R51). -/
def mountEnd (s : State) : State :=
  if s.panel.mountPresent then
    let s := s.onPanel fun p => { p with mountPresent := false }
    updatePrewarm ((s.manager.table.map Order.number).foldl (mountGone s.panel.mountCounter) s)
  else s

/-! ## Numbers and the table -/

/-- The first number from `n` on, wrapping from 65535 to 1, that is not taken, within `fuel` steps (R5). -/
def freeNumber : Nat → List Nat → Nat → Nat
  | 0, _, n => n
  | fuel + 1, taken, n => if taken.contains n then freeNumber fuel taken (nextOf n) else n

/-- The number that ORDER_BEGIN assigns (R5). -/
def Manager.assign (m : Manager) : Nat := freeNumber m.table.length (m.table.map Order.number) m.nextNumber

/-- A new record in ASSEMBLING (R13). -/
def newOrder (number : Nat) (h : Header) (content : List Byte) : Order :=
  { number := number
    header := h
    content := content.take (h.destCount + h.captionLen)
    received := content.length
    fragments := 1
    mount := 0
    lines := 0
    network := .loop
    dests := []
    caption := []
    state := .assembling
    result := none
    counts := { sent := 0, repeats := 0, rescans := 0, extra := 0, flagged := 0 }
    accepted := none
    started := none
    ended := none
    queue := .notBegun
    prepare := .notBegun
    defer := .notBegun
    picture := .notBegun
    confirm := .notBegun
    marks := []
    queryCount := 0 }

/-- The station numbers an assembly holds so far (R13, R30). -/
def Order.stationBytes (o : Order) : List Nat := (o.content.take o.header.destCount).map BitVec.toNat

/-- The order names station `n` (R30). -/
def Order.names (n : Nat) (o : Order) : Bool :=
  if o.state = .assembling then o.stationBytes.contains n else o.dests.any (fun d => d.station == n)

/-! ## Validation (R16) -/

/-- The mount an order's mount field binds to, `none` when it is refused (R9). -/
def State.bindMount (field : Nat) (s : State) : Option Nat :=
  let M := s.panel.mountCounter
  if field = 0 then some (if s.panel.mountPresent then M else nextOf M)
  else if field = M then (if s.panel.mountPresent then some M else none)
  else if field = nextOf M then some (nextOf M)
  else none

/-- The station's speeds hold the order's speed (R28). -/
def Station.hasSpeed (rpm : Nat) (st : Station) : Bool :=
  (rpm == 60 && st.rpm60) || (rpm == 90 && st.rpm90) || (rpm == 120 && st.rpm120)

/-- The station's modulations hold the order's modulation (R28). -/
def Station.hasMod (m : Modulation) (st : Station) : Bool := match m with | .fm => st.fm | .am => st.am

/-- The first destination that fails a sub-check of step 3, with the reason and its list index (R16 step 3, R34). `seen` are
the stations before it. -/
def destFault (h : Header) (s : State) (i : Nat) (seen : List Nat) : List Nat → Option (Reason × Nat)
  | [] => none
  | n :: rest =>
    if n = 0 ∨ 32 < n then some (.destUnknown, i)
    else match s.station n with
      | none => some (.destDisabled, i)
      | some st =>
        if seen.contains n then some (.destDuplicate, i)
        else if st.hasSpeed h.speed && st.hasMod h.mod then destFault h s (i + 1) (n :: seen) rest
        else some (.destSpeed, i)

/-- The network of a station's entry (R28). -/
def State.networkOf (s : State) (n : Nat) : Network :=
  match (s.station n).map Station.address with
  | some (.dial _) => .dial
  | _ => .loop

/-- The list index of the destination that fails step 4 (R16 step 4, R34). -/
def networkFault (s : State) (ns : List Nat) : Option Nat :=
  match ns with
  | [] => none
  | n :: rest =>
    match s.networkOf n, rest with
    | .dial, _ :: _ => some 2
    | .dial, [] => none
    | .loop, rest => (rest.findIdx? (fun k => s.networkOf k == .dial)).map (· + 2)

/-- The checks of R16 in order; the first that fails gives the reason and qualifier. -/
def validate (o : Order) (s : State) : Option (Reason × Nat) :=
  let h := o.header
  if o.received ≠ h.destCount + h.captionLen then some (.orderCount, o.received)
  else match h.firstOutOfRange with
    | some i => some (.fieldRange, i)
    | none =>
      match destFault h s 1 [] o.stationBytes with
      | some f => some f
      | none =>
        match networkFault s o.stationBytes with
        | some i => some (.networkMix, i)
        | none =>
          if (s.bindMount h.mount).isNone then some (.mountInvalid, s.panel.mountCounter)
          else if !s.motor.valid then some (.notCalibrated, 1)
          else if !s.scanPart.valid then some (.notCalibrated, 2)
          else if !feasible s.motor h.speed then some (.range, h.speed)
          else none

/-- The record of an accepted order (R2, R3, R17, R24). -/
def Order.accept (s : State) (o : Order) : Order :=
  { o with
    state := .queued
    network := s.networkOf (o.stationBytes.headD 0)
    lines := ceilDiv o.header.length o.header.pitch
    mount := (s.bindMount o.header.mount).getD 0
    dests := o.stationBytes.map fun n => { station := n, result := .pending }
    caption := captionOf ((o.content.drop o.header.destCount).take o.header.captionLen)
    accepted := s.todNow
    queue := .running s.now }

/-- The last fragment is taken: the order is refused and leaves the table, or is accepted, and the pre-warm request and
selection act on it (R16, R17). -/
def finishAssembly (n : Nat) (s : State) : Reply × State :=
  match s.findOrder n with
  | none => (.ok (u16 n), s)
  | some o =>
    match validate o s with
    | some (reason, q) => (.refused reason q, removeOrder n s)
    | none => (.ok (u16 n), select (updatePrewarm (updateOrder n (Order.accept s) s)))

/-! ## Order requests -/

/-- ORDER_BEGIN (R13). -/
def serveOrderBegin (p : List Byte) (s : State) : Reply × State :=
  match s.assemblingOrder with
  | some o => (.refused .assemblyBusy o.number, s)
  | none =>
    if 16 ≤ s.manager.table.length then (.refused .tableFull 0, s)
    else
      let n := s.manager.assign
      let s := s.onManager fun m =>
        { m with
          table := m.table ++ [newOrder n (Header.ofPayload p) (p.drop 20)]
          nextNumber := nextOf n }
      if lastFlag p 19 then finishAssembly n s
      else (.ok (u16 n), s.onManager fun m => { m with assemblyTimer := some (s.now + sec 10) })

/-- A further fragment joins an assembly (R14). -/
def Order.addFragment (bytes : List Byte) (o : Order) : Order :=
  { o with
    fragments := o.fragments + 1
    received := o.received + bytes.length
    content := (o.content ++ bytes).take (o.header.destCount + o.header.captionLen) }

/-- ORDER_PART (R14). -/
def serveOrderPart (p : List Byte) (s : State) : Reply × State :=
  let n := wordAt p 0
  match s.assemblingOrder with
  | none => (.refused .assemblySequence n, s)
  | some o =>
    if o.number ≠ n then (.refused .assemblySequence n, s)
    else if 8 ≤ o.fragments then
      (.refused .orderCount 9, (removeOrder n s).onManager fun m => { m with assemblyTimer := none })
    else
      let s := updateOrder n (Order.addFragment (p.drop 3)) s
      if lastFlag p 2 then finishAssembly n (s.onManager fun m => { m with assemblyTimer := none })
      else (.ok (u16 n), s.onManager fun m => { m with assemblyTimer := some (s.now + sec 10) })

/-- ORDER_CANCEL (R21). In ENDING and CONFIRMING it is refused STATE as R21's table says, with an abort pending too, where R21's
prose and R169 answer a cancel OK: the model's choice (log entry 30). -/
def serveOrderCancel (p : List Byte) (s : State) : Reply × State :=
  let n := wordAt p 0
  match s.findOrder n with
  | none => (.refused .notFound n, s)
  | some o =>
    match o.state with
    | .queued => (.ok [], retire (updatePrewarm (finishOrder n .cancelled s)))
    | .preparing | .phasing | .sending => (.ok [], runAbort .cancel s)
    | .assembling | .ending | .confirming | .finished => (.refused .state n, s)

/-- The current line: in SENDING the number of the line at the latest line time, which after an abort still stands; else 0
(R22, R120, R144, R165). -/
def State.currentLine (o : Order) (s : State) : Nat :=
  if o.state = .sending then s.line.lineNumber else 0

/-- The fields of an ORDER_INQUIRE SUMMARY (R22). The host reference, which R2 calls echoed in replies and no reply's fields list,
is in no reply: the model's choice (log entry 29). -/
def summaryBytes (o : Order) (s : State) : List Byte :=
  u8 o.state.code ++ codeByte (o.result.map OrderResult.code)
    ++ u16 o.counts.sent ++ u16 o.counts.repeats ++ u16 o.counts.rescans ++ u16 o.counts.extra ++ u16 o.counts.flagged
    ++ todBytes o.accepted ++ todBytes o.started ++ todBytes o.ended
    ++ u16 (o.queue.value s.now) ++ u16 (o.prepare.value s.now) ++ u16 (o.defer.value s.now)
    ++ u16 (o.picture.value s.now) ++ u16 (o.confirm.value s.now)
    ++ u16 (s.currentLine o) ++ u8 o.queryCount

/-- The fields of an ORDER_INQUIRE DESTINATIONS (R22). -/
def destinationBytes (o : Order) : List Byte :=
  u8 o.dests.length ++ o.dests.flatMap fun d => u8 d.station ++ u8 d.result.code

/-- The reason of an inquiry, `none` for NONE (R22). -/
def queryReason (code : Nat) : Option QueryReason :=
  if code = 1 then some .hostTimeout else if code = 2 then some .operator else none

/-- A query mark is made and the query count steps up (R22). -/
def Order.query (tod : Option Nat) (r : QueryReason) (o : Order) : Order :=
  { o with
    marks := if o.marks.length < 4 then o.marks ++ [{ tod := tod, reason := r }] else o.marks
    queryCount := satSucc 255 o.queryCount }

/-- ORDER_INQUIRE (R22). -/
def serveOrderInquire (p : List Byte) (s : State) : Reply × State :=
  let n := wordAt p 0
  if 1 < byteAt p 2 then (.refused .fieldRange 1, s)
  else if 2 < byteAt p 3 then (.refused .fieldRange 2, s)
  else match s.findOrder n with
    | none => (.refused .notFound n, s)
    | some o =>
      if o.state = .assembling then (.refused .state n, s)
      else
        let o := match queryReason (byteAt p 3) with
          | some r => o.query s.todNow r
          | none => o
        let s := updateOrder n (fun _ => o) s
        (.ok (if byteAt p 2 = 0 then summaryBytes o s else destinationBytes o), s)

/-- ORDER_LIST (R23). -/
def serveOrderList (_p : List Byte) (s : State) : Reply × State :=
  (.ok (u8 s.manager.state.code ++ u8 s.manager.table.length
    ++ s.manager.table.flatMap fun o => u16 o.number ++ u8 o.state.code), s)

/-- QUEUE_CONTROL (R19). -/
def serveQueueControl (p : List Byte) (s : State) : Reply × State :=
  if byteAt p 0 = 0 then
    (.ok (u8 ManagerState.halted.code), s.onManager fun m => { m with state := .halted })
  else if byteAt p 0 = 1 then
    if s.manager.state = .running then (.ok (u8 ManagerState.running.code), s)
    else (.ok (u8 ManagerState.running.code), select (s.onManager fun m => { m with state := .running }))
  else (.refused .fieldRange 1, s)

/-- The assembly timer expires: the ASSEMBLING order is discarded with its ORDER_EVENT (R15). -/
def assemblyExpired (s : State) : State :=
  let t := s.onManager fun m => { m with assemblyTimer := none }
  match s.assemblingOrder with
  | some o => placeNotice (orderNotice o .discarded) (removeOrder o.number t)
  | none => t

/-! ## The end of a run (R171) -/

/-- The result a run ends with: that of its abort cause, or the normal one (R164, R165, R171). -/
def runResult (r : RunRecord) (o : Order) : OrderResult :=
  match r.abort with
  | some c => c.result
  | none => o.normalResult

/-- The line unit reports released: the order enters FINISHED, the RUN request is withdrawn, the spin-hold timer starts, the
run record is cleared and the store stands closed and empty, and selection and retirement are examined (R53, R117, R127,
R171). -/
def releasedReport (s : State) : State :=
  match s.run with
  | none => s
  | some r =>
    match s.findOrder r.order with
    | none => closeStore { s with run := none }
    | some o =>
      let s := finishOrder r.order (runResult r o) (startSpinHold (lampWithdraw .run (closeStore { s with run := none })))
      retire (select s)

end Sys2Proof.Machine
end

