-- ==== Sys2Proof/Machine/CalRequests.lean ====
section
/-! DEFINITION. The calibration and drum requests: CAL_LOAD (R65, R66), CURVE_LOAD (R67), CAL_READ (R68), CAL_RUN (R69,
R72, R74, R76 to R80) and DRUM_SPIN (R55). -/

namespace Sys2Proof.Machine

/-! ## Loading and reading -/

/-- The order in PHASING, SENDING or ENDING, if any (R65, R67). -/
def State.sendingOrder (s : State) : Option Order :=
  s.manager.table.find? fun o => o.state == .phasing || o.state == .sending || o.state == .ending

/-- The field number of the first motor figure out of range (R65 steps 3 to 6). -/
def CalFields.motorFault (f : CalFields) : Option Nat :=
  if f.s1 = 0 ∨ 250000 < f.s1 then some 2
  else if f.s2 = 0 ∨ 250000 < f.s2 ∨ f.s2 < f.s1 + 20000 then some 3
  else if 1024 < f.kp then some 4
  else if 256 < f.ki then some 5
  else none

/-- The field number of the first scan figure that fails (R65 steps 7 to 9). -/
def CalFields.scanFault (f : CalFields) : Option Nat :=
  if 1023 < f.offset then some 6
  else if 4095 < f.wRaw ∨ f.wRaw < f.offset + 512 then some 7
  else if f.gain ≠ gainFor (f.wRaw - f.offset) then some 8
  else none

/-- The selector names the motor part, or the scan part: MOTOR, SCAN and BOTH are 0, 1 and 2 (R65, R196). -/
def CalFields.namesMotor (f : CalFields) : Bool := f.selector == 0 || f.selector == 2
def CalFields.namesScan (f : CalFields) : Bool := f.selector == 1 || f.selector == 2

/-- The first figure of a named part that fails (R65 steps 3 to 9). -/
def CalFields.fault (f : CalFields) : Option Nat :=
  match (if f.namesMotor then f.motorFault else none) with
  | some i => some i
  | none => if f.namesScan then f.scanFault else none

/-- The parts that a CAL_LOAD names are installed (R66). -/
def CalFields.install (f : CalFields) (s : State) : State :=
  { s with
    motor := if f.namesMotor then { s1 := f.s1, s2 := f.s2, kp := f.kp, ki := f.ki, valid := true } else s.motor
    scanPart :=
      if f.namesScan then
        { offset := f.offset, wRaw := f.wRaw, gain := f.gain, darkMark := true, whiteMark := true, valid := true }
      else s.scanPart }

/-- CAL_LOAD (R65, R66). -/
def serveCalLoad (p : List Byte) (s : State) : Reply × State :=
  let f := CalFields.ofPayload p
  if 2 < f.selector then (.refused .fieldRange 1, s)
  else match s.sendingOrder with
    | some o => (.refused .state o.number, s)
    | none =>
      match f.fault with
      | some i => (.refused .calInvalid i, s)
      | none => (.ok (u8 f.selector), f.install s)

/-- CURVE_LOAD (R67). -/
def serveCurveLoad (p : List Byte) (s : State) : Reply × State :=
  match s.sendingOrder with
  | some o => (.refused .state o.number, s)
  | none =>
    match (knotsOf p).findIdx? (fun t => 4095 < t) with
    | some k => (.refused .fieldRange (k + 1), s)
    | none => (.ok [], { s with curve := knotsOf p })

/-- The D_ff and the feasible mark of one speed in a CAL_READ MOTOR reply (R68). -/
def dffBytes (m : MotorPart) (rpm : Nat) : List Byte :=
  if m.valid then u16 (feedForward m rpm).toNat ++ mark (feasible m rpm) else u16 0 ++ mark false

/-- CAL_READ (R68). A speed above 4,294,967,295 m-rpm is sent modulo 2^32 (log entry 29). -/
def serveCalRead (p : List Byte) (s : State) : Reply × State :=
  match byteAt p 0 with
  | 0 =>
    let m := s.motor
    (.ok (mark m.valid ++ u32 m.s1 ++ u32 m.s2 ++ u16 m.kp ++ u16 m.ki ++ dffBytes m 60 ++ dffBytes m 90
      ++ dffBytes m 120), s)
  | 1 =>
    let c := s.scanPart
    (.ok (mark c.darkMark ++ mark c.whiteMark ++ mark c.valid ++ u16 c.offset ++ u16 c.wRaw ++ u16 c.gain), s)
  | 2 => (.ok (s.curve.flatMap u16), s)
  | _ => (.refused .fieldRange 1, s)

/-! ## CAL_RUN -/

/-- The qualifier of the first STEPS field out of range (R79). -/
def stepFault (i : Nat) : List TabletStep → Option Nat
  | [] => none
  | st :: rest =>
    if st.first < 64 ∨ 1023 < st.last ∨ st.last < st.first then some (10 + i)
    else if 4095 < st.target then some (30 + i)
    else stepFault (i + 1) rest

def stepsFault (p : List Byte) : Option Nat :=
  if 5000 < wordAt p 1 then some 2
  else if byteAt p 3 < 3 ∨ 16 < byteAt p 3 then some 3
  else stepFault 1 (stepsOf p)

/-- The run will ask for 60 rpm (R72). -/
def asksSpeed (k : CalKind) (d : DrumState) : Bool :=
  match k with
  | .motor => false
  | .steps => true
  | .dark => !d.isTurning
  | .white => !(d == .spinningUp || d == .locked)

/-- The checks of R69 from step 3 on, for a run of kind `k`. -/
def calRunFault (k : CalKind) (s : State) : Option (Reason × Nat) :=
  match s.runningOrder with
  | some o => some (.busy, o.number)
  | none =>
    if s.cal.isSome then some (.busy, 0)
    else if s.panel.door = .opened then some (.state, 1)
    else if s.drum.state = .fault then some (.state, 2)
    else if k ≠ .motor ∧ !s.motor.valid then some (.notCalibrated, 1)
    else if asksSpeed k s.drum.state ∧ !feasible s.motor 60 then some (.range, 60)
    else if k = .steps ∧ s.carriage.state = .fault then some (.state, 3)
    else if k = .steps ∧ !s.panel.mountPresent then some (.state, 4)
    else if k = .steps ∧ !s.scanPart.valid then some (.notCalibrated, 2)
    else none

/-- The record of a run that begins (section 4.3, R74). -/
def newCalRun (k : CalKind) (steps : List TabletStep) (position now : Nat) : CalRun :=
  { kind := k
    phase := if k = .motor then .settleLow else .waiting
    settleTimer := if k = .motor then some (now + sec 3) else none
    sums := match k with | .steps => steps.map fun _ => 0 | _ => [0]
    used := 0
    passed := 0
    p1 := 0
    revBegun := false
    eligible := false
    samples := []
    offset := 0
    gain := 0
    position := position
    steps := steps
    arrived := false }

/-- A DARK, WHITE or STEPS run takes the drum, ends at once when the no-lock condition stands, and examines its wait (R38,
R72). -/
def calTakeDrum (asks : Bool) (s : State) : State :=
  let s := if asks then speedRequest 60 s else s
  calExamine (if s.drum.noLock then noLockToCal s else s)

/-- A MOTOR run begins: the drum enters CALIBRATING (R48, R74). -/
def beginMotor (s : State) : State :=
  drumChanged ({ s with cal := some (newCalRun .motor [] 0 s.now) }.onDrum (Drum.calibrate s.now))

/-- A DARK run begins: the dark hold, and the drum (R72, R76). -/
def beginDark (s : State) : State :=
  calTakeDrum (asksSpeed .dark s.drum.state) (setDarkHold { s with cal := some (newCalRun .dark [] 0 s.now) })

/-- A WHITE run begins: its lamp request, and the drum (R72, R77). -/
def beginWhite (s : State) : State :=
  calTakeDrum (asksSpeed .white s.drum.state)
    (lampJoin .calibration { s with cal := some (newCalRun .white [] 0 s.now) })

/-- A STEPS run begins: its lamp request, the drum at 60 rpm, and the carriage, in R80's order; a run that the drum's
no-lock condition has ended at once sends no carriage (R72, R80; log entry 15). -/
def beginSteps (position : Nat) (steps : List TabletStep) (s : State) : State :=
  let t := calTakeDrum true (lampJoin .calibration { s with cal := some (newCalRun .steps steps position s.now) })
  if t.cal.isSome then moveTo position t else t

/-- A CAL_RUN of a kind that passes its checks begins; the reply is OK with the kind, and selection is re-examined when the
run has ended at once (R69, R70). -/
def serveCalKind (k : CalKind) (start : State → State) (s : State) : Reply × State :=
  match calRunFault k s with
  | some (reason, q) => (.refused reason q, s)
  | none =>
    let t := start s
    (.ok (u8 k.code), if t.cal.isNone then select t else t)

/-- CAL_RUN (R69). -/
def serveCalRun (p : List Byte) (s : State) : Reply × State :=
  match byteAt p 0 with
  | 0 => serveCalKind .motor beginMotor s
  | 1 => serveCalKind .dark beginDark s
  | 2 => serveCalKind .white beginWhite s
  | 3 =>
    match stepsFault p with
    | some i => (.refused .fieldRange i, s)
    | none => serveCalKind .steps (beginSteps (wordAt p 1) (stepsOf p)) s
  | _ => (.refused .fieldRange 1, s)

/-! ## DRUM_SPIN -/

/-- The checks of R55 in order. -/
def drumSpinFault (rpm : Nat) (s : State) : Option (Reason × Nat) :=
  if !(rpm == 0 || rpm == 60 || rpm == 90 || rpm == 120) then some (.fieldRange, 1)
  else match s.runningOrder with
    | some o => some (.busy, o.number)
    | none =>
      if s.cal.isSome then some (.busy, 0)
      else if rpm = 0 then none
      else if s.panel.door = .opened then some (.state, 1)
      else if s.drum.state = .fault then some (.state, 2)
      else if !s.motor.valid then some (.notCalibrated, 1)
      else if !feasible s.motor rpm then some (.range, rpm)
      else none

/-- DRUM_SPIN (R55): speed 0 is a stop request, another speed a speed request with spin hold (R53). -/
def serveDrumSpin (p : List Byte) (s : State) : Reply × State :=
  let rpm := byteAt p 0
  match drumSpinFault rpm s with
  | some (reason, q) => (.refused reason q, s)
  | none =>
    let t := if rpm = 0 then stopRequest true s else startSpinHold (speedRequest rpm s)
    (.ok (u8 t.drum.state.code ++ u16 t.drum.target), t)

end Sys2Proof.Machine
end

