-- ==== Sys2Proof/Machine/Directory.lean ====
section
/-! DEFINITION. The station directory's requests (R30 to R33). -/

namespace Sys2Proof.Machine

/-- The first order in table order that names the station (R30, R31 step 10). -/
def State.firstUser (n : Nat) (s : State) : Option Order := s.manager.table.find? (Order.names n)

/-- The use count of a station (R33). -/
def State.useCount (n : Nat) (s : State) : Nat := (s.manager.table.filter (Order.names n)).length

/-- An enabled LOOP entry of another station holds the call code (R31 step 9). -/
def codeTaken (n code : Nat) (dir : List StationEntry) : Bool :=
  dir.zipIdx.any fun e =>
    e.2 + 1 != n && (match e.1 with | .enabled st => st.address == .loop code | .disabled => false)

/-- Dial digit count and symbols agree with the network (R31 step 6). -/
def StationFields.digitsOk (f : StationFields) : Bool :=
  if f.network = 0 then f.digits.isEmpty
  else decide (1 ≤ f.digits.length) && decide (f.digits.length ≤ 20) && (dialSymbols f.digits).isSome

/-- The field number of the first of R31's steps 1 to 9 that fails. -/
def StationFields.fault (dir : List StationEntry) (f : StationFields) : Option Nat :=
  if f.number = 0 ∨ 32 < f.number then some 1
  else if 1 < f.enabled then some 2
  else if f.enabled = 0 then none
  else if f.nameLen = 0 ∨ 12 < f.nameLen ∨ !f.name.all printable then some 3
  else if 1 < f.network then some 4
  else if f.network = 0 ∧ 9999 < f.code then some 5
  else if !f.digitsOk then some 6
  else if f.speeds = 0 ∨ 7 < f.speeds then some 7
  else if f.mods = 0 ∨ 3 < f.mods then some 8
  else if f.network = 0 ∧ codeTaken f.number f.code dir then some 9
  else none

/-- The entry that a valid load gives (R32). -/
def StationFields.entry (f : StationFields) : StationEntry :=
  if f.enabled = 0 then .disabled else .enabled f.station

/-- STATION_LOAD (R31, R32). -/
def serveStationLoad (p : List Byte) (s : State) : Reply × State :=
  let f := StationFields.ofPayload p
  match f.fault s.directory with
  | some i => (.refused .fieldRange i, s)
  | none =>
    match s.firstUser f.number with
    | some o => (.refused .inUse o.number, s)
    | none => (.ok (u16 f.number), { s with directory := s.directory.set (f.number - 1) f.entry })

/-- The fields of a station entry in a STATION_READ reply: those of the STATION_LOAD layout, the name padded with spaces and
an absent call code 0 (R33, R196; log entry 9). -/
def entryBytes (n : Nat) (e : StationEntry) : List Byte :=
  match e with
  | .disabled =>
    u8 n ++ mark false ++ u8 0 ++ textBytes (padTo 12 []) ++ u8 0xFF ++ u16 0 ++ u8 0 ++ u8 0 ++ u8 0
  | .enabled st =>
    u8 n ++ mark true ++ u8 st.name.length ++ textBytes (padTo 12 st.name)
      ++ (match st.address with
        | .loop c => u8 Network.loop.code ++ u16 c ++ u8 0
        | .dial ds => u8 Network.dial.code ++ u16 0 ++ u8 ds.length ++ textBytes (ds.map DialSymbol.char))
      ++ u8 (speedsByte st) ++ u8 (modsByte st)

/-- STATION_READ (R33). -/
def serveStationRead (p : List Byte) (s : State) : Reply × State :=
  let n := byteAt p 0
  if n = 0 ∨ 32 < n then (.refused .fieldRange 1, s)
  else (.ok (entryBytes n (s.directory.getD (n - 1) .disabled) ++ u8 (s.useCount n)), s)

end Sys2Proof.Machine
end

