-- ==== Sys2Proof/Machine/Restart.lean ====
section
/-! DEFINITION. What each block does when a RESTART is carried out (R27, R60, R73, R83, R88, R93, R98, R127, R149, R173, R190,
R201). -/

namespace Sys2Proof.Machine

/-- The lamp: every request is withdrawn, the dark hold is cleared, and a lit lamp is left to the lamp-idle timer; a timer
already running goes on (R88; log entry 22). -/
def Lamp.restart (idle now : Nat) (l : Lamp) : Lamp :=
  { l with
    prewarm := false
    runReq := false
    calReq := false
    darkHold := false
    idleTimer := if l.lit && l.idleTimer.isNone then some (now + sec idle) else l.idleTimer }

/-- The carriage: from ADVANCING it returns, from FAULT a fresh homing begins, and a waiting move is withdrawn (R91, R93). -/
def Carriage.restart (now : Nat) (c : Carriage) : Carriage :=
  let c := { c with waitingMove := none }
  match c.state with
  | .advancing => c.seekHome .returning c.position now
  | .fault => c.seekHome .homing none now
  | _ => c

/-- The line unit: a SEIZED line is released without a notice or a report, and a RELEASING one comes to IDLE without them
(R149). -/
def LineUnit.restart (now : Nat) (l : LineUnit) : LineUnit :=
  match l.state with
  | .seized => l.released .restart now
  | .releasing => { l with releaseCause := .restart }
  | .idle => l

/-- The slip unit (R190). -/
def SlipUnit.restart (u : SlipUnit) : SlipUnit := { u with queue := [], lastPrinted := none, printer := .idle }

/-- The order manager (R27). -/
def Manager.restart (m : Manager) : Manager := { m with table := [], state := .running, assemblyTimer := none }

/-- A RESTART is carried out by every block (R201 steps 1 to 3); leaving a carriage FAULT re-examines selection, which finds
the table empty (R93). -/
def carryOutRestart (keepSpin : Bool) (s : State) : State :=
  { s with
    link := { s.link with notices := [] }
    manager := s.manager.restart
    run := none
    cal := none
    scan := none
    store := Store.closed
    drum := s.drum.restart keepSpin s.settings.spinHold s.now
    lamp := s.lamp.restart s.settings.lampIdle s.now
    carriage := s.carriage.restart s.now
    line := s.line.restart s.now
    slips := s.slips.restart }

end Sys2Proof.Machine
end

