-- ==== Sys2Proof/Machine/SlipUnit.lean ====
section
/-! DEFINITION. The slip unit at work: row steps (R181 to R183), paper (R184, R185), SLIP_CONTROL (R186 to R188) and the
SLIP_EVENT notices (R189). -/

namespace Sys2Proof.Machine

/-- A SLIP_EVENT with the printer, paper and queue as they stand (R189). -/
def slipEvent (c : SlipCause) (n : Nat) (reprint : Bool) (s : State) : State :=
  placeNotice (.slip c n reprint s.slips.printer.code s.slips.paper s.slips.queue.length) s

/-- The slip that a PAPER_OUT or PAPER_BACK names: the one at the head of the queue if the printer is HELD or PRINTING
(R189). -/
def SlipUnit.concerned (u : SlipUnit) : Option Slip :=
  match u.printer with
  | .held | .printing _ _ _ => u.queue.head?
  | _ => none

/-- The notice of a paper change, after its effect on the printer (R184, R185, R189). -/
def paperEvent (c : SlipCause) (s : State) : State :=
  match s.slips.concerned with
  | some sl => slipEvent c sl.order sl.reprint s
  | none => slipEvent c 0 false s

/-- The row being printed or fed has ended by now (R182). -/
def SlipUnit.rowDue (now : Nat) (u : SlipUnit) : Bool :=
  match u.printer, u.queue with
  | .printing resumed row since, sl :: _ => rowEnded (slipRow resumed sl row) (now - since)
  | .feeding _ _ since, _ => decide (since + ms 1 ≤ now)
  | _, _ => false

/-- The printer enters IDLE, and the start of the next slip is examined (R183 step 5). -/
def printerFree (s : State) : State := startSlip (s.onSlips fun u => { u with printer := .idle })

/-- The SLIP_EVENT of a printed slip: the printer state is the one after the event, PRINTING when the next slip begins and
else IDLE (R183, R189; log entry 20). -/
def printedEvent (sl : Slip) (s : State) : State :=
  placeNotice (.slip .printed sl.order sl.reprint (printerFree s).slips.printer.code s.slips.paper s.slips.queue.length) s

/-- A slip has been printed, steps 1 to 5 of R183: it leaves the queue and becomes the last-printed copy, the notice and
retirement follow, and the printer enters IDLE and the next slip is examined. -/
def slipPrinted (sl : Slip) (s : State) : State :=
  printerFree <| retire <| printedEvent sl <| s.onSlips fun u => { u with queue := u.queue.tail, lastPrinted := some sl }

/-- The row step of a printed row ends: the print position advances, or the slip has been printed (R182, R183). -/
def printedRow (resumed : Bool) (row : Nat) (sl : Slip) (s : State) : State :=
  if row + 1 < slipRows resumed sl then
    s.onSlips fun u => { u with printer := .printing resumed (row + 1) s.now }
  else slipPrinted sl s

/-- The row step of a fed row ends; the last one of a RECOVERY feed begins the held slip again, the last one of a HOST feed
ends in IDLE (R181, R185, R187). -/
def fedRow (p : FeedPurpose) (left : Nat) (s : State) : State :=
  if 1 < left then s.onSlips fun u => { u with printer := .feeding p (left - 1) s.now }
  else
    match p with
    | .recovery => s.onSlips fun u => { u with printer := .printing true 0 s.now }
    | .host => printerFree s

/-- The row step that has ended (R182). -/
def rowStep (s : State) : State :=
  match s.slips.printer, s.slips.queue with
  | .printing resumed row _, sl :: _ => printedRow resumed row sl s
  | .feeding p left _, _ => fedRow p left s
  | _, _ => s

/-- At least one dot row of a text line or of the REPRINT line has been printed when `row` rows have (R184). -/
def dotRowPrinted (resumed : Bool) (row : Nat) : Bool := decide (leadRows resumed < row)

/-- The printer when the paper state becomes OUT (R184). -/
def SlipUnit.paperOut (u : SlipUnit) : SlipUnit :=
  let u := { u with paper := .out }
  match u.printer, u.queue with
  | .printing resumed row _, sl :: rest =>
    { u with
      printer := .held
      queue := { sl with reprint := sl.reprint || dotRowPrinted resumed row } :: rest }
  | .feeding .recovery _ _, _ => { u with printer := .held }
  | .feeding .host _ _, _ => { u with printer := .idle }
  | _, _ => u

/-- The printer when the paper state becomes PRESENT (R185). -/
def paperReturns (s : State) : State :=
  match s.slips.printer with
  | .held => s.onSlips fun u => { u with paper := .present, printer := .feeding .recovery 12 s.now }
  | .idle => startSlip (s.onSlips fun u => { u with paper := .present })
  | _ => s.onSlips fun u => { u with paper := .present }

/-! ## SLIP_CONTROL -/

/-- SLIP_CONTROL MODE (R186, R198). -/
def serveSlipMode (v : Nat) (s : State) : Reply × State :=
  if v = 0 then
    if s.settings.slipMode then (.ok (u8 0), retire { s with settings := { s.settings with slipMode := false } })
    else (.ok (u8 0), s)
  else if v = 1 then (.ok (u8 1), { s with settings := { s.settings with slipMode := true } })
  else (.refused .fieldRange 2, s)

/-- SLIP_CONTROL FEED (R187). -/
def serveSlipFeed (n : Nat) (s : State) : Reply × State :=
  if n = 0 ∨ 255 < n then (.refused .fieldRange 2, s)
  else if s.slips.printer ≠ .idle then (.refused .state 1, s)
  else if s.slips.paper = .out then (.refused .state 2, s)
  else (.ok [], s.onSlips fun u => { u with printer := .feeding .host n s.now })

/-- SLIP_CONTROL REPRINT (R188). -/
def serveSlipReprint (s : State) : Reply × State :=
  match s.slips.lastPrinted with
  | none => (.refused .notFound 0, s)
  | some sl =>
    if 8 ≤ s.slips.queue.length then (.refused .tableFull 0, s)
    else (.ok (u16 sl.order), joinSlip { sl with reprint := true } s)

/-- SLIP_CONTROL (R186). -/
def serveSlipControl (p : List Byte) (s : State) : Reply × State :=
  match byteAt p 0 with
  | 0 => serveSlipMode (byteAt p 1) s
  | 1 => serveSlipFeed (byteAt p 1) s
  | 2 => serveSlipReprint s
  | _ => (.refused .fieldRange 1, s)

end Sys2Proof.Machine
end

