-- ==== Sys2Proof/Machine/Link.lean ====
section
/-! DEFINITION. The host link unit: its own requests STATUS, SETTINGS_SET, SETTINGS_GET, CLOCK_SET and RESTART (R197 to
R201), the serving of held requests (R193, R194), the holding buffer (R192), the transmitter (R195) and the receiver
(R191). -/

namespace Sys2Proof.Machine

/-! ## STATUS (R200) -/

/-- The line activity in STATUS: absent unless SEIZED (log entry 9). -/
def LineUnit.shownActivity (l : LineUnit) : Option Nat := if l.state = .seized then l.activity.map Activity.code else none

/-- The last line request in STATUS: 0xFF while IDLE (R196). -/
def LineUnit.shownRequest (l : LineUnit) : Option Nat :=
  if l.state = .idle then none else l.lastRequest.map LineRequest.code

/-- The 52 bytes after the status bytes of a STATUS reply, in the order of its layout (R196, R200). While the clock is unset
the date stale mark is shown clear, the model's choice (log entry 29). -/
def statusBytes (s : State) : List Byte :=
  u8 s.manager.state.code
    ++ u8 s.manager.table.length
    ++ u16 ((s.runningOrder.map Order.number).getD 0)
    ++ codeByte (s.runningOrder.map fun o => o.state.code)
    ++ u16 ((s.assemblingOrder.map Order.number).getD 0)
    ++ u8 s.drum.state.code
    ++ u8 s.drum.target
    ++ u16 s.drum.drive
    ++ mark s.drum.clip
    ++ mark s.drum.noLock
    ++ u8 s.panel.door.code
    ++ u8 s.panel.clamp.code
    ++ u16 s.panel.mountCounter
    ++ mark s.panel.mountPresent
    ++ u8 s.lamp.state.code
    ++ u8 s.carriage.state.code
    ++ u16 (s.carriage.position.getD 0xFFFF)
    ++ u8 s.line.state.code
    ++ codeByte s.line.shownActivity
    ++ codeByte s.line.shownRequest
    ++ u8 s.store.slots.length
    ++ mark s.store.isOpen
    ++ codeByte (s.cal.map fun c => c.kind.code)
    ++ codeByte (s.cal.map fun c => c.phase.code)
    ++ u8 s.slips.queue.length
    ++ u8 s.slips.printer.code
    ++ u8 s.slips.paper.code
    ++ mark s.settings.slipMode
    ++ mark s.clock.isSome
    ++ todBytes s.todNow
    ++ mark ((s.clock.map Clock.stale).getD false)
    ++ textBytes (padTo 10 ((s.clock.map Clock.date).getD []))
    ++ mark s.link.linkError
    ++ mark s.link.noticesLost
    ++ u8 s.link.notices.length

/-- STATUS reports the two flags and clears them (R200). -/
def serveStatus (_p : List Byte) (s : State) : Reply × State :=
  (.ok (statusBytes s), s.onLink fun l => { l with linkError := false, noticesLost := false })

/-! ## Settings and clock -/

/-- SETTINGS_SET (R197); a change of slip mode to OFF makes the order manager examine retirement (R25, R198). -/
def serveSettingsSet (p : List Byte) (s : State) : Reply × State :=
  let f := SettingsFields.ofPayload p
  match s.runningOrder with
  | some o => (.refused .state o.number, s)
  | none =>
    match f.firstOutOfRange with
    | some i => (.refused .fieldRange i, s)
    | none =>
      let t := { s with settings := f.settings }
      (.ok [], if s.settings.slipMode && !t.settings.slipMode then retire t else t)

/-- SETTINGS_GET (R198). -/
def serveSettingsGet (_p : List Byte) (s : State) : Reply × State := (.ok s.settings.bytes, s)

/-- CLOCK_SET (R199). -/
def serveClockSet (p : List Byte) (s : State) : Reply × State :=
  if 86399 < longAt p 0 then (.refused .fieldRange 1, s)
  else if !(p.drop 4).all printable then (.refused .fieldRange 2, s)
  else
    let c : Clock := { tod := longAt p 0, date := (p.drop 4).map charOf, stale := false, tickAt := s.now + sec 1 }
    (.ok [], { s with clock := some c })

/-- A second of the clock: the step after 86,399 is 0 and sets the stale mark (R199). -/
def Clock.step (c : Clock) : Clock :=
  if c.tod < 86399 then { c with tod := c.tod + 1, tickAt := c.tickAt + sec 1 }
  else { c with tod := 0, stale := true, tickAt := c.tickAt + sec 1 }

/-! ## RESTART (R201) -/

/-- The reply of a RESTART, OK with the keep-spin option (R201). -/
def restartReply (keepSpin : Bool) : Reply := .ok (mark keepSpin)

/-- RESTART: carried out when it is served; its answer is made at once when the line is IDLE, and otherwise waits for it
(R201). -/
def serveRestart (p : List Byte) (s : State) : Option Reply × State :=
  if 1 < byteAt p 0 then (some (.refused .fieldRange 1), s)
  else
    let keep := byteAt p 0 == 1
    let t := carryOutRestart keep s
    if t.line.state = .idle then (some (restartReply keep), t)
    else (none, t.onLink fun l => { l with restart := some keep })

/-! ## Serving (R193, R194) -/

def answered (a : Reply × State) : Option Reply × State := (some a.1, a.2)

/-- A request goes to the block that owns it (R193 step 3, R196). -/
def serveKind (k : Nat) (p : List Byte) (s : State) : Option Reply × State :=
  match k with
  | 0x01 => answered (serveStatus p s)
  | 0x02 => answered (serveSettingsSet p s)
  | 0x03 => answered (serveSettingsGet p s)
  | 0x04 => answered (serveClockSet p s)
  | 0x05 => answered (serveStationLoad p s)
  | 0x06 => answered (serveStationRead p s)
  | 0x07 => answered (serveCalLoad p s)
  | 0x08 => answered (serveCalRead p s)
  | 0x09 => answered (serveCurveLoad p s)
  | 0x0A => answered (serveCalRun p s)
  | 0x0B => answered (serveOrderBegin p s)
  | 0x0C => answered (serveOrderPart p s)
  | 0x0D => answered (serveOrderCancel p s)
  | 0x0E => answered (serveOrderInquire p s)
  | 0x0F => answered (serveOrderList p s)
  | 0x10 => answered (serveQueueControl p s)
  | 0x11 => answered (serveDrumSpin p s)
  | 0x12 => answered (serveSlipControl p s)
  | 0x13 => serveRestart p s
  | _ => (some (.refused .unknownKind k), s)

/-- The answer to a held request: its kind, its length, then its owner (R193). -/
def answer (r : Request) (s : State) : Option Reply × State :=
  if knownKind r.kind then
    if lengthAgrees r.kind r.payload then serveKind r.kind.toNat r.payload s
    else (some (.refused .badLength r.payload.length), s)
  else (some (.refused .unknownKind r.kind.toNat), s)

/-- The reply is placed in the reply slot, and the transmitter sends it when it is free (R194, R195). -/
def placeReply (r : Request) (a : Reply) (s : State) : State :=
  s.onLink fun l => { l with replySlot := some (Reply.frame r a) }.kick s.now

/-- The oldest held request is served unless it is in service already (R193). -/
def serveFront (s : State) : State :=
  match s.link.holding with
  | [] => s
  | r :: _ =>
    if s.link.inService then s
    else
      match answer r s with
      | (some a, t) => placeReply r a t
      | (none, t) => t

/-- A complete frame is offered to the holding buffer: it joins with fewer than 2 held, and otherwise it is dropped and the
link-error flag is set (R192). -/
def offerFrame (r : Request) (s : State) : State :=
  if s.link.holding.length < 2 then serveFront (s.onLink fun l => { l with holding := l.holding ++ [r] })
  else s.onLink fun l => { l with linkError := true }

/-- A whole frame of a request completes at the receiver (R191, R192; log entry 7). A payload above 60 bytes breaks its
frame. -/
def arrive (kind tag : Byte) (payload : List Byte) (s : State) : State :=
  if 60 < payload.length then s.onLink fun l => { l with linkError := true }
  else offerFrame { kind := kind, tag := tag, payload := payload } s

/-! ## Transmitter (R195) -/

/-- The frame being sent has been sent in full by now (R191, R195). -/
def Link.txDue (now : Nat) (l : Link) : Bool :=
  match l.tx with
  | some x => decide (x.since + x.frame.time ≤ now)
  | none => false

/-- The transmitter finishes a frame: a reply frees its request's place and the next request is served, and the next frame
is sent (R192, R193, R195). -/
def frameDone (s : State) : State :=
  match s.link.tx with
  | none => s
  | some x =>
    let t := s.onLink fun l =>
      { l with tx := none, holding := if x.isReply then l.holding.tail else l.holding }
    (serveFront t).onLink (Link.kick s.now)

/-! ## Receiver (R191) -/

/-- The receiver after a byte, less what a complete frame brings: its state, its gap timer, and whether the link-error flag
is set; and the frame when it is complete. -/
structure ByteTaken where
  receiver : Receiver
  gapTimer : Option Nat
  linkError : Bool
  frame : Option Request

/-- The end of a frame: the CRC over the bytes kept agrees with the two CRC bytes, or the frame is dropped (R191). -/
def endFrame (kept : List Byte) : ByteTaken :=
  let body := kept.take (kept.length - 2)
  if crcBytes body = kept.drop (kept.length - 2) then
    { receiver := .hunt, gapTimer := none, linkError := false
      frame := some { kind := body.getD 1 0, tag := body.getD 2 0, payload := body.drop 3 } }
  else { receiver := .hunt, gapTimer := none, linkError := true, frame := none }

/-- A byte arrives (R191). -/
def takeByte (b : Byte) (now : Nat) : Receiver → Option Nat → ByteTaken
  | .hunt, gap =>
    if b = 0xA5#8 then
      { receiver := .awaitLength, gapTimer := some (now + ms 10), linkError := false, frame := none }
    else { receiver := .hunt, gapTimer := gap, linkError := false, frame := none }
  | .awaitLength, _ =>
    if 60 < b.toNat then { receiver := .hunt, gapTimer := none, linkError := true, frame := none }
    else
      { receiver := .inFrame [b] (b.toNat + 4), gapTimer := some (now + ms 10), linkError := false, frame := none }
  | .inFrame kept toCome, _ =>
    if toCome ≤ 1 then endFrame (kept ++ [b])
    else
      { receiver := .inFrame (kept ++ [b]) (toCome - 1), gapTimer := some (now + ms 10), linkError := false
        frame := none }

/-- A byte at the receiver, and the offer of the frame it completes (R191, R192). -/
def receiveByte (b : Byte) (s : State) : State :=
  let x := takeByte b s.now s.link.receiver s.link.gapTimer
  let t := s.onLink fun l =>
    { l with receiver := x.receiver, gapTimer := x.gapTimer, linkError := l.linkError || x.linkError }
  match x.frame with
  | some r => offerFrame r t
  | none => t

/-- The gap timer expires in a frame: it is abandoned and the link-error flag is set (R191). -/
def gapExpired (s : State) : State :=
  s.onLink fun l => { l with receiver := .hunt, gapTimer := none, linkError := true }

/-! ## The end of the clearing time (R131, R149, R201) -/

/-- A RESTART whose reply waited for the line is complete (R201). -/
def finishRestart (s : State) : State :=
  match s.link.restart, s.link.holding with
  | some keep, r :: _ => placeReply r (restartReply keep) (s.onLink fun l => { l with restart := none })
  | _, _ => s

/-- The line enters IDLE: after a RESTART its reply is made; otherwise the LINE_EVENT RELEASE is sent and released is
reported (R131, R147, R148, R149, R201). -/
def releaseCleared (s : State) : State :=
  let t := s.onLine LineUnit.idled
  if s.line.releaseCause = .restart then finishRestart t
  else releasedReport (placeNotice (.line .release s.line.orderNumber s.line.network none (some s.line.releaseCause)) t)

end Sys2Proof.Machine
end

