-- ==== Sys2Proof/Machine/CalCommands.lean ====
section
/-! DEFINITION. The commands of calibration: loads, reads and runs (R65 to R69), the end of a motor settling phase (R74) and the
dark wait (R76). -/

namespace Sys2Proof.Machine

/-- CAL_LOAD (R65, R66). -/
def execCalLoad (dt : Nat) (tag : Byte) (payload : List Byte) (s : State) : Host.Outcome State Fault Refusal :=
  .next (arrive 0x07#8 tag payload (advance dt s))

/-- CAL_READ (R68). -/
def execCalRead (dt : Nat) (tag : Byte) (payload : List Byte) (s : State) : Host.Outcome State Fault Refusal :=
  .next (arrive 0x08#8 tag payload (advance dt s))

/-- CURVE_LOAD (R67). -/
def execCurveLoad (dt : Nat) (tag : Byte) (payload : List Byte) (s : State) : Host.Outcome State Fault Refusal :=
  .next (arrive 0x09#8 tag payload (advance dt s))

/-- CAL_RUN MOTOR, kind 0 (R69, R74). -/
def execCalRunMotor (dt : Nat) (tag : Byte) (rest : List Byte) (s : State) : Host.Outcome State Fault Refusal :=
  .next (arrive 0x0A#8 tag (0#8 :: rest) (advance dt s))

/-- CAL_RUN DARK, kind 1 (R69, R76). -/
def execCalRunDark (dt : Nat) (tag : Byte) (rest : List Byte) (s : State) : Host.Outcome State Fault Refusal :=
  .next (arrive 0x0A#8 tag (1#8 :: rest) (advance dt s))

/-- CAL_RUN WHITE, kind 2 (R69, R77). -/
def execCalRunWhite (dt : Nat) (tag : Byte) (rest : List Byte) (s : State) : Host.Outcome State Fault Refusal :=
  .next (arrive 0x0A#8 tag (2#8 :: rest) (advance dt s))

/-- CAL_RUN STEPS, kind 3 (R69, R78 to R80). -/
def execCalRunSteps (dt : Nat) (tag : Byte) (rest : List Byte) (s : State) : Host.Outcome State Fault Refusal :=
  .next (arrive 0x0A#8 tag (3#8 :: rest) (advance dt s))

/-- A settling phase ends and its measure phase begins (R74). -/
def settleEnd (s : State) : State :=
  s.onCal fun c =>
    match c.phase with
    | .settleLow => { c with phase := .measureLow, settleTimer := none, sums := [0], used := 0 }
    | .settleHigh => { c with phase := .measureHigh, settleTimer := none, sums := [0], used := 0 }
    | _ => c

/-- MOTOR_SETTLE_END (R74): without effect unless a settling phase runs and its time has passed. -/
def execMotorSettleEnd (dt : Nat) (s : State) : Host.Outcome State Fault Refusal :=
  let s := advance dt s
  .next (if due (s.cal.bind CalRun.settleTimer) s.now then settleEnd s else s)

/-- DARK_LAMP_SETTLED (R76): the lamp has been OFF for 1 s; a WAITING DARK run is examined. -/
def execDarkLampSettled (dt : Nat) (s : State) : Host.Outcome State Fault Refusal :=
  let s := advance dt s
  .next (if (s.cal.map fun c => c.kind == .dark).getD false then calExamine s else s)

end Sys2Proof.Machine
end

