-- ==== Sys2Proof/Machine/Scan.lean ====
section
/-! DEFINITION. Scanning a picture: the completion of a line (R97, R101, R118, R119), the revolution that begins (R94, R96)
and the revolution report (R58). -/

namespace Sys2Proof.Machine

/-- An accepted line below L: the carriage advances by the pitch and next line steps up (R91, R97). -/
def lineAccepted (sc : ScanRecord) (s : State) : State :=
  advanceByPitch sc.pitch { s with scan := some { sc with nextLine := sc.nextLine + 1 } }

/-- Line L is accepted: scanning stops, the carriage goes home and the run is told that the scan is complete (R97, R160). -/
def scanDone (s : State) : State := (stopScan s).onRun fun r => { r with scanComplete := true }

/-- The line is offered to the store, which accepts it, refuses it as full, or discards it (R97 step 4, R118, R119). -/
def offerLine (l : PictureLine) (sc : ScanRecord) (s : State) : State :=
  match s.store.offerAnswer with
  | .accepted =>
    let s := s.onStore (Store.offer l)
    if l.number = sc.lines then scanDone s else lineAccepted sc s
  | .full => countRescan s
  | .discarded => s

/-- The scan unit's LAMP_FAULT: scanning stops, and the run is told (R101). -/
def lampFault (s : State) : State := runAbort .lampFault (stopScan s)

/-- A line is completed at the index pulse that ends its revolution (R97): its values and flags, white tracking and the low
count, and the offer unless the fourth low line is a LAMP_FAULT. -/
def completeLine (locked : Bool) (sc : ScanRecord) (s : State) : State :=
  let l := sc.line s.curve locked
  let w := lineWhite sc.samplesPerLine sc.offset (fillSamples sc.samplesPerLine sc.samples)
  let sc : ScanRecord := { sc.track w with lowCount := lowCountAfter w sc.lowCount }
  let s := { s with scan := some sc }
  if sc.lowCount = 4 then lampFault s else offerLine l sc s

/-- The revolution that begins is scanned: its first sample is taken at the index pulse (R94, R96). The first one begins
with the lamp READY (R96). -/
def beginRevolution (sample : Nat) (s : State) : State :=
  match s.scan with
  | none => s
  | some sc =>
    if sc.inRevolution || s.lamp.state == .ready then
      { s with scan := some { sc with inRevolution := true, samples := [sample] } }
    else s

/-- A revolution report reaches the scan unit (R58, R96, R97). -/
def revolutionToScan (locked : Bool) (sample : Nat) (s : State) : State :=
  beginRevolution sample <|
    match s.scan with
    | none => s
    | some sc => if sc.inRevolution then completeLine locked sc s else s

/-- The revolution report at an index pulse in a turning state, marked locked or not (R58). -/
def revolutionReport (locked : Bool) (sample : Nat) (s : State) : State :=
  revolutionToRun locked (revolutionToScan locked sample s)

/-- What an index pulse does after the measure, by the drum state before it (R41). -/
def indexPulse (sample : Nat) (s : State) : State :=
  let m := s.onDrum (Drum.measure s.now)
  let m := { m with encoder := { count := 0, high := true } }
  match s.drum.state with
  | .spinningUp | .locked | .drift =>
    let measuring := (s.cal.map fun c => c.phase == .measuring).getD false
    let t := match m.drum.period with
      | some P => regulate P m
      | none => m
    let locked := m.drum.period.isSome && t.drum.state == .locked
    let u := revolutionReport locked sample t
    if measuring then revolutionToCal locked sample u else u
  | .spinningDown => m.onDrum fun d => { d with quietTimer := some (s.now + sec 2) }
  | .calibrating =>
    match m.drum.period with
    | some P => motorPeriod P m
    | none => m
  | .stopped | .fault => m

/-- An encoder edge: the count and the level, and the sample it takes in a revolution that a scan or a calibration
measurement uses (R94). -/
def encoderEdge (edge : Edge) (sample : Nat) (s : State) : State :=
  let c := if edge = .rising then s.encoder.count + 1 else s.encoder.count
  { s with
    encoder := { count := c, high := edge == .rising }
    scan := s.scan.map fun sc =>
      if sc.inRevolution then { sc with samples := takeSample sc.samplesPerLine c edge sample sc.samples } else sc
    cal := s.cal.map fun r =>
      if r.revBegun then { r with samples := takeSample 1024 c edge sample r.samples } else r }

end Sys2Proof.Machine
end

