-- ==== Sys2Proof/Machine/DrumCommands.lean ====
section
/-! DEFINITION. The commands of the panel and the drum (R39 to R58). -/

namespace Sys2Proof.Machine

/-! ## Panel -/

/-- A PANEL_EVENT with M and the mount-present flag as they stand (R57). -/
def panelEvent (i : PanelInput) (level : Option Nat) (s : State) : State :=
  placeNotice (.panel i level s.panel.mountCounter s.panel.mountPresent) s

/-- The drum when the door interlock acts (R50, R53). -/
def Drum.interlock (now : Nat) (d : Drum) : Drum :=
  match d.state with
  | .spinningUp | .locked | .drift | .calibrating => d.spinDown now
  | .spinningDown | .stopped | .fault => { d with drive := 0, brake := true, spinHoldTimer := none }

/-- The door interlock: the drive and the drum, its DRUM_EVENT, the reports to the run and to a calibration run, and the mount
end (R50, R51, R58, R73, R167). -/
def doorInterlock (s : State) : State :=
  let t := s.onDrum (Drum.interlock s.now)
  let t := if t.drum.state = s.drum.state then t else drumEvent .state t
  mountEnd (calAbort .doorOpen (runAbort .door (drumReportToRun t)))

/-- The door input becomes OPEN (R50). -/
def openDoor (s : State) : State :=
  let t := doorInterlock (s.onPanel fun p => { p with door := .opened })
  panelEvent .door (some Door.opened.code) (selectAfterCal s t)

/-- DOOR_OPEN (R49, R50): without effect unless the door input is CLOSED. -/
def execDoorOpen (dt : Nat) (s : State) : Host.Outcome State Fault Refusal :=
  let s := advance dt s
  .next (if s.panel.door = .closed then openDoor s else s)

/-- A mount starts when the door is CLOSED and the clamp ENGAGED while no mount is present (R51). -/
def examineMount (s : State) : State :=
  if s.panel.door = .closed ∧ s.panel.clamp = .engaged ∧ s.panel.mountPresent = false then mountStart s else s

/-- DOOR_CLOSE (R49, R51): without effect unless the door input is OPEN. -/
def execDoorClose (dt : Nat) (s : State) : Host.Outcome State Fault Refusal :=
  let s := advance dt s
  .next (if s.panel.door = .opened then
      panelEvent .door (some Door.closed.code) (examineMount (s.onPanel fun p => { p with door := .closed }))
    else s)

/-- CLAMP_ENGAGE (R49, R51): without effect unless the clamp input is RELEASED. -/
def execClampEngage (dt : Nat) (s : State) : Host.Outcome State Fault Refusal :=
  let s := advance dt s
  .next (if s.panel.clamp = .released then
      panelEvent .clamp (some Clamp.engaged.code) (examineMount (s.onPanel fun p => { p with clamp := .engaged }))
    else s)

/-- The clamp input becomes RELEASED: with the door CLOSED the interlock acts as for a door opening (R50, R51). -/
def releaseClamp (s : State) : State :=
  let p := s.onPanel fun p => { p with clamp := .released }
  let t := if s.panel.door = .closed then doorInterlock p else mountEnd p
  panelEvent .clamp (some Clamp.released.code) (selectAfterCal s t)

/-- CLAMP_RELEASE (R49, R50, R51): without effect unless the clamp input is ENGAGED. -/
def execClampRelease (dt : Nat) (s : State) : Host.Outcome State Fault Refusal :=
  let s := advance dt s
  .next (if s.panel.clamp = .engaged then releaseClamp s else s)

/-- STOP_KEY (R20, R52, R57, R73, R167): the manager is HALTED, a run or a calibration run is aborted, the drum takes a stop
request, and a PANEL_EVENT is sent. -/
def execStopKey (dt : Nat) (s : State) : Host.Outcome State Fault Refusal :=
  let s := advance dt s
  let t := s.onManager fun m => { m with state := .halted }
  .next (panelEvent .stop none (stopRequest false (calAbort .stopped (runAbort .stop t))))

/-! ## Drum -/

/-- DRUM_SPIN (R55). -/
def execDrumSpin (dt : Nat) (tag : Byte) (payload : List Byte) (s : State) : Host.Outcome State Fault Refusal :=
  .next (arrive 0x11#8 tag payload (advance dt s))

/-- INDEX_PULSE (R41), with the photocell's reading at the pulse (R94). -/
def execIndexPulse (dt : Nat) (sample : Sample) (s : State) : Host.Outcome State Fault Refusal :=
  let s := advance dt s
  .next (selectAfterCal s (indexPulse sample.toNat s))

/-- SPIN_UP_LIMIT_EXPIRY (R46): without effect unless the timer runs, its time has passed and the drum is SPINNING_UP. -/
def execSpinUpLimitExpiry (dt : Nat) (s : State) : Host.Outcome State Fault Refusal :=
  let s := advance dt s
  .next (if due s.drum.spinUpTimer s.now ∧ s.drum.state = .spinningUp then selectAfterCal s (noLockFound s) else s)

/-- STALL (R47): without effect unless the stall timer runs and its time has passed. -/
def execStall (dt : Nat) (s : State) : Host.Outcome State Fault Refusal :=
  let s := advance dt s
  .next (if due s.drum.stallTimer s.now then selectAfterCal s (stallFound s) else s)

/-- The quiet timer expires in SPINNING_DOWN: the drum enters STOPPED (R37, R39). -/
def quietExpired (s : State) : State :=
  drumChanged (s.onDrum fun d => { d with state := .stopped, drive := 0, brake := true, quietTimer := none })

/-- QUIET_TIMER_EXPIRY (R39): without effect unless the timer runs, its time has passed and the drum is SPINNING_DOWN. -/
def execQuietTimerExpiry (dt : Nat) (s : State) : Host.Outcome State Fault Refusal :=
  let s := advance dt s
  .next (if due s.drum.quietTimer s.now ∧ s.drum.state = .spinningDown then quietExpired s else s)

/-- The spin-hold timer expires: with no order running a turning drum takes a stop request (R53). -/
def spinHoldExpired (s : State) : State :=
  let t := s.onDrum fun d => { d with spinHoldTimer := none }
  if t.orderRunning then t else if t.drum.state.isTurning then stopRequest false t else t

/-- SPIN_HOLD_EXPIRY (R53): without effect unless the spin-hold timer runs and its time has passed. -/
def execSpinHoldExpiry (dt : Nat) (s : State) : Host.Outcome State Fault Refusal :=
  let s := advance dt s
  .next (if due s.drum.spinHoldTimer s.now then selectAfterCal s (spinHoldExpired s) else s)

/-- ENCODER_COUNT (R94): an edge of the count signal; a rising edge acts when it is low and a falling one when it is high. -/
def execEncoderCount (dt : Nat) (edge : Edge) (sample : Sample) (s : State) : Host.Outcome State Fault Refusal :=
  let s := advance dt s
  .next (if s.encoder.high = (edge == .falling) then encoderEdge edge sample.toNat s else s)

end Sys2Proof.Machine
end

