-- ==== Sys2Proof/Machine/LineCommands.lean ====
section
/-! DEFINITION. The commands of the telephone line: boundaries, ends of signals, listens, loop current and release (R131 to
R146). -/

namespace Sys2Proof.Machine

/-! ## Line times -/

/-- The number, kind and values that the modulator sends for the store's answer; an extra phasing line and a closed-store line
have the number 0 (R144). -/
def lineFor (S : Nat) (a : ReadAnswer) : Nat × SentKind × List Nat :=
  match a with
  | .take l => (l.number, .take, l.values)
  | .repeated l => (l.number, .repeated, l.values)
  | .extra => (0, .extra, phasingValues S)
  | .closed => (0, .closed, List.replicate S 4095)

/-- A picture line time begins: the store's answer is sent, counted and followed by its trim request (R120 to R123, R144). -/
def pictureLine (S : Nat) (s : State) : State :=
  let x := lineFor S s.store.readAnswer
  (readStore s).onLine (LineUnit.sendLine x.1 x.2.1 x.2.2)

/-- A boundary in PHASING: a phasing line, or after the last one PICTURE and the first picture line time (R142, R143). -/
def phasingBoundary (t : LineTimer) (f : Figures) (s : State) : State :=
  if t.next < f.phasing then
    phasingLineReport (t.next + 1) (s.onLine (LineUnit.sendLine 0 .phasing (phasingValues f.samples)))
  else pictureLine f.samples ((phasingEndedReport s).onLine fun l => { l with activity := some .picture })

/-- A boundary in PICTURE: the end of the picture after line L, or the next picture line time (R144, R145). -/
def pictureBoundary (f : Figures) (s : State) : State :=
  if s.line.lastLineSent then endOfPictureReport (s.onLine (LineUnit.beginStopTone s.now)) else pictureLine f.samples s

/-- The line timer reaches its next boundary (R142). -/
def lineBoundary (s : State) : State :=
  match s.line.timer, s.line.figures, s.line.activity with
  | some t, some f, some .phasing => phasingBoundary t f s
  | some _, some f, some .picture => pictureBoundary f s
  | _, _, _ => s

/-- LINE_BOUNDARY: without effect unless the line timer runs and its next boundary has come. -/
def execLineBoundary (dt : Nat) (s : State) : Host.Outcome State Fault Refusal :=
  let s := advance dt s
  .next (if s.line.boundaryDue s.now then lineBoundary s else s)

/-! ## Ends of signals -/

/-- A signal has been sounding for `t` µs in activity `a`. -/
def LineUnit.soundedFor (a : Activity) (t now : Nat) (l : LineUnit) : Bool :=
  l.activity == some a && (match l.signal with | .sounding since => decide (since + t ≤ now) | _ => false)

/-- START_TONE_END (R141, R142, R143): without effect unless the start tone has lasted 3 s. -/
def execStartToneEnd (dt : Nat) (s : State) : Host.Outcome State Fault Refusal :=
  let s := advance dt s
  .next (if s.line.soundedFor .startTone (sec 3) s.now then
      phasingLineReport 1 (s.onLine (LineUnit.beginPhasing s.now))
    else s)

/-- STOP_TONE_END (R145, R146): without effect unless the stop tone has lasted 3 s. -/
def execStopToneEnd (dt : Nat) (s : State) : Host.Outcome State Fault Refusal :=
  let s := advance dt s
  .next (if s.line.soundedFor .stopTone (sec 3) s.now then
      stopToneEndedReport
        (s.onLine fun l => { l with activity := some .quiet, signal := .silent, lastSignalEnd := some s.now })
    else s)

/-- CALL_END (R137): the last digit ends; without effect unless the call has lasted 1,120 ms. -/
def execCallEnd (dt : Nat) (s : State) : Host.Outcome State Fault Refusal :=
  let s := advance dt s
  .next (if s.line.soundedFor .calling callTime s.now then s.onLine (LineUnit.listenAfter .rollCall s.now)
    else if s.line.soundedFor .polling callTime s.now then s.onLine (LineUnit.listenAfter .poll s.now)
    else s)

/-- DIAL_DIGITS_END (R139): the last digit's silence ends; without effect unless the digits have lasted their time. -/
def execDialDigitsEnd (dt : Nat) (s : State) : Host.Outcome State Fault Refusal :=
  let s := advance dt s
  .next (if s.line.soundedFor .dialing (dialTime s.line.dialDigits) s.now then
      s.onLine (LineUnit.listenAfter .dialAnswer s.now)
    else s)

/-- A hold burst begins: 800 Hz, and the next one 5 s later (R140). -/
def LineUnit.beginBurst (now : Nat) (l : LineUnit) : LineUnit :=
  { l with signal := .burst now, holdAt := some (now + sec 5) }

/-- HOLD_BURST (R140): without effect unless the unit is HOLDING and a burst is due. -/
def execHoldBurst (dt : Nat) (s : State) : Host.Outcome State Fault Refusal :=
  let s := advance dt s
  .next (if s.line.activity = some .holding ∧ s.line.signal = .silent ∧ due s.line.holdAt s.now then
      s.onLine (LineUnit.beginBurst s.now)
    else s)

/-- A hold burst ends: HOLDING goes on in silence, or the start tone or stop tone that waited begins (R140, R141, R146). -/
def LineUnit.endBurst (now : Nat) (l : LineUnit) : LineUnit :=
  { l with
    signal := if l.activity = some .holding then .silent else .sounding now
    lastSignalEnd := some now }

def LineUnit.burstOver (now : Nat) (l : LineUnit) : Bool :=
  match l.signal with
  | .burst since => decide (since + ms 400 ≤ now)
  | _ => false

/-- HOLD_BURST_END (R140): without effect unless a burst has lasted 400 ms. -/
def execHoldBurstEnd (dt : Nat) (s : State) : Host.Outcome State Fault Refusal :=
  let s := advance dt s
  .next (if s.line.burstOver s.now then reportIfStartTone (s.onLine (LineUnit.endBurst s.now)) else s)

/-! ## The guard and the listens -/

/-- The guard has passed: the listen opens, or the activity's signal begins (R133, R134, R135). -/
def guardOver (s : State) : State :=
  if s.line.activity = some .listening then s.onLine (LineUnit.openListen s.settings s.now)
  else reportIfStartTone (s.onLine fun l => { l with signal := .sounding s.now })

def LineUnit.guardDue (now : Nat) (l : LineUnit) : Bool :=
  match l.signal with
  | .guardWait ends => decide (ends ≤ now)
  | _ => false

/-- GUARD_EXPIRY (R133): without effect unless the activity waits for the guard and it has passed. -/
def execGuardExpiry (dt : Nat) (s : State) : Host.Outcome State Fault Refusal :=
  let s := advance dt s
  .next (if s.line.guardDue s.now then guardOver s else s)

/-- A tone qualifies as the reply: the first one, at least 150 ms after the listen opened; the window stops (R134, R135). -/
def LineUnit.qualify (tone : ReplyTone) (now : Nat) (l : LineUnit) : LineUnit :=
  match l.signal with
  | .listen opened w none =>
    if opened + ms 150 ≤ now ∧ w.isSome then { l with signal := .listen opened none (some (tone, now)) } else l
  | _ => l

/-- REPLY_QUALIFIED (R134, R135). -/
def execReplyQualified (dt : Nat) (tone : ReplyTone) (s : State) : Host.Outcome State Fault Refusal :=
  let s := advance dt s
  .next (s.onLine (LineUnit.qualify tone s.now))

/-- The listen ends and its outcome is reported (R135, R147). -/
def listenEnds (out : Option ReplyTone) (s : State) : State :=
  listenOutcome out (s.onLine (LineUnit.endListen s.now))

/-- The reply qualified so far, if it qualified at least `t` µs ago. -/
def LineUnit.replyOlder (t now : Nat) (l : LineUnit) : Option ReplyTone :=
  match l.signal with
  | .listen _ _ (some (tone, q)) => if q + t ≤ now then some tone else none
  | _ => none

/-- REPLY_END (R136): the reply has been absent for 80 ms; without effect unless one qualified at least 80 ms ago. -/
def execReplyEnd (dt : Nat) (s : State) : Host.Outcome State Fault Refusal :=
  let s := advance dt s
  .next (match s.line.replyOlder (ms 80) s.now with
    | some tone => listenEnds (some tone) s
    | none => s)

/-- REPLY_OVERLONG (R136): without effect unless the reply qualified 3 s ago. -/
def execReplyOverlong (dt : Nat) (s : State) : Host.Outcome State Fault Refusal :=
  let s := advance dt s
  .next (match s.line.replyOlder (sec 3) s.now with
    | some tone => listenEnds (some tone) s
    | none => s)

/-- The window of an open listen without a reply has expired by now (R135). -/
def LineUnit.windowOver (now : Nat) (l : LineUnit) : Bool :=
  match l.signal with
  | .listen _ (some w) none => decide (w ≤ now)
  | _ => false

/-- REPLY_WINDOW_EXPIRY (R135): NONE; without effect unless the window runs and its time has passed. -/
def execReplyWindowExpiry (dt : Nat) (s : State) : Host.Outcome State Fault Refusal :=
  let s := advance dt s
  .next (if s.line.windowOver s.now then listenEnds none s else s)

/-! ## Dial tone -/

/-- The unit has watched for dial tone for `t` µs (R138). -/
def LineUnit.dialWatched (t now : Nat) (l : LineUnit) : Bool :=
  match l.signal with
  | .dialTone since => decide (since + t ≤ now)
  | _ => false

/-- DIAL_TONE_FOUND (R138, R139): the listen ends, and the digits follow after the guard; without effect unless dial tone has
been watched for at least 500 ms. -/
def execDialToneFound (dt : Nat) (s : State) : Host.Outcome State Fault Refusal :=
  let s := advance dt s
  .next (if s.line.dialWatched (ms 500) s.now then
      s.onLine fun l => { l with signal := .guardWait (s.now + guardTime), lastListenEnd := some s.now }
    else s)

/-- NO_DIAL_TONE (R138, R153): without effect unless dial tone has been watched for 5 s. -/
def execNoDialTone (dt : Nat) (s : State) : Host.Outcome State Fault Refusal :=
  let s := advance dt s
  .next (if s.line.dialWatched (sec 5) s.now then noDialToneReport (s.onLine (LineUnit.endListen s.now)) else s)

/-! ## Loop current and release -/

/-- LOOP_CURRENT_LOST (R132): the level falls, and while SEIZED the loop-current timer starts. -/
def execLoopCurrentLost (dt : Nat) (s : State) : Host.Outcome State Fault Refusal :=
  let s := advance dt s
  .next (if s.line.loopCurrent then
      s.onLine fun l =>
        { l with loopCurrent := false, loopTimer := if l.state = .seized then some (s.now + ms 500) else l.loopTimer }
    else s)

/-- LOOP_CURRENT_RETURN (R132): the level rises, and the loop-current timer stops. -/
def execLoopCurrentReturn (dt : Nat) (s : State) : Host.Outcome State Fault Refusal :=
  let s := advance dt s
  .next (s.onLine fun l => { l with loopCurrent := true, loopTimer := none })

/-- The line is lost: the LINE_EVENT LOSS, the report to the run, and the release (R132, R148, R168). -/
def lineLost (s : State) : State :=
  let t := placeNotice (.line .loss s.line.orderNumber s.line.network s.line.activity none)
    (s.onLine fun l => { l with loopTimer := none })
  (runAbort .lineLoss t).onLine (LineUnit.released .loss s.now)

/-- LINE_LOSS (R132): without effect unless the line is SEIZED and the loop-current timer's time has passed. -/
def execLineLoss (dt : Nat) (s : State) : Host.Outcome State Fault Refusal :=
  let s := advance dt s
  .next (if s.line.state = .seized ∧ due s.line.loopTimer s.now then lineLost s else s)

/-- RELEASE_CLEARED (R131, R149): without effect unless the line is RELEASING and 300 ms have passed. -/
def execReleaseCleared (dt : Nat) (s : State) : Host.Outcome State Fault Refusal :=
  let s := advance dt s
  .next (if s.line.state = .releasing ∧ due s.line.releaseAt s.now then releaseCleared s else s)

end Sys2Proof.Machine
end

