-- ==== Sys2Proof/Machine/Signal.lean ====
section
/-! DEFINITION. What the line unit sends on the telephone line at the present moment (R111 to R113, R137, R139 to R141, R144 to
R146): an output of the part, read from its state. -/

namespace Sys2Proof.Machine

/-- A signal on the line: silence, one tone, a DTMF pair, or a carrier of fixed frequency at an amplitude
step. -/
inductive LineSignal where
  | silence
  | tone (hz : Nat)
  | dtmf (low high : Nat)
  | carrier (hz amplitude : Nat)
  deriving DecidableEq, Repr

/-- The frequency of call digit `d` (R137). -/
def callDigitHz (d : Nat) : Nat := 400 + 30 * d

/-- Digit `i`, 0 for the thousands digit, of a call code (R35, R137). -/
def callDigit (code i : Nat) : Nat := code / 10 ^ (3 - i) % 10

/-- The selective call `t` µs after its first tone (R137). -/
def callSignal (code t : Nat) : LineSignal :=
  if t < ms 400 then .tone 800
  else if t < ms 460 then .silence
  else if t < ms 1120 then
    if (t - ms 460) % ms 180 < ms 120 then .tone (callDigitHz (callDigit code ((t - ms 460) / ms 180))) else .silence
  else .silence

/-- The low tone of a dial symbol (R139). -/
def DialSymbol.low : DialSymbol → Nat
  | .digit d => if d.val = 0 then 941 else if d.val ≤ 3 then 697 else if d.val ≤ 6 then 770 else 852
  | .star => 941
  | .hash => 941

/-- The high tone of a dial symbol (R139). -/
def DialSymbol.high : DialSymbol → Nat
  | .digit d => if d.val = 0 then 1336 else if d.val % 3 = 1 then 1209 else if d.val % 3 = 2 then 1336 else 1477
  | .star => 1209
  | .hash => 1477

/-- The dialling `t` µs after its first tone (R139). -/
def dialSignal (ds : List DialSymbol) (t : Nat) : LineSignal :=
  match ds[t / ms 160]? with
  | some d => if t % ms 160 < ms 80 then .dtmf d.low d.high else .silence
  | none => .silence

/-- The AM carrier's fixed frequency (R112). -/
def amCarrierHz : Nat := 2000

/-- The carrier map of a line value (R111, R112). -/
def carrierOf (st : Settings) (m : Modulation) (v : Nat) : LineSignal :=
  match m with
  | .fm => .tone (fmHz st v)
  | .am => .carrier amCarrierHz (amStep st v)

/-- A line being sent: the value whose hold time holds the moment (R113, R144). -/
def lineSignal (st : Settings) (f : Figures) (x : SentLine) (now : Nat) : LineSignal :=
  carrierOf st f.modulation (x.values.getD (positionAt (lineTime f.speed) f.samples (now - x.start)) 0)

/-- The signal the line unit sends now. -/
def State.lineOutput (s : State) : LineSignal :=
  match s.line.signal, s.line.activity with
  | .burst _, _ => .tone 800
  | .sounding since, some .calling => callSignal (s.line.callCode.getD 0) (s.now - since)
  | .sounding since, some .polling => callSignal (s.line.callCode.getD 0) (s.now - since)
  | .sounding since, some .dialing => dialSignal s.line.dialDigits (s.now - since)
  | .sounding _, some .startTone =>
    match s.line.figures with
    | some f => carrierOf s.settings f.modulation 4095
    | none => .silence
  | .sounding _, some .stopTone => .tone 1000
  | .sounding _, some .phasing =>
    match s.line.figures, s.line.sent with
    | some f, some x => lineSignal s.settings f x s.now
    | _, _ => .silence
  | .sounding _, some .picture =>
    match s.line.figures, s.line.sent with
    | some f, some x => lineSignal s.settings f x s.now
    | _, _ => .silence
  | _, _ => .silence

end Sys2Proof.Machine
end

