-- ==== Sys2Proof/Machine/Power.lean ====
section
/-! DEFINITION. POWER_ON: every block takes its power-on state, with the levels the switches and sensors show (R26, R29, R49,
R59, R61, R63, R83, R88, R93, R127, R149, R173, R180, R190, R197, R202). -/

namespace Sys2Proof.Machine

/-- The panel at power-on: the levels the switches show, and mount 1 present if the door is CLOSED and the clamp ENGAGED
(R49, R59). -/
def panelAtPower (l : Levels) : Panel :=
  { door := if l.doorClosed then .closed else .opened
    clamp := if l.clampEngaged then .engaged else .released
    mountCounter := if l.doorClosed && l.clampEngaged then 1 else 0
    mountPresent := l.doorClosed && l.clampEngaged }

/-- The carriage at power-on: HOMING, or HOME at once if the home switch is closed (R90, R93). -/
def carriageAtPower (l : Levels) : Carriage :=
  if l.homeSwitchClosed then State.reset.carriage.arriveHome else State.reset.carriage

/-- The state right after power-on with these levels. -/
def State.atPower (l : Levels) : State :=
  { State.reset with
    panel := panelAtPower l
    carriage := carriageAtPower l
    slips := { State.reset.slips with paper := if l.paperPresent then .present else .out } }

/-- POWER_ON; the commands that wait still wait (R202). -/
def execPowerOn (levels : Levels) (s : State) : Host.Outcome State Fault Refusal :=
  .next { State.atPower levels with pending := s.pending }

end Sys2Proof.Machine
end

