-- ==== Sys2Proof/Machine/LinkCommands.lean ====
section
/-! DEFINITION. The commands of the host link: bytes, the gap timer, the transmitter, and the request frames (R191 to R202). -/

namespace Sys2Proof.Machine

/-- LINK_BYTE_RECEIVED (R191). -/
def execLinkByteReceived (dt : Nat) (byte : Byte) (s : State) : Host.Outcome State Fault Refusal :=
  .next (receiveByte byte (advance dt s))

/-- GAP_TIMER_EXPIRY (R191): without effect unless the gap timer runs and its time has passed. -/
def execGapTimerExpiry (dt : Nat) (s : State) : Host.Outcome State Fault Refusal :=
  let s := advance dt s
  .next (if due s.link.gapTimer s.now then gapExpired s else s)

/-- FRAME_SENT (R192, R193, R195): without effect unless a frame is being sent and its time has passed. -/
def execFrameSent (dt : Nat) (s : State) : Host.Outcome State Fault Refusal :=
  let s := advance dt s
  .next (if s.link.txDue s.now then frameDone s else s)

/-- UNKNOWN_KIND: a frame whose kind byte is as given (R193). -/
def execUnknownKind (dt : Nat) (tag kind : Byte) (payload : List Byte) (s : State) :
    Host.Outcome State Fault Refusal :=
  .next (arrive kind tag payload (advance dt s))

/-- STATUS (R200). -/
def execStatus (dt : Nat) (tag : Byte) (payload : List Byte) (s : State) : Host.Outcome State Fault Refusal :=
  .next (arrive 0x01#8 tag payload (advance dt s))

/-- SETTINGS_SET (R197). -/
def execSettingsSet (dt : Nat) (tag : Byte) (payload : List Byte) (s : State) : Host.Outcome State Fault Refusal :=
  .next (arrive 0x02#8 tag payload (advance dt s))

/-- SETTINGS_GET (R198). -/
def execSettingsGet (dt : Nat) (tag : Byte) (payload : List Byte) (s : State) : Host.Outcome State Fault Refusal :=
  .next (arrive 0x03#8 tag payload (advance dt s))

/-- CLOCK_SET (R199). -/
def execClockSet (dt : Nat) (tag : Byte) (payload : List Byte) (s : State) : Host.Outcome State Fault Refusal :=
  .next (arrive 0x04#8 tag payload (advance dt s))

/-- RESTART (R201). -/
def execRestart (dt : Nat) (tag : Byte) (payload : List Byte) (s : State) : Host.Outcome State Fault Refusal :=
  .next (arrive 0x13#8 tag payload (advance dt s))

/-- TIME_OF_DAY_TICK (R199): without effect unless the clock is set and its second has passed. -/
def execTimeOfDayTick (dt : Nat) (s : State) : Host.Outcome State Fault Refusal :=
  let s := advance dt s
  .next (if due (s.clock.map Clock.tickAt) s.now then { s with clock := s.clock.map Clock.step } else s)

end Sys2Proof.Machine
end

