-- ==== Sys2Proof/Machine/OrderCommands.lean ====
section
/-! DEFINITION. The commands of the station directory and the order manager (R13 to R15, R19, R21 to R23, R31, R33, R156). -/

namespace Sys2Proof.Machine

/-- STATION_LOAD (R31, R32). -/
def execStationLoad (dt : Nat) (tag : Byte) (payload : List Byte) (s : State) : Host.Outcome State Fault Refusal :=
  .next (arrive 0x05#8 tag payload (advance dt s))

/-- STATION_READ (R33). -/
def execStationRead (dt : Nat) (tag : Byte) (payload : List Byte) (s : State) : Host.Outcome State Fault Refusal :=
  .next (arrive 0x06#8 tag payload (advance dt s))

/-- ORDER_BEGIN (R13). -/
def execOrderBegin (dt : Nat) (tag : Byte) (payload : List Byte) (s : State) : Host.Outcome State Fault Refusal :=
  .next (arrive 0x0B#8 tag payload (advance dt s))

/-- ORDER_PART (R14). -/
def execOrderPart (dt : Nat) (tag : Byte) (payload : List Byte) (s : State) : Host.Outcome State Fault Refusal :=
  .next (arrive 0x0C#8 tag payload (advance dt s))

/-- ORDER_CANCEL (R21). -/
def execOrderCancel (dt : Nat) (tag : Byte) (payload : List Byte) (s : State) : Host.Outcome State Fault Refusal :=
  .next (arrive 0x0D#8 tag payload (advance dt s))

/-- ORDER_INQUIRE (R22). -/
def execOrderInquire (dt : Nat) (tag : Byte) (payload : List Byte) (s : State) : Host.Outcome State Fault Refusal :=
  .next (arrive 0x0E#8 tag payload (advance dt s))

/-- ORDER_LIST (R23). -/
def execOrderList (dt : Nat) (tag : Byte) (payload : List Byte) (s : State) : Host.Outcome State Fault Refusal :=
  .next (arrive 0x0F#8 tag payload (advance dt s))

/-- QUEUE_CONTROL HALT, action 0 (R19). -/
def execQueueControlHalt (dt : Nat) (tag : Byte) (rest : List Byte) (s : State) : Host.Outcome State Fault Refusal :=
  .next (arrive 0x10#8 tag (0#8 :: rest) (advance dt s))

/-- QUEUE_CONTROL RESUME, action 1 (R19). -/
def execQueueControlResume (dt : Nat) (tag : Byte) (rest : List Byte) (s : State) : Host.Outcome State Fault Refusal :=
  .next (arrive 0x10#8 tag (1#8 :: rest) (advance dt s))

/-- ASSEMBLY_TIMEOUT (R15): without effect unless the assembly timer runs and its time has passed. -/
def execAssemblyTimeout (dt : Nat) (s : State) : Host.Outcome State Fault Refusal :=
  let s := advance dt s
  .next (if due s.manager.assemblyTimer s.now then assemblyExpired s else s)

/-- DEFER_LIMIT_EXPIRY (R156): without effect unless the defer timer runs and its time has passed. -/
def execDeferLimitExpiry (dt : Nat) (s : State) : Host.Outcome State Fault Refusal :=
  let s := advance dt s
  .next (if due (s.run.bind RunRecord.deferTimer) s.now then deferExpired s else s)

end Sys2Proof.Machine
end

