-- ==== Sys2Proof/Machine/ScanCommands.lean ====
section
/-! DEFINITION. The commands of the lamp and the carriage (R85, R86, R89, R90). -/

namespace Sys2Proof.Machine

/-- The warm-up ends: the lamp is READY, the run's start conditions and a waiting calibration run are examined (R84, R85,
R155). -/
def warmUpDone (s : State) : State :=
  calExamine <| examineStart <| reportLamp <| s.onLamp fun l => { l with state := .ready, warmTimer := none }

/-- WARM_UP_EXPIRY (R85): without effect unless the lamp is WARMING and the timer's time has passed. -/
def execWarmUpExpiry (dt : Nat) (s : State) : Host.Outcome State Fault Refusal :=
  let s := advance dt s
  .next (if due s.lamp.warmTimer s.now ∧ s.lamp.state = .warming then warmUpDone s else s)

/-- LAMP_IDLE_EXPIRY (R86): the lamp goes OFF; without effect unless the lamp-idle timer runs and its time has passed. -/
def execLampIdleExpiry (dt : Nat) (s : State) : Host.Outcome State Fault Refusal :=
  let s := advance dt s
  .next (if due s.lamp.idleTimer s.now then calExamine (reportLamp (s.onLamp (Lamp.putOut s.now))) else s)

/-- The carriage enters FAULT, and the run and a calibration run are told (R90, R92, R158). -/
def carriageFailed (s : State) : State :=
  carriageFaultToCal (runAbort .carriageFault (reportCarriage (s.onCarriage Carriage.fail)))

/-- A step toward home; the 5,400th without the switch is a FAULT (R89, R90). -/
def homeStep (s : State) : State :=
  let t := s.onCarriage (Carriage.stepHome s.now)
  if 5400 ≤ t.carriage.stepsTaken then carriageFailed t else t

/-- CARRIAGE_STEP (R89, R90, R91): the step of the movement in progress whose moment has come. -/
def carriageStep (s : State) : State :=
  if s.carriage.state.homeSeeking then homeStep s
  else if s.carriage.state = .advancing ∧ s.carriage.target.isSome then
    reportArrival (s.onCarriage (Carriage.stepOut s.now))
  else s

/-- CARRIAGE_STEP: without effect unless a movement is in progress and its next step is due. -/
def execCarriageStep (dt : Nat) (s : State) : Host.Outcome State Fault Refusal :=
  let s := advance dt s
  .next (if due s.carriage.stepAt s.now then selectAfterCal s (carriageStep s) else s)

/-- The home switch ends a home-seeking movement: HOME, the reports, and a move that waited (R90, R91, R155). -/
def homeReached (s : State) : State :=
  let t := reportCarriage (s.onCarriage fun c => { c.arriveHome with waitingMove := none })
  let t := match s.carriage.waitingMove with
    | some p => moveFromHome p t
    | none => t
  examineStart t

/-- HOME_SWITCH_CLOSE (R90): a home-seeking movement in progress ends; otherwise the closed level is there to be read when
the next one begins (log entry 28). -/
def execHomeSwitchClose (dt : Nat) (s : State) : Host.Outcome State Fault Refusal :=
  let s := advance dt s
  .next (if s.carriage.state.homeSeeking then homeReached s
    else s.onCarriage fun c => { c with homeClosed := true })

/-- HOME_SEARCH_LIMIT (R90): the 5,400th step of a home-seeking movement is taken without the switch; without effect unless
5,399 have been taken and the next is due. -/
def execHomeSearchLimit (dt : Nat) (s : State) : Host.Outcome State Fault Refusal :=
  let s := advance dt s
  .next (if s.carriage.state.homeSeeking ∧ 5399 ≤ s.carriage.stepsTaken ∧ due s.carriage.stepAt s.now then
      selectAfterCal s (homeStep s)
    else s)

end Sys2Proof.Machine
end

