-- ==== Sys2Proof/Machine/SlipCommands.lean ====
section
/-! DEFINITION. The commands of the slip unit (R180 to R188). -/

namespace Sys2Proof.Machine

/-- SLIP_CONTROL MODE, action 0 (R186). -/
def execSlipControlMode (dt : Nat) (tag : Byte) (rest : List Byte) (s : State) : Host.Outcome State Fault Refusal :=
  .next (arrive 0x12#8 tag (0#8 :: rest) (advance dt s))

/-- SLIP_CONTROL FEED, action 1 (R187). -/
def execSlipControlFeed (dt : Nat) (tag : Byte) (rest : List Byte) (s : State) : Host.Outcome State Fault Refusal :=
  .next (arrive 0x12#8 tag (1#8 :: rest) (advance dt s))

/-- SLIP_CONTROL REPRINT, action 2 (R188). -/
def execSlipControlReprint (dt : Nat) (tag : Byte) (rest : List Byte) (s : State) : Host.Outcome State Fault Refusal :=
  .next (arrive 0x12#8 tag (2#8 :: rest) (advance dt s))

/-- PAPER_OUT (R180, R184): without effect unless the paper state is PRESENT. -/
def execPaperOut (dt : Nat) (s : State) : Host.Outcome State Fault Refusal :=
  let s := advance dt s
  .next (if s.slips.paper = .present then paperEvent .paperOut (s.onSlips SlipUnit.paperOut) else s)

/-- PAPER_BACK (R180, R185): without effect unless the paper state is OUT. -/
def execPaperBack (dt : Nat) (s : State) : Host.Outcome State Fault Refusal :=
  let s := advance dt s
  .next (if s.slips.paper = .out then paperEvent .paperBack (paperReturns s) else s)

/-- ROW_STEP_END (R182, R183, R185, R187): without effect unless the row being printed or fed has lasted its time. -/
def execRowStepEnd (dt : Nat) (s : State) : Host.Outcome State Fault Refusal :=
  let s := advance dt s
  .next (if s.slips.rowDue s.now then rowStep s else s)

end Sys2Proof.Machine
end

