-- ==== Sys2Proof/Machine/Dispatch.lean ====
section
/-! DEFINITION. The dispatch: one arm for each command, one direct call of its meaning. -/

namespace Sys2Proof.Machine

def exec (i : Instr) (s : State) : Host.Outcome State Fault Refusal :=
  match i with
  | .powerOn levels => Sys2Proof.Machine.execPowerOn levels s
  | .linkByteReceived dt byte => Sys2Proof.Machine.execLinkByteReceived dt byte s
  | .gapTimerExpiry dt => Sys2Proof.Machine.execGapTimerExpiry dt s
  | .frameSent dt => Sys2Proof.Machine.execFrameSent dt s
  | .unknownKind dt tag kind payload => Sys2Proof.Machine.execUnknownKind dt tag kind payload s
  | .status dt tag payload => Sys2Proof.Machine.execStatus dt tag payload s
  | .settingsSet dt tag payload => Sys2Proof.Machine.execSettingsSet dt tag payload s
  | .settingsGet dt tag payload => Sys2Proof.Machine.execSettingsGet dt tag payload s
  | .clockSet dt tag payload => Sys2Proof.Machine.execClockSet dt tag payload s
  | .stationLoad dt tag payload => Sys2Proof.Machine.execStationLoad dt tag payload s
  | .stationRead dt tag payload => Sys2Proof.Machine.execStationRead dt tag payload s
  | .calLoad dt tag payload => Sys2Proof.Machine.execCalLoad dt tag payload s
  | .calRead dt tag payload => Sys2Proof.Machine.execCalRead dt tag payload s
  | .curveLoad dt tag payload => Sys2Proof.Machine.execCurveLoad dt tag payload s
  | .calRunMotor dt tag rest => Sys2Proof.Machine.execCalRunMotor dt tag rest s
  | .calRunDark dt tag rest => Sys2Proof.Machine.execCalRunDark dt tag rest s
  | .calRunWhite dt tag rest => Sys2Proof.Machine.execCalRunWhite dt tag rest s
  | .calRunSteps dt tag rest => Sys2Proof.Machine.execCalRunSteps dt tag rest s
  | .orderBegin dt tag payload => Sys2Proof.Machine.execOrderBegin dt tag payload s
  | .orderPart dt tag payload => Sys2Proof.Machine.execOrderPart dt tag payload s
  | .orderCancel dt tag payload => Sys2Proof.Machine.execOrderCancel dt tag payload s
  | .orderInquire dt tag payload => Sys2Proof.Machine.execOrderInquire dt tag payload s
  | .orderList dt tag payload => Sys2Proof.Machine.execOrderList dt tag payload s
  | .queueControlHalt dt tag rest => Sys2Proof.Machine.execQueueControlHalt dt tag rest s
  | .queueControlResume dt tag rest => Sys2Proof.Machine.execQueueControlResume dt tag rest s
  | .drumSpin dt tag payload => Sys2Proof.Machine.execDrumSpin dt tag payload s
  | .slipControlMode dt tag rest => Sys2Proof.Machine.execSlipControlMode dt tag rest s
  | .slipControlFeed dt tag rest => Sys2Proof.Machine.execSlipControlFeed dt tag rest s
  | .slipControlReprint dt tag rest => Sys2Proof.Machine.execSlipControlReprint dt tag rest s
  | .restart dt tag payload => Sys2Proof.Machine.execRestart dt tag payload s
  | .assemblyTimeout dt => Sys2Proof.Machine.execAssemblyTimeout dt s
  | .doorOpen dt => Sys2Proof.Machine.execDoorOpen dt s
  | .doorClose dt => Sys2Proof.Machine.execDoorClose dt s
  | .clampEngage dt => Sys2Proof.Machine.execClampEngage dt s
  | .clampRelease dt => Sys2Proof.Machine.execClampRelease dt s
  | .stopKey dt => Sys2Proof.Machine.execStopKey dt s
  | .indexPulse dt sample => Sys2Proof.Machine.execIndexPulse dt sample s
  | .spinUpLimitExpiry dt => Sys2Proof.Machine.execSpinUpLimitExpiry dt s
  | .stall dt => Sys2Proof.Machine.execStall dt s
  | .quietTimerExpiry dt => Sys2Proof.Machine.execQuietTimerExpiry dt s
  | .spinHoldExpiry dt => Sys2Proof.Machine.execSpinHoldExpiry dt s
  | .motorSettleEnd dt => Sys2Proof.Machine.execMotorSettleEnd dt s
  | .darkLampSettled dt => Sys2Proof.Machine.execDarkLampSettled dt s
  | .warmUpExpiry dt => Sys2Proof.Machine.execWarmUpExpiry dt s
  | .lampIdleExpiry dt => Sys2Proof.Machine.execLampIdleExpiry dt s
  | .carriageStep dt => Sys2Proof.Machine.execCarriageStep dt s
  | .homeSwitchClose dt => Sys2Proof.Machine.execHomeSwitchClose dt s
  | .homeSearchLimit dt => Sys2Proof.Machine.execHomeSearchLimit dt s
  | .lineBoundary dt => Sys2Proof.Machine.execLineBoundary dt s
  | .startToneEnd dt => Sys2Proof.Machine.execStartToneEnd dt s
  | .stopToneEnd dt => Sys2Proof.Machine.execStopToneEnd dt s
  | .releaseCleared dt => Sys2Proof.Machine.execReleaseCleared dt s
  | .loopCurrentLost dt => Sys2Proof.Machine.execLoopCurrentLost dt s
  | .loopCurrentReturn dt => Sys2Proof.Machine.execLoopCurrentReturn dt s
  | .lineLoss dt => Sys2Proof.Machine.execLineLoss dt s
  | .guardExpiry dt => Sys2Proof.Machine.execGuardExpiry dt s
  | .callEnd dt => Sys2Proof.Machine.execCallEnd dt s
  | .replyQualified dt tone => Sys2Proof.Machine.execReplyQualified dt tone s
  | .replyEnd dt => Sys2Proof.Machine.execReplyEnd dt s
  | .replyOverlong dt => Sys2Proof.Machine.execReplyOverlong dt s
  | .replyWindowExpiry dt => Sys2Proof.Machine.execReplyWindowExpiry dt s
  | .dialToneFound dt => Sys2Proof.Machine.execDialToneFound dt s
  | .noDialTone dt => Sys2Proof.Machine.execNoDialTone dt s
  | .dialDigitsEnd dt => Sys2Proof.Machine.execDialDigitsEnd dt s
  | .holdBurst dt => Sys2Proof.Machine.execHoldBurst dt s
  | .holdBurstEnd dt => Sys2Proof.Machine.execHoldBurstEnd dt s
  | .deferLimitExpiry dt => Sys2Proof.Machine.execDeferLimitExpiry dt s
  | .paperOut dt => Sys2Proof.Machine.execPaperOut dt s
  | .paperBack dt => Sys2Proof.Machine.execPaperBack dt s
  | .rowStepEnd dt => Sys2Proof.Machine.execRowStepEnd dt s
  | .timeOfDayTick dt => Sys2Proof.Machine.execTimeOfDayTick dt s
  | .encoderCount dt edge sample => Sys2Proof.Machine.execEncoderCount dt edge sample s

end Sys2Proof.Machine
end

