-- ==== Sys2Proof/Safety.lean ====
section
/-! DEFINITION. What counts as a safe run, in the terms statements use: reachable states, the invariants of the part, the
state of a link that can take a request, and the state that a request's answer leaves. -/

namespace Sys2Proof

/-- The frame that a request row stands for, with the time before it (log entry 7); `none` for the other rows. -/
def Instr.frame : Instr → Option (Nat × Machine.Frame)
  | .unknownKind dt tag kind p => some (dt, ⟨kind, tag, p⟩)
  | .status dt tag p => some (dt, ⟨0x01#8, tag, p⟩)
  | .settingsSet dt tag p => some (dt, ⟨0x02#8, tag, p⟩)
  | .settingsGet dt tag p => some (dt, ⟨0x03#8, tag, p⟩)
  | .clockSet dt tag p => some (dt, ⟨0x04#8, tag, p⟩)
  | .stationLoad dt tag p => some (dt, ⟨0x05#8, tag, p⟩)
  | .stationRead dt tag p => some (dt, ⟨0x06#8, tag, p⟩)
  | .calLoad dt tag p => some (dt, ⟨0x07#8, tag, p⟩)
  | .calRead dt tag p => some (dt, ⟨0x08#8, tag, p⟩)
  | .curveLoad dt tag p => some (dt, ⟨0x09#8, tag, p⟩)
  | .calRunMotor dt tag r => some (dt, ⟨0x0A#8, tag, 0#8 :: r⟩)
  | .calRunDark dt tag r => some (dt, ⟨0x0A#8, tag, 1#8 :: r⟩)
  | .calRunWhite dt tag r => some (dt, ⟨0x0A#8, tag, 2#8 :: r⟩)
  | .calRunSteps dt tag r => some (dt, ⟨0x0A#8, tag, 3#8 :: r⟩)
  | .orderBegin dt tag p => some (dt, ⟨0x0B#8, tag, p⟩)
  | .orderPart dt tag p => some (dt, ⟨0x0C#8, tag, p⟩)
  | .orderCancel dt tag p => some (dt, ⟨0x0D#8, tag, p⟩)
  | .orderInquire dt tag p => some (dt, ⟨0x0E#8, tag, p⟩)
  | .orderList dt tag p => some (dt, ⟨0x0F#8, tag, p⟩)
  | .queueControlHalt dt tag r => some (dt, ⟨0x10#8, tag, 0#8 :: r⟩)
  | .queueControlResume dt tag r => some (dt, ⟨0x10#8, tag, 1#8 :: r⟩)
  | .drumSpin dt tag p => some (dt, ⟨0x11#8, tag, p⟩)
  | .slipControlMode dt tag r => some (dt, ⟨0x12#8, tag, 0#8 :: r⟩)
  | .slipControlFeed dt tag r => some (dt, ⟨0x12#8, tag, 1#8 :: r⟩)
  | .slipControlReprint dt tag r => some (dt, ⟨0x12#8, tag, 2#8 :: r⟩)
  | .restart dt tag p => some (dt, ⟨0x13#8, tag, p⟩)
  | _ => none

end Sys2Proof

namespace Sys2Proof.Machine

/-! ## Runs -/

/-- The states a step or a sender reaches from reset: a sender adds a command at the back of the queue. -/
inductive Reachable : State → Prop where
  | reset : Reachable State.reset
  | send (c : Instr) (s : State) : Reachable s → Reachable { s with pending := s.pending ++ [c] }
  | step (s t : State) : Reachable s → Machine.step s = .next t → Reachable t

/-- Bytes received one after another, each the given time after the one before. -/
def receiveAll : List (Nat × Byte) → State → Host.Outcome State Fault Refusal
  | [], s => .next s
  | (dt, b) :: rest, s =>
    match exec (.linkByteReceived dt b) s with
    | .next t => receiveAll rest t
    | o => o

/-! ## The link -/

/-- The link has no request in hand: none is held, no reply waits, none is awaited and none is being sent. -/
def State.LinkFree (s : State) : Prop :=
  s.link.holding = [] ∧ s.link.replySlot = none ∧ s.link.restart = none ∧ ∀ x, s.link.tx = some x → x.isReply = false

/-- The link with request `r` held and its reply frame made at the moment `now`: a free transmitter sends it, a busy one
leaves it in the reply slot (R192, R194, R195). -/
def Link.replying (r : Request) (f : Frame) (now : Nat) (l : Link) : Link :=
  match l.tx with
  | none => { l with holding := [r], tx := some { frame := f, isReply := true, since := now } }
  | some _ => { l with holding := [r], replySlot := some f }

/-- `s` with request `r` answered by `a`, `dt` microseconds later, and nothing else changed. -/
def State.answered (dt : Nat) (r : Request) (a : Reply) (s : State) : State :=
  { s with now := s.now + dt, link := s.link.replying r (Reply.frame r a) (s.now + dt) }

/-- A notice joins the queue while a request is in service: it waits; with 24 queued it is lost (R195). -/
def Link.enqueue (n : Notice) (l : Link) : Link :=
  if l.notices.length < 24 then { l with notices := l.notices ++ [n] } else { l with noticesLost := true }

/-- `s` with one more notice placed while a request is in service. -/
def State.noticed (n : Notice) (s : State) : State := { s with link := s.link.enqueue n }

/-! ## Invariants -/

/-- The drum's states as R37, R39, R43 and R45 to R48 describe them. -/
def Drum.Inv (d : Drum) : Prop :=
  d.drive ≤ 4095
    ∧ (d.brake = true ↔ d.state = .stopped ∨ d.state = .spinningDown ∨ d.state = .fault)
    ∧ (d.brake = true → d.drive = 0)
    ∧ (d.state = .calibrating → d.drive = 1200 ∨ d.drive = 3600)
    ∧ (d.state.isTurning = false → d.target = 0)
    ∧ (d.dff.isSome = true ↔ d.state.isTurning = true)
    ∧ (∀ f, d.dff = some f → 200 ≤ f ∧ f ≤ 3900)
    ∧ (-1024 ≤ d.integral ∧ d.integral ≤ 1024)
    ∧ (d.inCount < 4 ∧ d.outCount < 2)
    ∧ (d.stallTimer.isSome = true ↔ 0 < d.drive)
    ∧ (d.spinUpTimer.isSome = true ↔ d.state = .spinningUp ∧ d.noLock = false)
    ∧ (d.noLock = true → d.state = .spinningUp)
    ∧ (d.quietTimer.isSome = true ↔ d.state = .spinningDown)

/-- The drum, its brake under an open door (R37, R50), and the MOTOR run that CALIBRATING belongs to (R48, R74). -/
def State.DrumInv (s : State) : Prop :=
  s.drum.Inv
    ∧ (s.panel.door = .opened → s.drum.brake = true)
    ∧ (s.drum.state = .calibrating ↔ ∃ c, s.cal = some c ∧ c.kind = .motor)
    ∧ (∀ c, s.cal = some c → (c.kind = .motor ↔ c.phase ≠ .waiting ∧ c.phase ≠ .measuring))

/-- The capacities of the queues and tables (R4, R116, R174, R192, R195). -/
def State.CapacityInv (s : State) : Prop :=
  s.manager.table.length ≤ 16 ∧ s.store.slots.length ≤ 8 ∧ s.slips.queue.length ≤ 8 ∧ s.link.holding.length ≤ 2
    ∧ s.link.notices.length ≤ 24

/-- The order numbers of the table are pairwise distinct and within 1..65535, and so is the next order number (R4, R5). -/
def State.NumberInv (s : State) : Prop :=
  (s.manager.table.map Order.number).Nodup
    ∧ (∀ o ∈ s.manager.table, 1 ≤ o.number ∧ o.number ≤ 65535)
    ∧ (1 ≤ s.manager.nextNumber ∧ s.manager.nextNumber ≤ 65535)
    ∧ s.manager.table.length ≤ 16

/-- The running order and the run record belong to each other, at most one order is ASSEMBLING, and the assembly timer runs
exactly while one is (R4, R13 to R15, R150, R171). -/
def State.RunInv (s : State) : Prop :=
  (∀ r, s.run = some r → ∃ o ∈ s.manager.table, o.number = r.order ∧ o.state.isRunning = true)
    ∧ (∀ o ∈ s.manager.table, o.state.isRunning = true → ∃ r, s.run = some r ∧ r.order = o.number)
    ∧ (s.manager.table.filter fun o => o.state == .assembling).length ≤ 1
    ∧ (s.manager.assemblyTimer.isSome = true ↔ ∃ o ∈ s.manager.table, o.state = .assembling)

/-- The pre-warm request stands exactly while a QUEUED order is bound to a present mount (R12, R84). -/
def State.PrewarmInv (s : State) : Prop :=
  s.lamp.prewarm = true ↔
    s.panel.mountPresent = true ∧ ∃ o ∈ s.manager.table, o.state = .queued ∧ o.mount = s.panel.mountCounter

/-- Without a run record the line is not SEIZED, and the store is closed and empty (R117, R127, R130, R171). -/
def State.RunEndInv (s : State) : Prop := s.run = none → s.line.state ≠ .seized ∧ s.store = Store.closed

/-- An entry's call code, if it is an enabled LOOP entry (R28). -/
def StationEntry.code : StationEntry → Option Nat
  | .enabled { address := .loop c, .. } => some c
  | _ => none

/-- The directory: 32 entries, and no two enabled LOOP entries hold the same call code (R28). -/
def State.DirectoryInv (s : State) : Prop :=
  s.directory.length = 32
    ∧ ∀ i j c, i < 32 → j < 32 → (s.directory.getD i .disabled).code = some c →
        (s.directory.getD j .disabled).code = some c → i = j

/-- Settings in the ranges of R197, with the conditions its rows give. -/
def Settings.InRange (f : Settings) : Prop :=
  (1200 ≤ f.fBlack ∧ f.fBlack ≤ 2000) ∧ (1800 ≤ f.fWhite ∧ f.fWhite ≤ 2600 ∧ f.fBlack + 400 ≤ f.fWhite)
    ∧ f.aBlack ≤ 255 ∧ (f.aWhite ≤ 255 ∧ f.aBlack + 32 ≤ f.aWhite) ∧ (10 ≤ f.lockWindow ∧ f.lockWindow ≤ 500)
    ∧ (f.trim ≤ 250 ∧ f.trim ≤ f.lockWindow / 2) ∧ f.spinHold ≤ 600 ∧ f.lampIdle ≤ 3600
    ∧ (1 ≤ f.replyWindow ∧ f.replyWindow ≤ 10) ∧ (1 ≤ f.name.length ∧ f.name.length ≤ 12)
    ∧ ∀ c ∈ f.name, 0x20 ≤ c.toNat ∧ c.toNat ≤ 0x7E

/-- The records that the host loads: the directory and the settings (R28, R197). -/
def State.RecordsInv (s : State) : Prop := s.DirectoryInv ∧ s.settings.InRange

/-- The calibration record and the curve (R61 to R66): loaded or measured figures in range, the gain the one of the formula
while the white mark stands, 17 knots of 0..4,095, and the targets of a run's steps in range. -/
def State.CalibrationInv (s : State) : Prop :=
  (s.motor.valid = true → s.motor.s1 + 20000 ≤ s.motor.s2)
    ∧ (s.motor.kp ≤ 1024 ∧ s.motor.ki ≤ 256)
    ∧ s.scanPart.offset ≤ 1023
    ∧ (s.scanPart.valid = true → s.scanPart.darkMark = true ∧ s.scanPart.whiteMark = true)
    ∧ (s.scanPart.whiteMark = true →
        s.scanPart.offset + 512 ≤ s.scanPart.wRaw
          ∧ s.scanPart.gain = gainFor (s.scanPart.wRaw - s.scanPart.offset))
    ∧ (s.curve.length = 17 ∧ ∀ t ∈ s.curve, t ≤ 4095)
    ∧ (∀ c, s.cal = some c → ∀ st ∈ c.steps, st.target ≤ 4095)

/-- The line unit (R128, R131, R135, R140 to R142, R149): the loop is closed exactly while SEIZED, when there is exactly one
activity; nothing is sent or heard otherwise; each timer runs in its activity alone. -/
def LineUnit.Inv (l : LineUnit) : Prop :=
  (l.loopClosed = true ↔ l.state = .seized)
    ∧ (l.activity.isSome = true ↔ l.state = .seized)
    ∧ (l.state ≠ .seized → l.signal = .silent ∧ l.loopTimer = none)
    ∧ (l.releaseAt.isSome = true ↔ l.state = .releasing)
    ∧ (l.state = .idle → l.figures = none ∧ l.network = none ∧ l.lastListenEnd = none)
    ∧ (l.listenFor.isSome = true ↔ l.activity = some .listening)
    ∧ (l.holdAt.isSome = true ↔ l.activity = some .holding)
    ∧ (l.timer.isSome = true ↔ l.activity = some .phasing ∨ l.activity = some .picture)
    ∧ (l.sent.isSome = true ↔ l.activity = some .phasing ∨ l.activity = some .picture)
    ∧ (l.activity = some .startTone ∨ l.activity = some .phasing ∨ l.activity = some .picture → l.figures.isSome = true)
    ∧ (l.activity = some .phasing ∨ l.activity = some .picture → ∃ since, l.signal = .sounding since)
    ∧ (∀ since, l.signal = .burst since →
        l.activity = some .holding ∨ l.activity = some .startTone ∨ l.activity = some .stopTone)
    ∧ (∀ since, l.signal = .dialTone since → l.activity = some .dialing)
    ∧ (∀ o w r, l.signal = .listen o w r → l.activity = some .listening)

end Sys2Proof.Machine
end

