-- ==== Sys2Proof/Certificates/Slice0/Obligations.lean ====
section
/-! DEFINITION. The statements about the part, for the provers. Times are in microseconds; `advance dt s` is `s` after `dt`
microseconds; `s.answered dt r a` is `s` after `dt` microseconds with request `r` answered by `a` (Safety.lean). -/

section Statements

open Sys2Proof Sys2Proof.Machine

/-- For every state: when command c stands at the front of the queue, step is exec of c on the state with the queue's
rest; and on an empty queue step answers the state itself. The queue and the idling are the model's (log entry 2),
not the spec's. (00_scope.md, R193) -/
def Obligations.StepRunsFront : Prop :=
  ∀ s : State,
    (∀ c rest, s.pending = c :: rest → step s = exec c { s with pending := rest })
      ∧ (s.pending = [] → step s = .next s)

/-- Right after reset: empty order table, next number 1, RUNNING, no assembly; 32 disabled stations; drum STOPPED,
target and drive 0, brake applied, timers stopped, last index time and period absent; motor part invalid with Kp 48
and Ki 8; scan part 0, 4,095, 4,096 with its marks off; the identity curve; no calibration run, no run record; lamp
OFF with no request; carriage HOMING at an unknown position; store, slip queue, holding buffer, reply slot and
notice queue empty; line IDLE with the loop open; receiver in HUNT; flags clear; clock unset; the settings record at
its power-on values 1500, 2300, 24, 240, 50, 20, 30, 600, 3, ON, ON, "PTC-41". The switch and sensor levels of
State.reset are the model's choice (log entries 5 and 28) and are not stated here. (R26, R29, R59, R61, R83, R88,
R93, R127, R149, R190, R197, R202) -/
def Obligations.ResetValues : Prop :=
  let s := State.reset
  (s.manager.table = [] ∧ s.manager.nextNumber = 1 ∧ s.manager.state = .running ∧ s.manager.assemblyTimer = none)
    ∧ s.directory = List.replicate 32 .disabled
    ∧ (s.drum.state = .stopped ∧ s.drum.target = 0 ∧ s.drum.dff = none ∧ s.drum.drive = 0 ∧ s.drum.integral = 0
        ∧ s.drum.clip = false ∧ s.drum.noLock = false ∧ s.drum.inCount = 0 ∧ s.drum.outCount = 0
        ∧ s.drum.lastIndex = none ∧ s.drum.period = none ∧ s.drum.trim = .none ∧ s.drum.brake = true
        ∧ s.drum.spinUpTimer = none ∧ s.drum.stallTimer = none ∧ s.drum.quietTimer = none
        ∧ s.drum.spinHoldTimer = none)
    ∧ s.motor = ⟨0, 0, 48, 8, false⟩ ∧ s.scanPart = ⟨0, 4095, 4096, false, false, false⟩
    ∧ s.curve = (List.range 16).map (256 * ·) ++ [4095]
    ∧ (s.cal = none ∧ s.run = none ∧ s.scan = none ∧ s.clock = none)
    ∧ (s.lamp.state = .off ∧ s.lamp.offTime = none ∧ s.lamp.wanted = false ∧ s.lamp.darkHold = false
        ∧ s.lamp.warmTimer = none ∧ s.lamp.idleTimer = none)
    ∧ (s.carriage.state = .homing ∧ s.carriage.position = none ∧ s.carriage.stepsTaken = 0)
    ∧ (s.store.slots = [] ∧ s.store.isOpen = false ∧ s.store.figures = none ∧ s.store.lastOut = none)
    ∧ (s.line.state = .idle ∧ s.line.loopClosed = false ∧ s.line.activity = none ∧ s.line.signal = .silent
        ∧ s.line.figures = none ∧ s.line.lastListenEnd = none ∧ s.line.timer = none ∧ s.line.loopTimer = none)
    ∧ (s.slips.queue = [] ∧ s.slips.lastPrinted = none ∧ s.slips.printer = .idle)
    ∧ (s.link.receiver = .hunt ∧ s.link.gapTimer = none ∧ s.link.holding = [] ∧ s.link.replySlot = none
        ∧ s.link.notices = [] ∧ s.link.linkError = false ∧ s.link.noticesLost = false)
    ∧ s.settings = ⟨1500, 2300, 24, 240, 50, 20, 30, 600, 3, true, true, ['P', 'T', 'C', '-', '4', '1']⟩

/-- POWER_ON answers the reset state in every block but the queue, with the door, clamp and paper levels shown; M is 1
and the mount present exactly when the door is CLOSED and the clamp ENGAGED, else 0 and absent; with the home switch
closed the carriage is HOME at position 0, else HOMING. Three clauses are the model's choice, not the rules': the
commands that wait still wait (log entry 2), the loop current and the other levels that no operand gives are those
of State.reset (log entry 5), and the home switch's closed level is kept for the next home-seeking movement (log
entry 28). (R49, R59, R90, R93, R180, R190, R202) -/
def Obligations.PowerOnTakesLevels : Prop :=
  ∀ (l : Levels) (s : State),
    exec (.powerOn l) s = .next
      { State.reset with
        pending := s.pending
        panel :=
          { door := if l.doorClosed then .closed else .opened
            clamp := if l.clampEngaged then .engaged else .released
            mountCounter := if l.doorClosed && l.clampEngaged then 1 else 0
            mountPresent := l.doorClosed && l.clampEngaged }
        carriage :=
          if l.homeSwitchClosed then
            { State.reset.carriage with state := .home, position := some 0, stepAt := none, homeClosed := true }
          else State.reset.carriage
        slips := { State.reset.slips with paper := if l.paperPresent then .present else .out } }

/-- For every request row i (UNKNOWN_KIND among them) with a payload of at most 60 bytes, from a receiver in HUNT with
its gap timer stopped: receiving the bytes of i's frame (0xA5, length, kind, tag, payload, CRC high, CRC low) one
after another, with any times before them that add up to the row's time, answers exactly what exec of i answers.
That a row stands for one whole frame, and that its time may be spread over the bytes before them, is the model's
choice (log entries 7 and 8). (R191, R192, R193) -/
def Obligations.RequestRowIsItsFrame : Prop :=
  ∀ (i : Instr) (dt : Nat) (f : Frame) (bytes : List (Nat × Byte)) (s : State),
    i.frame = some (dt, f) → f.payload.length ≤ 60 → s.link.receiver = .hunt → s.link.gapTimer = none →
    bytes.map Prod.snd = f.bytes → (bytes.map Prod.fst).sum = dt →
    receiveAll bytes s = exec i s

/-- LINK_BYTE_RECEIVED: in HUNT a byte other than 0xA5 changes nothing but the time, and 0xA5 starts a frame and the 10
ms gap timer; a length byte of 0..60 is kept with length + 4 bytes to come and the timer restarted, one above 60
sets the link-error flag and returns to HUNT; a later byte is kept and restarts the timer; a last CRC byte that
disagrees with the CRC of the bytes kept sets the link-error flag and returns to HUNT. GAP_TIMER_EXPIRY with the
timer due abandons the frame with the link-error flag set. Nothing else changes. That the length byte restarts the
gap timer as a later byte does is the model's choice (log entry 9), R191 giving the restart for later bytes; that
the expiry is a command that may come late is log entry 8. (R191) -/
def Obligations.ReceiverActsOnBytes : Prop :=
  ∀ (dt : Nat) (b : Byte) (s : State),
    let gap := some (s.now + dt + 10000)
    let linked (l : Link) : State := { advance dt s with link := l }
    (s.link.receiver = .hunt → b ≠ 0xA5#8 → exec (.linkByteReceived dt b) s = .next (advance dt s))
      ∧ (s.link.receiver = .hunt → exec (.linkByteReceived dt 0xA5#8) s =
          .next (linked { s.link with receiver := .awaitLength, gapTimer := gap }))
      ∧ (s.link.receiver = .awaitLength → b.toNat ≤ 60 → exec (.linkByteReceived dt b) s =
          .next (linked { s.link with receiver := .inFrame [b] (b.toNat + 4), gapTimer := gap }))
      ∧ (s.link.receiver = .awaitLength → 60 < b.toNat → exec (.linkByteReceived dt b) s =
          .next (linked { s.link with receiver := .hunt, gapTimer := none, linkError := true }))
      ∧ (∀ kept k, s.link.receiver = .inFrame kept (k + 2) → exec (.linkByteReceived dt b) s =
          .next (linked { s.link with receiver := .inFrame (kept ++ [b]) (k + 1), gapTimer := gap }))
      ∧ (∀ body hi, s.link.receiver = .inFrame (body ++ [hi]) 1 → crcBytes body ≠ [hi, b] →
          exec (.linkByteReceived dt b) s =
            .next (linked { s.link with receiver := .hunt, gapTimer := none, linkError := true }))
      ∧ (∀ g, s.link.gapTimer = some g → g ≤ s.now + dt → exec (.gapTimerExpiry dt) s =
          .next (linked { s.link with receiver := .hunt, gapTimer := none, linkError := true }))

/-- For every request row: with two requests held its frame is dropped and the link-error flag is set; with one held
that is in service (its reply waits, is awaited or is being sent) the request joins behind it and is not served yet.
Nothing else changes but the time. (R191, R192, R193) -/
def Obligations.HoldingBufferTakesTwo : Prop :=
  ∀ (i : Instr) (dt : Nat) (f : Frame) (s : State), i.frame = some (dt, f) → f.payload.length ≤ 60 →
    (s.link.holding.length = 2 →
        exec i s = .next { advance dt s with link := { s.link with linkError := true } })
      ∧ (∀ r, s.link.holding = [r] →
          (s.link.replySlot.isSome ∨ s.link.restart.isSome ∨ ∃ x, s.link.tx = some x ∧ x.isReply = true) →
          exec i s = .next
            { advance dt s with link := { s.link with holding := [r, ⟨f.kind, f.tag, f.payload⟩] } })

/-- For every request row served at once: a kind byte outside 0x01..0x13 is answered REFUSED UNKNOWN_KIND with the kind
byte, and a known kind whose payload length does not agree with the catalogue REFUSED BAD_LENGTH with the received
length; nothing changes but the time, the held request and its reply. (R193, R194, R196) -/
def Obligations.RequestsAreChecked : Prop :=
  ∀ (i : Instr) (dt : Nat) (f : Frame) (s : State), i.frame = some (dt, f) → f.payload.length ≤ 60 → s.LinkFree →
    ((f.kind.toNat = 0 ∨ 0x13 < f.kind.toNat) →
        exec i s = .next (s.answered dt ⟨f.kind, f.tag, f.payload⟩ (.refused .unknownKind f.kind.toNat)))
      ∧ (1 ≤ f.kind.toNat → f.kind.toNat ≤ 0x13 → lengthAgrees f.kind f.payload = false →
        exec i s = .next (s.answered dt ⟨f.kind, f.tag, f.payload⟩ (.refused .badLength f.payload.length)))

/-- When the frame being sent has been sent in full (n + 6 bytes at 57,600 baud, R191): after a notice, a reply in the
slot is sent next; with no request held the oldest notice is sent next and leaves the queue, or the transmitter is
free when there is none; with a RESTART whose reply is awaited the notices wait. After the reply of the only request
held, the buffer is empty and the oldest notice, if any, is sent. Before that moment FRAME_SENT only lets the time
pass. The model's choices: that last clause (log entry 8), and the frame's time truncated to a microsecond and the
next frame taken at the very moment of FRAME_SENT (log entry 4). (R192, R195, R201) -/
def Obligations.TransmitterChoosesNext : Prop :=
  ∀ (dt : Nat) (s : State) (x : Sending), s.link.tx = some x →
    let now := s.now + dt
    let sent := exec (.frameSent dt) s
    let linked (l : Link) : State := { advance dt s with link := l }
    let next : List Notice → Option Sending := fun ns => ns.head?.map fun n => ⟨n.frame, false, now⟩
    (now < x.since + (x.frame.payload.length + 6) * 10000000 / 57600 → sent = .next (advance dt s))
      ∧ (x.since + (x.frame.payload.length + 6) * 10000000 / 57600 ≤ now →
        (∀ f, x.isReply = false → s.link.replySlot = some f →
            sent = .next (linked { s.link with replySlot := none, tx := some ⟨f, true, now⟩ }))
          ∧ (x.isReply = false → s.link.replySlot = none → s.link.holding = [] →
            sent = .next (linked { s.link with tx := next s.link.notices, notices := s.link.notices.tail }))
          ∧ (∀ r, x.isReply = true → s.link.replySlot = none → s.link.restart = none → s.link.holding = [r] →
            sent = .next
              (linked { s.link with holding := [], tx := next s.link.notices, notices := s.link.notices.tail }))
          ∧ (∀ r rs, x.isReply = false → s.link.replySlot = none → s.link.restart.isSome → s.link.holding = r :: rs →
            sent = .next (linked { s.link with tx := none })))

/-- With two requests held and the first one's reply sent in full, FRAME_SENT does exactly what the second request's row
does on the state with a free transmitter and an empty holding buffer. (R192, R193) -/
def Obligations.NextRequestIsServed : Prop :=
  ∀ (i : Instr) (dt : Nat) (f : Frame) (s : State) (x : Sending) (r : Request),
    i.frame = some (dt, f) → f.payload.length ≤ 60 →
    s.link.tx = some x → x.isReply = true → x.since + x.frame.time ≤ s.now + dt →
    s.link.holding = [r, ⟨f.kind, f.tag, f.payload⟩] → s.link.replySlot = none → s.link.restart = none →
    exec (.frameSent dt) s = exec i { s with link := { s.link with tx := none, holding := [] } }

/-- Placing a notice: with the transmitter free, no request held and no notice waiting it is sent at once; while a frame
is being sent, or while a held request's reply has not been made, it joins the newest end of the queue, or with 24
queued it is lost, the queue is kept and the notices-lost flag is set. Its frame has tag 0 and no status bytes. That
a notice waits behind a held request whose reply has not been made yet is the model's choice (log entry 4), not
R195's words. (R195, R196) -/
def Obligations.NoticeQueueHolds24 : Prop :=
  ∀ (now : Nat) (n : Notice) (l : Link),
    (l.tx = none → l.replySlot = none → l.holding = [] → l.notices = [] →
        l.place now n = { l with tx := some ⟨⟨n.kind, 0#8, n.payload⟩, false, now⟩ })
      ∧ (l.tx ≠ none ∨ l.replySlot = none ∧ l.holding ≠ [] →
        (l.notices.length < 24 → l.place now n = { l with notices := l.notices ++ [n] })
          ∧ (l.notices.length = 24 → l.place now n = { l with noticesLost := true }))

/-- STATUS on a free link, the date text (if the clock is set) of 10 characters: the reply is OK with 52 bytes, each
field at its place of the layout (byte N of the layout is byte N - 4 here), read as the part stands, the two flags
as they stood; the two flags are then clear, and nothing else changes but the time, the held request and its reply.
The model's choices: the line activity is 0xFF unless the line is SEIZED (log entry 9), and the date stale mark is 0
while the clock is unset (log entry 29). (R196, R200, R194) -/
def Obligations.StatusReportsAndClears : Prop :=
  ∀ (dt : Nat) (tag : Byte) (s : State), s.LinkFree → (∀ c, s.clock = some c → c.date.length = 10) →
    ∃ p : List Byte,
      exec (.status dt tag []) s = .next
          (({ s with link := { s.link with linkError := false, noticesLost := false } } : State).answered dt
            ⟨0x01#8, tag, []⟩ (.ok p))
        ∧ p.length = 52
        ∧ (∀ N n, (N, n) ∈
            [(4, s.manager.state.code), (5, s.manager.table.length), (8, (s.runningOrder.map fun o => o.state.code).getD 255),
              (11, s.drum.state.code), (12, s.drum.target), (15, if s.drum.clip then 1 else 0),
              (16, if s.drum.noLock then 1 else 0), (17, s.panel.door.code), (18, s.panel.clamp.code),
              (21, if s.panel.mountPresent then 1 else 0), (22, s.lamp.state.code), (23, s.carriage.state.code),
              (26, s.line.state.code),
              (27, if s.line.state = .seized then (s.line.activity.map Activity.code).getD 255 else 255),
              (28, if s.line.state = .idle then 255 else (s.line.lastRequest.map LineRequest.code).getD 255),
              (29, s.store.slots.length), (30, if s.store.isOpen then 1 else 0),
              (31, (s.cal.map fun c => c.kind.code).getD 255), (32, (s.cal.map fun c => c.phase.code).getD 255),
              (33, s.slips.queue.length), (34, s.slips.printer.code), (35, s.slips.paper.code),
              (36, if s.settings.slipMode then 1 else 0), (37, if s.clock.isSome then 1 else 0),
              (42, if ∃ c, s.clock = some c ∧ c.stale = true then 1 else 0),
              (53, if s.link.linkError then 1 else 0), (54, if s.link.noticesLost then 1 else 0),
              (55, s.link.notices.length)] → p[N - 4]? = some (BitVec.ofNat 8 n))
        ∧ (∀ N n, (N, n) ∈
            [(6, (s.runningOrder.map Order.number).getD 0), (9, (s.assemblingOrder.map Order.number).getD 0),
              (13, s.drum.drive), (19, s.panel.mountCounter), (24, s.carriage.position.getD 65535)] →
            (p.drop (N - 4)).take 2 = u16 n)
        ∧ (p.drop 34).take 4 = u32 (s.todNow.getD 0xFFFFFFFF)
        ∧ (p.drop 39).take 10 = (match s.clock with | some c => c.date | none => List.replicate 10 ' ').map byteOf

/-- On a free link SETTINGS_GET is answered OK with the record in SETTINGS_SET's layout. SETTINGS_SET with 29 bytes:
with an order running, REFUSED STATE with its number; else with a field out of range, REFUSED FIELD_RANGE with the
first such field's number; else OK, and all twelve fields are replaced (here for a slip mode that does not change to
OFF; that change is in SlipModeOffRetires). Nothing else changes. (R197, R198) -/
def Obligations.SettingsSetReplacesTheRecord : Prop :=
  ∀ (dt : Nat) (tag : Byte) (s : State), s.LinkFree →
    exec (.settingsGet dt tag []) s = .next (s.answered dt ⟨0x03#8, tag, []⟩ (.ok s.settings.bytes))
      ∧ ∀ p : List Byte, p.length = 29 →
        let f := SettingsFields.ofPayload p
        let set := exec (.settingsSet dt tag p) s
        let r : Request := ⟨0x02#8, tag, p⟩
        (∀ o, s.runningOrder = some o → set = .next (s.answered dt r (.refused .state o.number)))
          ∧ (s.runningOrder = none → ∀ i, 1 ≤ i → i ≤ 12 → f.inRange i = false → (∀ j, 1 ≤ j → j < i → f.inRange j = true) →
              set = .next (s.answered dt r (.refused .fieldRange i)))
          ∧ (s.runningOrder = none → (∀ i, 1 ≤ i → i ≤ 12 → f.inRange i = true) →
              (f.slipMode = 1 ∨ s.settings.slipMode = false) →
              set = .next (({ s with settings := f.settings } : State).answered dt r (.ok [])))

/-- For every settings record in the ranges of R197: its bytes are 29, every field they spell is in its range, and the
record they give is the same record, every field and every character of the name. (R197, R198, R196) -/
def Obligations.SettingsRoundTrip : Prop :=
  ∀ st : Settings, st.InRange →
    let f := SettingsFields.ofPayload st.bytes
    st.bytes.length = 29 ∧ (∀ i, 1 ≤ i → i ≤ 12 → f.inRange i = true) ∧ f.settings = st

/-- On a free link, with the order numbers of the table distinct: SLIP_CONTROL MODE OFF with the mode ON, and
SETTINGS_SET with no order running, every field in range and its slip mode OFF with the mode ON, make every FINISHED
order leave the table in table order, each with its ORDER_EVENT RETIRED, and no slip joins; the other orders and the
queue stay. MODE ON, and MODE OFF with the mode OFF, change the mode field at most; any other value is refused
FIELD_RANGE 2. (R25, R186, R198) -/
def Obligations.SlipModeOffRetires : Prop :=
  ∀ (dt : Nat) (tag : Byte) (s : State), s.LinkFree → s.NumberInv →
    let finished := s.manager.table.filter fun o => o.state == .finished
    let retired : State :=
      { s with
        manager := { s.manager with table := s.manager.table.filter fun o => o.state != .finished }
        link := finished.foldl (fun l o => l.enqueue (.order o.number o.header.hostRef .retired none)) s.link }
    let mode (v : Byte) := exec (.slipControlMode dt tag [v]) s
    (s.settings.slipMode = true → mode 0#8 = .next
        (({ retired with settings := { s.settings with slipMode := false } } : State).answered dt
          ⟨0x12#8, tag, [0#8, 0#8]⟩ (.ok [0#8])))
      ∧ (s.settings.slipMode = false → mode 0#8 = .next (s.answered dt ⟨0x12#8, tag, [0#8, 0#8]⟩ (.ok [0#8])))
      ∧ mode 1#8 = .next
          (({ s with settings := { s.settings with slipMode := true } } : State).answered dt
            ⟨0x12#8, tag, [0#8, 1#8]⟩ (.ok [1#8]))
      ∧ (∀ v : Byte, 1 < v.toNat →
          mode v = .next (s.answered dt ⟨0x12#8, tag, [0#8, v]⟩ (.refused .fieldRange 2)))
      ∧ (∀ p : List Byte, p.length = 29 → s.settings.slipMode = true → s.runningOrder = none →
          (∀ i, 1 ≤ i → i ≤ 12 → (SettingsFields.ofPayload p).inRange i = true) →
          (SettingsFields.ofPayload p).slipMode = 0 →
          exec (.settingsSet dt tag p) s = .next
            (({ retired with settings := (SettingsFields.ofPayload p).settings } : State).answered dt ⟨0x02#8, tag, p⟩
              (.ok [])))

/-- On a free link, CLOCK_SET with 14 bytes: seconds above 86,399 are refused FIELD_RANGE 1; else a date byte outside
0x20..0x7E is refused FIELD_RANGE 2; else the reply is OK and the clock holds the time, the date text, a clear stale
mark, and its next second 1 s later. TIME_OF_DAY_TICK with the second passed: below 86,399 the time steps up by one,
at 86,399 it becomes 0 and the stale mark is set; the next second is 1 s after. The date text and everything else
stay. (R199) -/
def Obligations.ClockIsSetAndSteps : Prop :=
  ∀ (dt : Nat) (s : State),
    (∀ (tag : Byte) (p : List Byte), s.LinkFree → p.length = 14 →
        let set := exec (.clockSet dt tag p) s
        let r : Request := ⟨0x04#8, tag, p⟩
        (86399 < longAt p 0 → set = .next (s.answered dt r (.refused .fieldRange 1)))
          ∧ (longAt p 0 ≤ 86399 → (∃ b ∈ p.drop 4, b.toNat < 0x20 ∨ 0x7E < b.toNat) →
              set = .next (s.answered dt r (.refused .fieldRange 2)))
          ∧ (longAt p 0 ≤ 86399 → (∀ b ∈ p.drop 4, 0x20 ≤ b.toNat ∧ b.toNat ≤ 0x7E) →
              set = .next
                (({ s with clock := some ⟨longAt p 0, (p.drop 4).map charOf, false, s.now + dt + 1000000⟩ } : State).answered
                  dt r (.ok []))))
      ∧ (∀ c, s.clock = some c → c.tickAt ≤ s.now + dt →
        (c.tod < 86399 → exec (.timeOfDayTick dt) s =
            .next { advance dt s with clock := some { c with tod := c.tod + 1, tickAt := c.tickAt + 1000000 } })
          ∧ (c.tod = 86399 → exec (.timeOfDayTick dt) s =
            .next { advance dt s with clock := some { c with tod := 0, stale := true, tickAt := c.tickAt + 1000000 } }))

/-- On a free link, with a STATION_LOAD of agreeing length: a field that fails R31's steps 1 to 9 is refused FIELD_RANGE
with its number (the steps in order); else a station named by an order is refused IN_USE with the first such order's
number; else the entry is replaced and the reply is OK with the station number in two bytes. STATION_READ outside
1..32 is refused FIELD_RANGE 1, else answered OK with the entry's fields and the number of orders that name the
station. Nothing else changes. (R30, R31, R32, R33, R196) -/
def Obligations.StationLoadAndRead : Prop :=
  ∀ (dt : Nat) (tag : Byte) (s : State), s.LinkFree →
    (∀ p : List Byte, 19 ≤ p.length → p.length ≤ 60 → p.length = 21 + byteAt p 18 →
        let f := StationFields.ofPayload p
        let load := exec (.stationLoad dt tag p) s
        let r : Request := ⟨0x05#8, tag, p⟩
        (∀ i, f.fault s.directory = some i → load = .next (s.answered dt r (.refused .fieldRange i)))
          ∧ (f.fault s.directory = none → ∀ o, s.manager.table.find? (Order.names f.number) = some o →
              load = .next (s.answered dt r (.refused .inUse o.number)))
          ∧ (f.fault s.directory = none → (∀ o ∈ s.manager.table, Order.names f.number o = false) →
              load = .next
                (({ s with directory := s.directory.set (f.number - 1) f.entry } : State).answered dt r
                  (.ok (u16 f.number)))))
      ∧ (∀ n : Byte,
        (n.toNat = 0 ∨ 32 < n.toNat →
            exec (.stationRead dt tag [n]) s = .next (s.answered dt ⟨0x06#8, tag, [n]⟩ (.refused .fieldRange 1)))
          ∧ (1 ≤ n.toNat → n.toNat ≤ 32 → exec (.stationRead dt tag [n]) s = .next
            (s.answered dt ⟨0x06#8, tag, [n]⟩
              (.ok (entryBytes n.toNat (s.directory.getD (n.toNat - 1) .disabled)
                ++ [BitVec.ofNat 8 (s.manager.table.filter (Order.names n.toNat)).length])))))

/-- For every station number 1..32 and every enabled entry as R28 describes it (name of 1..12 characters 0x20..0x7E; a
call code 0..9999 or 1..20 dial symbols; at least one speed and one modulation): the entry's bytes have the length
STATION_LOAD's layout gives, pass R31's field checks against an empty directory, name the same station and give the
same entry; and the bytes of a disabled entry give a disabled one. (R28, R31, R32, R33, R196) -/
def Obligations.StationEntryRoundTrip : Prop :=
  ∀ n : Nat, 1 ≤ n → n ≤ 32 →
    (∀ st : Station, 1 ≤ st.name.length → st.name.length ≤ 12 → (∀ c ∈ st.name, 0x20 ≤ c.toNat ∧ c.toNat ≤ 0x7E) →
        (match st.address with
          | .loop c => c ≤ 9999
          | .dial ds => 1 ≤ ds.length ∧ ds.length ≤ 20) →
        (st.rpm60 || st.rpm90 || st.rpm120) = true → (st.fm || st.am) = true →
        let p := entryBytes n (.enabled st)
        let f := StationFields.ofPayload p
        lengthAgrees 0x05#8 p = true ∧ f.fault (List.replicate 32 .disabled) = none ∧ f.number = n
          ∧ f.entry = .enabled st)
      ∧ (let p := entryBytes n .disabled
        let f := StationFields.ofPayload p
        lengthAgrees 0x05#8 p = true ∧ f.fault (List.replicate 32 .disabled) = none ∧ f.number = n ∧ f.entry = .disabled)

/-- On a free link. CAL_LOAD (19 bytes): a selector above 2 is refused FIELD_RANGE 1; else an order in PHASING, SENDING
or ENDING refuses it STATE; else the first named figure that fails is refused CAL_INVALID with its field number;
else the named parts are installed, their marks set, and the reply is OK with the selector. CURVE_LOAD (34 bytes):
refused STATE likewise; else FIELD_RANGE k + 1 for the first knot t[k] above 4,095; else all 17 knots are replaced.
CAL_READ: sections 0, 1 and 2 are answered OK with their fields, any other FIELD_RANGE 1. Nothing else changes.
(R64, R65, R66, R67, R68) -/
def Obligations.CalibrationLoadsAndReads : Prop :=
  ∀ (dt : Nat) (tag : Byte) (s : State), s.LinkFree →
    let sending := s.manager.table.find? fun o => o.state == .phasing || o.state == .sending || o.state == .ending
    (∀ p : List Byte, p.length = 19 →
        let f := CalFields.ofPayload p
        let load := exec (.calLoad dt tag p) s
        let r : Request := ⟨0x07#8, tag, p⟩
        (2 < f.selector → load = .next (s.answered dt r (.refused .fieldRange 1)))
          ∧ (f.selector ≤ 2 → ∀ o, sending = some o → load = .next (s.answered dt r (.refused .state o.number)))
          ∧ (f.selector ≤ 2 → sending = none → ∀ i, f.fault = some i →
              load = .next (s.answered dt r (.refused .calInvalid i)))
          ∧ (f.selector ≤ 2 → sending = none → f.fault = none →
              load = .next
                (({ s with
                    motor := if f.selector = 1 then s.motor else ⟨f.s1, f.s2, f.kp, f.ki, true⟩
                    scanPart := if f.selector = 0 then s.scanPart else ⟨f.offset, f.wRaw, f.gain, true, true, true⟩ }
                  : State).answered dt r (.ok [BitVec.ofNat 8 f.selector]))))
      ∧ (∀ p : List Byte, p.length = 34 →
        let load := exec (.curveLoad dt tag p) s
        let r : Request := ⟨0x09#8, tag, p⟩
        let knots := (List.range 17).map fun k => wordAt p (2 * k)
        (∀ o, sending = some o → load = .next (s.answered dt r (.refused .state o.number)))
          ∧ (sending = none → ∀ k, k < 17 → 4095 < wordAt p (2 * k) → (∀ j, j < k → wordAt p (2 * j) ≤ 4095) →
              load = .next (s.answered dt r (.refused .fieldRange (k + 1))))
          ∧ (sending = none → (∀ k, k < 17 → wordAt p (2 * k) ≤ 4095) →
              load = .next (({ s with curve := knots } : State).answered dt r (.ok []))))
      ∧ (∀ n : Byte,
        let read := exec (.calRead dt tag [n]) s
        let r : Request := ⟨0x08#8, tag, [n]⟩
        let m := s.motor
        let c := s.scanPart
        let speed rpm := if m.valid then u16 (feedForward m rpm).toNat ++ mark (feasible m rpm) else [0#8, 0#8, 0#8]
        (n = 0#8 → read = .next (s.answered dt r
            (.ok (mark m.valid ++ u32 m.s1 ++ u32 m.s2 ++ u16 m.kp ++ u16 m.ki ++ speed 60 ++ speed 90 ++ speed 120))))
          ∧ (n = 1#8 → read = .next (s.answered dt r
            (.ok (mark c.darkMark ++ mark c.whiteMark ++ mark c.valid ++ u16 c.offset ++ u16 c.wRaw ++ u16 c.gain))))
          ∧ (n = 2#8 → read = .next (s.answered dt r (.ok (s.curve.flatMap u16))))
          ∧ (2 < n.toNat → read = .next (s.answered dt r (.refused .fieldRange 1))))

/-- On a free link, for each of the four CAL_RUN rows with an agreeing length and, for STEPS, fields in range: an order
running refuses it BUSY with its number; else a run in progress BUSY 0; else the door OPEN STATE 1; else the drum in
FAULT STATE 2; else, for DARK, WHITE and STEPS, a motor part not valid NOT_CALIBRATED 1; else, where the run will
ask for 60 rpm (STEPS always, DARK unless the drum turns, WHITE unless it is SPINNING_UP or LOCKED), 60 rpm not
feasible RANGE 60; else, for STEPS, the carriage in FAULT STATE 3, no mount present STATE 4, a scan part not valid
NOT_CALIBRATED 2, in that order. A STEPS field out of range is refused FIELD_RANGE with R79's qualifier first of
all. Nothing else changes. (R69, R72, R79) -/
def Obligations.CalRunChecks : Prop :=
  ∀ (i : Instr) (dt : Nat) (f : Frame) (s : State), i.frame = some (dt, f) → f.kind = 0x0A#8 →
    f.payload.length ≤ 60 → lengthAgrees f.kind f.payload = true → s.LinkFree → byteAt f.payload 0 ≤ 3 →
    let refused (reason : Reason) (q : Nat) := s.answered dt ⟨f.kind, f.tag, f.payload⟩ (.refused reason q)
    (∀ q, byteAt f.payload 0 = 3 → stepsFault f.payload = some q → exec i s = .next (refused .fieldRange q))
      ∧ ((byteAt f.payload 0 = 3 → stepsFault f.payload = none) →
        (∀ o, s.runningOrder = some o → exec i s = .next (refused .busy o.number))
          ∧ (s.runningOrder = none →
            (s.cal.isSome → exec i s = .next (refused .busy 0))
              ∧ (s.cal = none → s.panel.door = .opened → exec i s = .next (refused .state 1))
              ∧ (s.cal = none → s.panel.door = .closed → s.drum.state = .fault → exec i s = .next (refused .state 2))
              ∧ (s.cal = none → s.panel.door = .closed → s.drum.state ≠ .fault → byteAt f.payload 0 ≠ 0 →
                  s.motor.valid = false → exec i s = .next (refused .notCalibrated 1))
              ∧ (s.cal = none → s.panel.door = .closed → s.drum.state ≠ .fault → s.motor.valid = true →
                let k := byteAt f.payload 0
                let turning := s.drum.state = .spinningUp ∨ s.drum.state = .locked ∨ s.drum.state = .drift
                let asks60 := k = 3 ∨ k = 1 ∧ ¬turning ∨ k = 2 ∧ s.drum.state ≠ .spinningUp ∧ s.drum.state ≠ .locked
                (asks60 → feasible s.motor 60 = false → exec i s = .next (refused .range 60))
                  ∧ (k = 3 → feasible s.motor 60 = true →
                    (s.carriage.state = .fault → exec i s = .next (refused .state 3))
                      ∧ (s.carriage.state ≠ .fault → s.panel.mountPresent = false → exec i s = .next (refused .state 4))
                      ∧ (s.carriage.state ≠ .fault → s.panel.mountPresent = true → s.scanPart.valid = false →
                          exec i s = .next (refused .notCalibrated 2))))))

/-- On a free link, with no order running, no run record and no calibration run, the door CLOSED and the drum not in
FAULT. MOTOR: the run is in SETTLE_LOW for 3 s, the drum enters CALIBRATING with drive 1,200, target 0, no D_ff, its
counts, CLIP, no-lock and trim cleared, its other timers stopped and the stall timer started; a DRUM_EVENT STATE is
placed. DARK, the motor part valid: the dark hold is set and a lit lamp goes OFF at once; with the drum LOCKED or
DRIFT and no no-lock condition nothing else changes and the run measures at once if the lamp has been OFF for 1 s,
else waits; with the drum STOPPED or SPINNING_DOWN and 60 rpm feasible the drum enters SPINNING_UP toward 60 rpm.
The reply is OK with the kind. (R48, R56, R69, R72, R74, R76, R87) -/
def Obligations.MotorAndDarkRunsBegin : Prop :=
  ∀ (dt : Nat) (tag : Byte) (s : State), s.LinkFree → s.run = none → s.runningOrder = none → s.cal = none →
    s.panel.door = .closed → s.drum.state ≠ .fault →
    let now := s.now + dt
    let d := s.drum
    let calibrating : Drum :=
      { d with
        state := .calibrating, target := 0, dff := none, drive := 1200, integral := 0, inCount := 0, outCount := 0
        clip := false, trim := .none, brake := false, noLock := false, spinUpTimer := none, quietTimer := none
        spinHoldTimer := none, stallTimer := some (now + 3000000) }
    let dark : Lamp :=
      if s.lamp.state = .off then { s.lamp with darkHold := true }
      else { s.lamp with state := .off, warmTimer := none, idleTimer := none, offTime := some now, darkHold := true }
    let unlitForASecond := s.lamp.state = .off ∧ ∀ t, s.lamp.offTime = some t → t + 1000000 ≤ now
    let waiting := newCalRun .dark [] 0 now
    let measuring : CalRun :=
      { waiting with phase := .measuring, offset := s.scanPart.offset, gain := s.scanPart.gain }
    exec (.calRunMotor dt tag []) s = .next
        ((({ s with cal := some (newCalRun .motor [] 0 now), drum := calibrating } : State).noticed
          (.drum .state .calibrating 0 1200 (d.period.getD 0) false)).answered dt ⟨0x0A#8, tag, [0#8]⟩ (.ok [0#8]))
      ∧ (s.motor.valid = true → d.state = .locked ∨ d.state = .drift → d.noLock = false →
          (unlitForASecond → exec (.calRunDark dt tag []) s = .next
            (({ s with cal := some measuring, lamp := dark } : State).answered dt ⟨0x0A#8, tag, [1#8]⟩ (.ok [1#8])))
            ∧ (¬unlitForASecond → exec (.calRunDark dt tag []) s = .next
              (({ s with cal := some waiting, lamp := dark } : State).answered dt ⟨0x0A#8, tag, [1#8]⟩ (.ok [1#8]))))
      ∧ (s.motor.valid = true → d.state = .stopped ∨ d.state = .spinningDown → feasible s.motor 60 = true →
          exec (.calRunDark dt tag []) s = .next
            ((({ s with cal := some waiting, lamp := dark, drum := d.spinUp 60 (feedForward s.motor 60).toNat now }
              : State).noticed (.drum .state .spinningUp 60 (feedForward s.motor 60).toNat (d.period.getD 0) false)).answered
              dt ⟨0x0A#8, tag, [1#8]⟩ (.ok [1#8])))

/-- On a free link, with no order running, no run record and no calibration run, the door CLOSED, the motor part valid
and no CALIBRATION lamp request standing. WHITE with the lamp READY and the drum LOCKED without a no-lock condition
measures at once: the request stands, the lamp-idle timer stops. WHITE with the lamp OFF, no dark hold and the drum
STOPPED or SPINNING_DOWN, 60 rpm feasible: the lamp warms for 45 s when cold and 8 s otherwise, and the drum enters
SPINNING_UP toward 60 rpm with its DRUM_EVENT. STEPS (14 steps at most, fields in range, mount present, scan part
valid) with the lamp READY, the drum LOCKED without a no-lock condition and 60 rpm feasible: at 60 rpm, from HOME at
position 0 and a position of 2 or more, the carriage takes its first step (leaving the home switch, log entry 28)
and the run waits, and a position of 0 is reached at once and the run measures at once; from HOMING or RETURNING the
move waits; at another speed a position of 0 is reached at once, but the drum enters SPINNING_UP toward 60 rpm and
the run waits for its lock. The reply is OK with the kind; nothing else changes. (R38, R69, R72, R77, R80, R84, R85,
R91) -/
def Obligations.WhiteAndStepsRunsBegin : Prop :=
  ∀ (dt : Nat) (tag : Byte) (s : State), s.LinkFree → s.run = none → s.runningOrder = none → s.cal = none →
    s.panel.door = .closed → s.motor.valid = true → s.lamp.calReq = false → feasible s.motor 60 = true →
    let now := s.now + dt
    let d := s.drum
    let white := newCalRun .white [] 0 now
    let wanted : Lamp := { s.lamp with calReq := true, idleTimer := none }
    (s.lamp.state = .ready → d.state = .locked → d.noLock = false → exec (.calRunWhite dt tag []) s = .next
        (({ s with
            cal := some { white with phase := .measuring, offset := s.scanPart.offset, gain := s.scanPart.gain }
            lamp := wanted } : State).answered dt ⟨0x0A#8, tag, [2#8]⟩ (.ok [2#8])))
      ∧ (s.lamp.state = .off → s.lamp.darkHold = false → d.state = .stopped ∨ d.state = .spinningDown →
        exec (.calRunWhite dt tag []) s = .next
          ((({ s with
              cal := some white
              lamp :=
                { wanted with
                  state := .warming
                  warmTimer := some (now +
                    (if s.lamp.offTime = none ∨ ∃ t, s.lamp.offTime = some t ∧ t + 600000000 ≤ now then 45000000
                      else 8000000)) }
              drum := d.spinUp 60 (feedForward s.motor 60).toNat now } : State).noticed
            (.drum .state .spinningUp 60 (feedForward s.motor 60).toNat (d.period.getD 0) false)).answered
            dt ⟨0x0A#8, tag, [2#8]⟩ (.ok [2#8])))
      ∧ (∀ rest : List Byte, lengthAgrees 0x0A#8 (3#8 :: rest) = true → rest.length ≤ 59 → stepsFault (3#8 :: rest) = none →
        s.panel.mountPresent = true → s.scanPart.valid = true → s.lamp.state = .ready → d.state = .locked →
        d.noLock = false →
        let position := wordAt (3#8 :: rest) 1
        let steps := newCalRun .steps (stepsOf (3#8 :: rest)) position now
        (d.target = 60 → s.carriage.state = .home → s.carriage.position = some 0 → 2 ≤ position →
            exec (.calRunSteps dt tag rest) s = .next
              (({ s with
                  cal := some steps
                  lamp := wanted
                  carriage :=
                    { s.carriage with
                      state := .advancing, position := some 1, target := some position, stepAt := some (now + 2500)
                      homeClosed := false } }
                : State).answered dt ⟨0x0A#8, tag, 3#8 :: rest⟩ (.ok [3#8])))
          ∧ (d.target = 60 → s.carriage.state = .home → position = 0 →
            exec (.calRunSteps dt tag rest) s = .next
              (({ s with
                  cal := some
                    { steps with
                      phase := .measuring, arrived := true, offset := s.scanPart.offset, gain := s.scanPart.gain }
                  lamp := wanted } : State).answered dt ⟨0x0A#8, tag, 3#8 :: rest⟩ (.ok [3#8])))
          ∧ (d.target ≠ 60 → s.carriage.state = .home → position = 0 →
            exec (.calRunSteps dt tag rest) s = .next
              ((({ s with
                  cal := some { steps with arrived := true }
                  lamp := wanted
                  drum := d.spinUp 60 (feedForward s.motor 60).toNat now } : State).noticed
                (.drum .state .spinningUp 60 (feedForward s.motor 60).toNat (d.period.getD 0) false)).answered
                dt ⟨0x0A#8, tag, 3#8 :: rest⟩ (.ok [3#8])))
          ∧ (d.target = 60 → s.carriage.state = .homing ∨ s.carriage.state = .returning →
            exec (.calRunSteps dt tag rest) s = .next
              (({ s with cal := some steps, lamp := wanted, carriage := { s.carriage with waitingMove := some position } }
                : State).answered dt ⟨0x0A#8, tag, 3#8 :: rest⟩ (.ok [3#8]))))

/-- On a free link with no run record. A speed other than 0, 60, 90 and 120 is refused FIELD_RANGE 1; else an order
running refuses BUSY with its number; else a calibration run BUSY 0; else for a speed the door OPEN STATE 1, FAULT
STATE 2, motor part not valid NOT_CALIBRATED 1, infeasible RANGE with the speed. With no order and no calibration
run: speed 0 in a turning state or FAULT enters SPINNING_DOWN (drive and target 0, brake applied, quiet timer 2 s)
with a DRUM_EVENT, in STOPPED and SPINNING_DOWN it changes nothing; a feasible speed from STOPPED, SPINNING_DOWN or
DRIFT enters SPINNING_UP at D_ff with a DRUM_EVENT and the spin-hold timer started; at that speed already (LOCKED at
it or SPINNING_UP toward it) only the spin-hold timer starts. The reply is OK with the drum state (one byte) and
target (two) after it. (R38, R39, R53, R55, R56, R196) -/
def Obligations.DrumSpinTurnsAndStops : Prop :=
  ∀ (dt : Nat) (tag v : Byte) (s : State), s.LinkFree → s.run = none →
    let now := s.now + dt
    let d := s.drum
    let spin := exec (.drumSpin dt tag [v]) s
    let rpm := v.toNat
    let r : Request := ⟨0x11#8, tag, [v]⟩
    let hold := some (now + s.settings.spinHold * 1000000)
    let D := (feedForward s.motor rpm).toNat
    let speed := rpm = 60 ∨ rpm = 90 ∨ rpm = 120
    let free := s.runningOrder = none ∧ s.cal = none
    let may := speed ∧ free ∧ s.panel.door = .closed ∧ d.state ≠ .fault ∧ s.motor.valid = true ∧ feasible s.motor rpm = true
    (rpm ≠ 0 → ¬speed → spin = .next (s.answered dt r (.refused .fieldRange 1)))
      ∧ (rpm = 0 ∨ speed → ∀ o, s.runningOrder = some o → spin = .next (s.answered dt r (.refused .busy o.number)))
      ∧ (rpm = 0 ∨ speed → s.runningOrder = none → s.cal.isSome → spin = .next (s.answered dt r (.refused .busy 0)))
      ∧ (speed → free → s.panel.door = .opened → spin = .next (s.answered dt r (.refused .state 1)))
      ∧ (speed → free → s.panel.door = .closed → d.state = .fault → spin = .next (s.answered dt r (.refused .state 2)))
      ∧ (speed → free → s.panel.door = .closed → d.state ≠ .fault → s.motor.valid = false →
          spin = .next (s.answered dt r (.refused .notCalibrated 1)))
      ∧ (speed → free → s.panel.door = .closed → d.state ≠ .fault → s.motor.valid = true → feasible s.motor rpm = false →
          spin = .next (s.answered dt r (.refused .range rpm)))
      ∧ (rpm = 0 → free → d.state = .spinningUp ∨ d.state = .locked ∨ d.state = .drift ∨ d.state = .fault →
          spin = .next
            ((({ s with
                drum :=
                  { d with
                    state := .spinningDown, target := 0, dff := none, drive := 0, integral := 0, brake := true
                    clip := false, trim := .none, noLock := false, spinUpTimer := none, stallTimer := none
                    spinHoldTimer := none, quietTimer := some (now + 2000000) } } : State).noticed
              (.drum .state .spinningDown 0 0 (d.period.getD 0) false)).answered dt r (.ok [4#8, 0#8, 0#8])))
      ∧ (rpm = 0 → free → d.state = .stopped ∨ d.state = .spinningDown →
          spin = .next (s.answered dt r (.ok (BitVec.ofNat 8 d.state.code :: u16 d.target))))
      ∧ (may → d.state = .stopped ∨ d.state = .spinningDown ∨ d.state = .drift →
          spin = .next
            ((({ s with
                drum :=
                  { d with
                    state := .spinningUp, target := rpm, dff := some D, drive := D, integral := 0, inCount := 0
                    outCount := 0, clip := false, trim := .none, brake := false, noLock := false
                    spinUpTimer := some (now + 20000000), quietTimer := none, spinHoldTimer := hold
                    stallTimer := some (now + 3000000) } } : State).noticed
              (.drum .state .spinningUp rpm D (d.period.getD 0) false)).answered dt r (.ok [1#8, 0#8, v])))
      ∧ (may → d.state = .locked ∨ d.state = .spinningUp → d.target = rpm →
          spin = .next
            (({ s with drum := { d with spinHoldTimer := hold } } : State).answered dt r
              (.ok [BitVec.ofNat 8 d.state.code, 0#8, v])))

/-- With the order numbers of the table and the next order number in 1..65535 and at most 16 orders: the assigned number
is reached from the next order number by some count k of steps up (65535 steps to 1), every number passed before it
is held by an order of the table, it is held by none, and it lies in 1..65535. (R5, R4) -/
def Obligations.NumbersAreAssigned : Prop :=
  ∀ s : State, s.NumberInv →
    let up (k : Nat) := (s.manager.nextNumber - 1 + k) % 65535 + 1
    ∃ k, s.manager.assign = up k
      ∧ (∀ j, j < k → up j ∈ s.manager.table.map Order.number)
      ∧ up k ∉ s.manager.table.map Order.number ∧ 1 ≤ up k ∧ up k ≤ 65535

/-- On a free link, ORDER_BEGIN with 20..60 bytes. An order ASSEMBLING: REFUSED ASSEMBLY_BUSY with its number. Else 16
orders: REFUSED TABLE_FULL 0. Else, the last flag (byte 19) clear: a record in ASSEMBLING joins the end of the table
with the assigned number, the header as given, one fragment, and the content bytes from byte 20 counted whole and
stored up to destination count plus caption length; the next number is the one after it (1 after 65535), the
assembly timer runs 10 s, and the reply is OK with the number. Nothing else changes. (R4, R13, R196) -/
def Obligations.OrderBeginJoinsTheTable : Prop :=
  ∀ (dt : Nat) (tag : Byte) (p : List Byte) (s : State), s.LinkFree → 20 ≤ p.length → p.length ≤ 60 →
    let begin' := exec (.orderBegin dt tag p) s
    let r : Request := ⟨0x0B#8, tag, p⟩
    let n := s.manager.assign
    let h := Header.ofPayload p
    (∀ o, s.assemblingOrder = some o → begin' = .next (s.answered dt r (.refused .assemblyBusy o.number)))
      ∧ (s.assemblingOrder = none → 16 ≤ s.manager.table.length →
          begin' = .next (s.answered dt r (.refused .tableFull 0)))
      ∧ (s.assemblingOrder = none → s.manager.table.length < 16 → byteAt p 19 = 0 →
          ∃ o : Order,
            begin' = .next
                (({ s with
                    manager :=
                      { s.manager with
                        table := s.manager.table ++ [o]
                        nextNumber := if n < 65535 then n + 1 else 1
                        assemblyTimer := some (s.now + dt + 10000000) } } : State).answered dt r (.ok (u16 n)))
              ∧ o.number = n ∧ o.header = h ∧ o.state = .assembling ∧ o.result = none ∧ o.fragments = 1
              ∧ o.received = p.length - 20 ∧ o.content = (p.drop 20).take (h.destCount + h.captionLen))

/-- On a free link with distinct order numbers, no order ASSEMBLING and room in the table, ORDER_BEGIN with the last
flag set, o being the record it makes. A check that fails: REFUSED with its reason and qualifier, the table as
before, the next number past the number, which a refused assembly uses up (R5, R13; DEDUCED, log entry 26). The
checks in order: 1 bytes received other than destination count plus caption length (ORDER_COUNT, that count); 2 the
first header field out of range (FIELD_RANGE, its number); 3 the first destination i that is outside 1..32
(DEST_UNKNOWN), else not enabled (DEST_DISABLED), else named before (DEST_DUPLICATE), else without the speed or
modulation (DEST_SPEED), each with i; 4 a DIAL first of several (NETWORK_MIX 2), or the first DIAL destination after
a LOOP one (its index); 5 a mount field that does not bind (MOUNT_INVALID, M); 6 motor part (NOT_CALIBRATED 1), then
scan part not valid (2); 7 the speed not feasible (RANGE, the speed). Every check passed, with the manager HALTED: o
stands at the end of the table in QUEUED with its network, picture lines (length over pitch, rounded up), bound
mount, PENDING destinations, caption, accepted time and running queue duration, and the reply is OK with its number;
with no mount present and no pre-warm request the lamp stays, and bound to a present mount with the lamp OFF, no
dark hold, no run and no pre-warm request, that request is made and the lamp warms. (R5, R9, R12, R13, R16, R17,
R18, R24, R34, R44, R84, R85) -/
def Obligations.OrderIsAcceptedOrRefused : Prop :=
  ∀ (dt : Nat) (tag : Byte) (p : List Byte) (s : State), s.LinkFree → s.NumberInv → 20 ≤ p.length → p.length ≤ 60 →
    s.assemblingOrder = none → s.manager.table.length < 16 → byteAt p 19 ≠ 0 →
    let begin' := exec (.orderBegin dt tag p) s
    let r : Request := ⟨0x0B#8, tag, p⟩
    let n := s.manager.assign
    let h := Header.ofPayload p
    let o := newOrder n h (p.drop 20)
    let past := if n < 65535 then n + 1 else 1
    let refused (reason : Reason) (q : Nat) : State :=
      ({ s with manager := { s.manager with nextNumber := past } } : State).answered dt r (.refused reason q)
    (∀ reason q, validate o s = some (reason, q) → begin' = .next (refused reason q))
      ∧ (o.received ≠ h.destCount + h.captionLen → validate o s = some (.orderCount, o.received))
      ∧ (o.received = h.destCount + h.captionLen → ∀ i, 1 ≤ i → i ≤ 11 → h.inRange i = false →
          (∀ j, 1 ≤ j → j < i → h.inRange j = true) → validate o s = some (.fieldRange, i))
      ∧ (o.received = h.destCount + h.captionLen → (∀ i, 1 ≤ i → i ≤ 11 → h.inRange i = true) →
        let ns := ((p.drop 20).take h.destCount).map BitVec.toNat
        let enabled (k : Nat) (st : Station) : Prop := s.directory[k - 1]? = some (.enabled st)
        let capable (st : Station) : Prop :=
          (h.speed = 60 ∧ st.rpm60 = true ∨ h.speed = 90 ∧ st.rpm90 = true ∨ h.speed = 120 ∧ st.rpm120 = true)
            ∧ (h.modulation = 0 ∧ st.fm = true ∨ h.modulation = 1 ∧ st.am = true)
        let passes (i k : Nat) : Prop := 1 ≤ k ∧ k ≤ 32 ∧ k ∉ ns.take i ∧ ∃ st, enabled k st ∧ capable st
        let dial (k : Nat) : Prop := ∃ st ds, enabled k st ∧ st.address = .dial ds
        let M := s.panel.mountCounter
        let nextM := if M < 65535 then M + 1 else 1
        (∀ i k, ns[i]? = some k → (∀ j m, j < i → ns[j]? = some m → passes j m) →
            (k = 0 ∨ 32 < k → validate o s = some (.destUnknown, i + 1))
              ∧ (1 ≤ k → k ≤ 32 → (∀ st, ¬enabled k st) → validate o s = some (.destDisabled, i + 1))
              ∧ (∀ st, 1 ≤ k → k ≤ 32 → enabled k st →
                (k ∈ ns.take i → validate o s = some (.destDuplicate, i + 1))
                  ∧ (k ∉ ns.take i → ¬capable st → validate o s = some (.destSpeed, i + 1))))
          ∧ ((∀ i k, ns[i]? = some k → passes i k) →
            (∀ k m rest, ns = k :: m :: rest → dial k → validate o s = some (.networkMix, 2))
              ∧ (∀ i k m, ns[0]? = some k → ¬dial k → ns[i]? = some m → dial m →
                  (∀ j x, j < i → ns[j]? = some x → ¬dial x) → validate o s = some (.networkMix, i + 1))
              ∧ (ns.length = 1 ∨ (∀ k ∈ ns, ¬dial k) →
                (h.mount ≠ 0 → (h.mount = M → s.panel.mountPresent = false) → h.mount ≠ nextM →
                    validate o s = some (.mountInvalid, M))
                  ∧ (h.mount = 0 ∨ h.mount = M ∧ s.panel.mountPresent = true ∨ h.mount ≠ M ∧ h.mount = nextM →
                    (s.motor.valid = false → validate o s = some (.notCalibrated, 1))
                      ∧ (s.motor.valid = true → s.scanPart.valid = false → validate o s = some (.notCalibrated, 2))
                      ∧ (s.motor.valid = true → s.scanPart.valid = true → feasible s.motor h.speed = false →
                          validate o s = some (.range, h.speed))
                      ∧ (s.motor.valid = true → s.scanPart.valid = true → feasible s.motor h.speed = true →
                          validate o s = none)))))
      ∧ (validate o s = none → s.manager.state = .halted → s.panel.mountPresent = true → h.mount = 0 → s.run = none →
          s.lamp.prewarm = false → s.lamp.state = .off → s.lamp.darkHold = false →
          let cold := s.lamp.offTime = none ∨ ∃ t, s.lamp.offTime = some t ∧ t + 600000000 ≤ s.now + dt
          ∃ q : Order,
            begin' = .next
                (({ s with
                    manager := { s.manager with table := s.manager.table ++ [q], nextNumber := past }
                    lamp :=
                      { s.lamp with
                        prewarm := true, idleTimer := none, state := .warming
                        warmTimer := some (s.now + dt + if cold then 45000000 else 8000000) } } : State).answered
                  dt r (.ok (u16 n)))
              ∧ q.number = n ∧ q.state = .queued ∧ q.mount = s.panel.mountCounter)
      ∧ (validate o s = none → s.manager.state = .halted → s.panel.mountPresent = false → s.lamp.prewarm = false →
          ∃ q : Order,
            begin' = .next
                (({ s with manager := { s.manager with table := s.manager.table ++ [q], nextNumber := past } } : State).answered
                  dt r (.ok (u16 n)))
              ∧ q.number = n ∧ q.header = h ∧ q.state = .queued ∧ q.result = none
              ∧ q.network = s.networkOf (o.stationBytes.headD 0)
              ∧ q.lines = (h.length + h.pitch - 1) / h.pitch
              ∧ q.mount = (if h.mount = 0 then nextOf s.panel.mountCounter else h.mount)
              ∧ q.dests = o.stationBytes.map (fun k => ⟨k, .pending⟩)
              ∧ q.caption = (((p.drop 20).drop h.destCount).take h.captionLen).map
                  (fun b => if 0x20 ≤ b.toNat ∧ b.toNat ≤ 0x7E then charOf b else '?')
              ∧ q.accepted = s.todNow ∧ q.queue = .running (s.now + dt) ∧ q.counts = ⟨0, 0, 0, 0, 0⟩)

/-- On a free link, ORDER_PART with 3..60 bytes naming n. No ASSEMBLING order of number n: REFUSED ASSEMBLY_SEQUENCE n,
nothing changes. It holds 8 fragments: REFUSED ORDER_COUNT 9, the record leaves the table, the timer stops, no
notice. Else with the last flag clear: the content bytes are appended (stored up to the declared count) and counted,
the fragments step up by one, the timer restarts at 10 s and the reply is OK with n. With the last flag set (any
other value) they are appended and counted in the same way and the timer stops; then, the order numbers being
distinct, the record o so made is validated: a check of R16 that fails (the checks are spelled out in
OrderIsAcceptedOrRefused) refuses it with its reason and qualifier and the record leaves the table without a notice;
every check passed, with the manager HALTED, no mount present and no pre-warm request, o becomes QUEUED in its place
with its fields filled, and the reply is OK with n. ASSEMBLY_TIMEOUT with the timer due: the ASSEMBLING order leaves
the table, the timer stops, and an ORDER_EVENT DISCARDED is placed. (R14, R15, R16, R17) -/
def Obligations.OrderPartsAreAppended : Prop :=
  ∀ (dt : Nat) (s : State),
    (∀ (tag : Byte) (p : List Byte), s.LinkFree → 3 ≤ p.length → p.length ≤ 60 →
        let n := wordAt p 0
        let part := exec (.orderPart dt tag p) s
        let r : Request := ⟨0x0C#8, tag, p⟩
        ((∀ o, s.assemblingOrder = some o → o.number ≠ n) →
            part = .next (s.answered dt r (.refused .assemblySequence n)))
          ∧ (∀ o, s.assemblingOrder = some o → o.number = n → 8 ≤ o.fragments →
            part = .next
              (({ s with
                  manager :=
                    { s.manager with table := s.manager.table.filter (fun x => x.number != n), assemblyTimer := none } }
                : State).answered dt r (.refused .orderCount 9)))
          ∧ (∀ o, s.assemblingOrder = some o → o.number = n → o.fragments < 8 → byteAt p 2 = 0 →
            part = .next
              (({ s with
                  manager :=
                    { s.manager with
                      table := s.manager.table.map fun x =>
                        if x.number = n then
                          { x with
                            fragments := x.fragments + 1
                            received := x.received + (p.length - 3)
                            content := (x.content ++ p.drop 3).take (x.header.destCount + x.header.captionLen) }
                        else x
                      assemblyTimer := some (s.now + dt + 10000000) } } : State).answered dt r (.ok (u16 n))))
          ∧ (∀ o, s.NumberInv → s.assemblingOrder = some o → o.number = n → o.fragments < 8 → byteAt p 2 ≠ 0 →
            let h := o.header
            let whole : Order :=
              { o with
                fragments := o.fragments + 1
                received := o.received + (p.length - 3)
                content := (o.content ++ p.drop 3).take (h.destCount + h.captionLen) }
            (∀ reason q, validate whole s = some (reason, q) →
                part = .next
                  (({ s with
                      manager :=
                        { s.manager with table := s.manager.table.filter (fun x => x.number != n), assemblyTimer := none } }
                    : State).answered dt r (.refused reason q)))
              ∧ (validate whole s = none → s.manager.state = .halted → s.panel.mountPresent = false →
                s.lamp.prewarm = false →
                ∃ q : Order,
                  part = .next
                      (({ s with
                          manager :=
                            { s.manager with
                              table := s.manager.table.map fun x => if x.number = n then q else x
                              assemblyTimer := none } } : State).answered dt r (.ok (u16 n)))
                    ∧ q.number = n ∧ q.header = h ∧ q.state = .queued ∧ q.content = whole.content
                    ∧ q.received = whole.received ∧ q.fragments = whole.fragments
                    ∧ q.lines = (h.length + h.pitch - 1) / h.pitch
                    ∧ q.mount = (if h.mount = 0 then nextOf s.panel.mountCounter else h.mount)
                    ∧ q.dests = (whole.content.take h.destCount).map (fun b => ⟨b.toNat, .pending⟩)
                    ∧ q.caption = ((whole.content.drop h.destCount).take h.captionLen).map
                        (fun b => if 0x20 ≤ b.toNat ∧ b.toNat ≤ 0x7E then charOf b else '?')
                    ∧ q.accepted = s.todNow ∧ q.queue = .running (s.now + dt))))
      ∧ (∀ t o, s.manager.assemblyTimer = some t → t ≤ s.now + dt → s.assemblingOrder = some o →
        exec (.assemblyTimeout dt) s = .next
          { advance dt s with
            manager :=
              { s.manager with table := s.manager.table.filter (fun x => x.number != o.number), assemblyTimer := none }
            link := s.link.place (s.now + dt) (.order o.number o.header.hostRef .discarded none) })

/-- On a free link, ORDER_CANCEL naming n, with distinct order numbers. No order n: REFUSED NOT_FOUND n. An order in
ASSEMBLING, ENDING, CONFIRMING or FINISHED: REFUSED STATE n (with an abort pending in ENDING or CONFIRMING, the
model's choice: log entry 30). A QUEUED order, with no mount present and no pre-warm request: the reply is OK and it
becomes FINISHED with CANCELLED, its PENDING destinations NOT_CALLED, its ended time stamped and its running
durations fixed, with an ORDER_EVENT FINISHED. With slip mode ON and 8 slips queued it stays in the table so. With
no other order FINISHED it leaves the table and an ORDER_EVENT RETIRED follows: with slip mode OFF without a slip;
with it ON and fewer than 8 queued, its slip joins the newest end of the queue, unmarked, and printing begins when
the printer is IDLE with paper PRESENT. The slip's lines: the transmitter name padded to 12, " NO " and the number;
the date text and stale mark (ten dashes and a space while unset), a space and the ended time; CANCELLED; the
caption in pieces of 24; each destination's directory name padded to 12, a space and its result; LINES sent/L; the
pairs REPEATS and RESCANS, FLAGGED and EXTRA, QUEUE and PREP (DEFER), PICT and CONF, each on one line if it fits 24;
the query marks, and QUERIES with the count when there are more than marks; END. With slip mode ON and 8 slips
queued, the order the only one QUEUED and bound to the present mount, a standing pre-warm request the lamp's only
one and the lamp lit: the request is withdrawn and the lamp-idle timer starts. (R3, R8, R12, R21, R24, R25, R86,
R175, R176, R177, R178, R179) -/
def Obligations.QueuedOrderIsCancelled : Prop :=
  ∀ (dt : Nat) (tag : Byte) (p : List Byte) (s : State), s.LinkFree → s.NumberInv → p.length = 2 →
    let unmounted := s.panel.mountPresent = false ∧ s.lamp.prewarm = false
    let n := wordAt p 0
    let cancel := exec (.orderCancel dt tag p) s
    let r : Request := ⟨0x0D#8, tag, p⟩
    let stop (d : Span) : Span :=
      match d with
      | .running since => .ended (min ((s.now + dt - since) / 1000 / 100) 65535)
      | d => d
    let finished (o : Order) : Order :=
      { o with
        state := .finished
        result := some .cancelled
        dests := o.dests.map fun d => if d.result = .pending then { d with result := .notCalled } else d
        ended := s.todNow
        queue := stop o.queue
        prepare := stop o.prepare
        defer := stop o.defer
        picture := stop o.picture
        confirm := stop o.confirm }
    let event (o : Order) : Notice := .order n o.header.hostRef (.entered .finished) (some .cancelled)
    let digit (k : Nat) : Char := Char.ofNat (48 + k % 10)
    let decimal (k : Nat) : List Char := Nat.toDigits 10 k
    let tenths (k : Nat) : List Char := decimal (k / 10) ++ ['.', digit k]
    let time (t : Option Nat) : List Char :=
      match t with
      | some t =>
        [digit (t / 3600 / 10), digit (t / 3600), ':', digit (t % 3600 / 60 / 10), digit (t % 3600 / 60), ':',
          digit (t % 60 / 10), digit (t % 60)]
      | none => "--:--:--".toList
    let pad (t : List Char) : List Char := t ++ List.replicate (12 - t.length) ' '
    let pair (a b : List Char) : List (List Char) := if a.length + 1 + b.length ≤ 24 then [a ++ ' ' :: b] else [a, b]
    let fixed (d : Span) : Nat := match d with | .ended k => k | _ => 0
    let text (o : Order) : List (List Char) :=
      [pad s.settings.name ++ " NO ".toList ++ decimal n,
        (match s.clock with
          | some c => c.date ++ [if c.stale then '*' else ' ']
          | none => "---------- ".toList) ++ ' ' :: time s.todNow,
        "CANCELLED".toList]
        ++ [o.caption.take 24, (o.caption.drop 24).take 24, o.caption.drop 48].filter (· ≠ [])
        ++ (finished o).dests.map (fun d => pad ((s.station d.station).map Station.name |>.getD []) ++ ' ' :: d.result.name)
        ++ ["LINES ".toList ++ decimal o.counts.sent ++ '/' :: decimal o.lines]
        ++ pair ("REPEATS ".toList ++ decimal o.counts.repeats) ("RESCANS ".toList ++ decimal o.counts.rescans)
        ++ pair ("FLAGGED ".toList ++ decimal o.counts.flagged) ("EXTRA ".toList ++ decimal o.counts.extra)
        ++ pair ("QUEUE ".toList ++ tenths (fixed (stop o.queue)))
            ("PREP ".toList ++ tenths (fixed (stop o.prepare)) ++ " (".toList ++ tenths (fixed (stop o.defer)) ++ [')'])
        ++ pair ("PICT ".toList ++ tenths (fixed (stop o.picture))) ("CONF ".toList ++ tenths (fixed (stop o.confirm)))
        ++ o.marks.map (fun m =>
            "Q ".toList ++ time m.tod ++
              (match m.reason with | .hostTimeout => " HOST_TIMEOUT".toList | .operator => " OPERATOR".toList))
        ++ (if o.marks.length < o.queryCount then ["QUERIES ".toList ++ decimal o.queryCount] else [])
        ++ ["END".toList]
    ((∀ o ∈ s.manager.table, o.number ≠ n) → cancel = .next (s.answered dt r (.refused .notFound n)))
      ∧ (∀ o ∈ s.manager.table, o.number = n →
          o.state = .assembling ∨ o.state = .ending ∨ o.state = .confirming ∨ o.state = .finished →
          cancel = .next (s.answered dt r (.refused .state n)))
      ∧ (∀ o ∈ s.manager.table, o.number = n → o.state = .queued → unmounted → s.settings.slipMode = true →
          s.slips.queue.length = 8 →
          cancel = .next
            ((({ s with
                manager := { s.manager with table := s.manager.table.map fun x => if x.number = n then finished x else x } }
              : State).noticed (event o)).answered dt r (.ok [])))
      ∧ (∀ o ∈ s.manager.table, o.number = n → o.state = .queued → unmounted → s.settings.slipMode = false →
          (∀ x ∈ s.manager.table, x.state ≠ .finished) →
          cancel = .next
            (((({ s with manager := { s.manager with table := s.manager.table.filter fun x => x.number != n } }
              : State).noticed (event o)).noticed (.order n o.header.hostRef .retired none)).answered dt r (.ok [])))
      ∧ (∀ o ∈ s.manager.table, o.number = n → o.state = .queued → unmounted → s.settings.slipMode = true →
          s.slips.queue.length < 8 → (∀ x ∈ s.manager.table, x.state ≠ .finished) →
          cancel = .next
            (((({ s with
                manager := { s.manager with table := s.manager.table.filter fun x => x.number != n }
                slips :=
                  { s.slips with
                    queue := s.slips.queue ++ [⟨n, text o, false⟩]
                    printer := if s.slips.printer = .idle ∧ s.slips.paper = .present then .printing false 0 (s.now + dt)
                      else s.slips.printer } }
              : State).noticed (event o)).noticed (.order n o.header.hostRef .retired none)).answered dt r (.ok [])))
      ∧ (∀ o ∈ s.manager.table, o.number = n → o.state = .queued → s.settings.slipMode = true →
          s.slips.queue.length = 8 → s.panel.mountPresent = true →
          (∀ x ∈ s.manager.table, x.state = .queued → x.mount = s.panel.mountCounter → x.number = n) →
          s.lamp.prewarm = true → s.lamp.runReq = false → s.lamp.calReq = false → s.lamp.state ≠ .off →
          cancel = .next
            ((({ s with
                manager := { s.manager with table := s.manager.table.map fun x => if x.number = n then finished x else x }
                lamp :=
                  { s.lamp with
                    prewarm := false, idleTimer := some (s.now + dt + s.settings.lampIdle * 1000000) } }
              : State).noticed (event o)).answered dt r (.ok [])))

/-- With a run record of an order of the table and no abort cause yet. ORDER_CANCEL on a free link, the order PREPARING,
nothing scanned, the line SEIZED: the cause is kept, the defer timer stops, READY destinations become ABORTED, the
store closes and the line is released at once; the order stays PREPARING and the reply is OK. ORDER_CANCEL with the
order SENDING, the scan complete and the line in PICTURE sounding: the same, but the trim request becomes NONE and
the stop tone begins at once, the line timer stopped. DEFER_LIMIT_EXPIRY with the timer due, the order PREPARING,
the roll call ended with a READY destination, nothing scanned and the line HOLDING in silence more than 60 ms after
the last listen: the cause is PREP_TIMEOUT and the stop tone begins. With no scan in progress and no calibration
run: SPIN_UP_LIMIT_EXPIRY with the timer due, before the roll call's end, is DRUM_FAULT with a release; STALL with
the timer due is DRUM_FAULT, a release in PREPARING before the roll call's end and the stop tone in PHASING and
SENDING while the line sounds; so is the INDEX_PULSE that ends the eighth revolution in a row not locked, with the
drum in DRIFT; DOOR_OPEN with the drum turning and no order QUEUED for the mount is DOOR_OPEN, a release in
PREPARING, else the stop tone, and ends the mount; the STOP key with the drum turning is STOPPED in every running
state, releases the line and makes the manager HALTED. Each has its drum effect and its notices. Nothing else
changes. The order of the DRUM_EVENT and the PANEL_EVENT of a STOP is the model's choice (log entry 14), and so is
that a timer's expiry acts only when due (log entry 8). (R21, R46, R47, R129, R131, R146, R156, R157, R161, R165,
R166, R167) -/
def Obligations.RunsAreAborted : Prop :=
  ∀ (dt : Nat) (s : State) (r : RunRecord) (o : Order), s.run = some r → r.abort = none → o.number = r.order →
    s.manager.table.find? (fun x => x.number == r.order) = some o → s.line.state = .seized →
    let now := s.now + dt
    let aborted (c : AbortCause) (a : LineAction) : State :=
      { s with
        run := some { r with abort := some c, deferTimer := none, action := a }
        manager :=
          { s.manager with
            table := s.manager.table.map fun x =>
              if x.number = r.order then
                { x with
                  dests := x.dests.map fun d => if d.result = .ready then { d with result := .aborted } else d }
              else x }
        store := { slots := [], isOpen := false, figures := none, lastOut := none } }
    let released : LineUnit :=
      { s.line with
        state := .releasing, loopClosed := false, activity := none, signal := .silent, listenFor := none
        loopTimer := none, holdAt := none, timer := none, sent := none, releaseAt := some (now + 300000)
        releaseCause := .request, lastRequest := some .release }
    let stopTone : LineUnit :=
      { s.line with
        activity := some .stopTone, signal := .sounding now, timer := none, sent := none, holdAt := none
        lastRequest := some .stopTone }
    (∀ (tag : Byte) (p : List Byte), s.LinkFree → p.length = 2 → wordAt p 0 = r.order →
        let cancel := exec (.orderCancel dt tag p) s
        let req : Request := ⟨0x0D#8, tag, p⟩
        (o.state = .preparing → r.scanStarted = false →
            cancel = .next (({ aborted .cancel .release with line := released } : State).answered dt req (.ok [])))
          ∧ (o.state = .sending → r.scanComplete = true → s.line.activity = some .picture →
            (∃ since, s.line.signal = .sounding since) →
            cancel = .next
              (({ aborted .cancel .stopTone with line := stopTone, drum := { s.drum with trim := .none } } : State).answered
                dt req (.ok []))))
      ∧ (∀ t, r.deferTimer = some t → t ≤ now → o.state = .preparing → r.rollEnded = true → o.anyReady = true →
          r.scanStarted = false → s.line.activity = some .holding → s.line.signal = .silent → s.line.timer = none →
          s.line.sent = none → (∀ e, s.line.lastListenEnd = some e → e + 60000 ≤ now) →
          exec (.deferLimitExpiry dt) s = .next
            { aborted .deferLimit .stopTone with line := stopTone, now := now })
      ∧ (s.cal = none → r.scanStarted = false ∨ r.scanComplete = true →
        let d := s.drum
        let turning := d.state = .spinningUp ∨ d.state = .locked ∨ d.state = .drift
        let early := o.state = .preparing ∧ r.rollEnded = false
        let sounding := (s.line.activity = some .startTone ∨ s.line.activity = some .phasing ∨ s.line.activity = some .picture)
          ∧ ∃ since, s.line.signal = .sounding since
        let inPicture := (o.state = .phasing ∨ o.state = .sending) ∧ sounding
        let notReady (c : AbortCause) (a : LineAction) : Option RunRecord :=
          some { r with abort := some c, deferTimer := none, action := a, drumReady := false }
        let down : Drum :=
          { d with
            state := .spinningDown, target := 0, dff := none, drive := 0, integral := 0, brake := true, clip := false
            trim := .none, noLock := false, spinUpTimer := none, stallTimer := none, spinHoldTimer := none
            quietTimer := some (now + 2000000) }
        let downEvent : Notice := .drum .state .spinningDown 0 0 (d.period.getD 0) false
        let M := s.panel.mountCounter
        (∀ t, d.spinUpTimer = some t → t ≤ now → d.state = .spinningUp → early →
            exec (.spinUpLimitExpiry dt) s = .next
              { aborted .drumFault .release with
                now := now
                drum := { d with noLock := true, spinUpTimer := none }
                link := s.link.place now (.drum .noLock .spinningUp d.target d.drive (d.period.getD 0) d.clip)
                line := released })
          ∧ (∀ t, d.stallTimer = some t → t ≤ now → early ∨ inPicture →
            let a := if o.state = .preparing then LineAction.release else .stopTone
            exec (.stall dt) s = .next
              { aborted .drumFault a with
                now := now
                run := notReady .drumFault a
                drum :=
                  { d with
                    state := .fault, target := 0, dff := none, drive := 0, brake := true, trim := .none, noLock := false
                    spinUpTimer := none, stallTimer := none, quietTimer := none, spinHoldTimer := none }
                link := s.link.place now (.drum .stall .fault 0 0 (d.period.getD 0) d.clip)
                line := if o.state = .preparing then released else stopTone })
          ∧ (∀ x : Sample, d.state = .drift → s.scan = none → r.drift = 7 → inPicture →
            (∀ t, d.lastIndex = some t → now < t + 3000000 → withinWindow s.settings (now - t) d.target = false) →
            ∃ (d' : Drum) (l : Link),
              exec (.indexPulse dt x) s = .next
                  { aborted .drumFault .stopTone with
                    now := now
                    run := some { r with abort := some .drumFault, deferTimer := none, action := .stopTone, drift := 8 }
                    drum := d', link := l, encoder := ⟨0, true⟩, line := stopTone }
                ∧ d'.state = .drift ∧ (d.clip = true ∨ d'.clip = false → l = s.link))
          ∧ (s.panel.door = .closed → s.panel.mountPresent = true → s.lamp.prewarm = false → turning →
            (∀ x ∈ s.manager.table, x.state = .queued → x.mount ≠ M) → o.state = .preparing ∨ inPicture →
            let a := if o.state = .preparing then LineAction.release else .stopTone
            exec (.doorOpen dt) s = .next
              { aborted .door a with
                now := now
                run := notReady .door a
                panel := { s.panel with door := .opened, mountPresent := false }
                drum := down
                link := (s.link.place now downEvent).place now (.panel .door (some 1) M false)
                line := if o.state = .preparing then released else stopTone })
          ∧ (o.state.isRunning = true → turning →
            exec (.stopKey dt) s = .next
              { aborted .stop .release with
                now := now
                run := notReady .stop .release
                manager := { (aborted .stop .release).manager with state := .halted }
                drum := down
                link := (s.link.place now downEvent).place now (.panel .stop none M s.panel.mountPresent)
                line := released }))

/-- On a free link with distinct order numbers, ORDER_INQUIRE naming n with a section and a reason. A section above 1 is
refused FIELD_RANGE 1, else a reason above 2 FIELD_RANGE 2, else a number naming no order NOT_FOUND n, else an
ASSEMBLING order STATE n; nothing changes. Else with reason NONE nothing changes, and with another reason a mark
with the present time of day and the reason is appended while the order holds fewer than four, and the query count
steps up by one, saturating at 255. The reply is OK: SUMMARY with 37 bytes, the state, the result (0xFF before
FINISHED), the five counts, the accepted, started and ended times (0xFFFFFFFF when absent), the queue, prepare,
defer, picture and confirm durations in 0.1 s (one in progress as the time elapsed so far, 0 when not begun), the
line number the modulator keeps in SENDING and else 0, and the query count after the step; DESTINATIONS with the
destination count and each station number and result. The model's choice: a station number there takes one byte (log
entry 9), and no reply carries the host reference (log entry 29). (R22, R24, R196) -/
def Obligations.OrdersAreInquired : Prop :=
  ∀ (dt : Nat) (tag : Byte) (p : List Byte) (s : State), s.LinkFree → s.NumberInv → p.length = 4 →
    let n := wordAt p 0
    let inquire := exec (.orderInquire dt tag p) s
    let r : Request := ⟨0x0E#8, tag, p⟩
    (2 ≤ byteAt p 2 → inquire = .next (s.answered dt r (.refused .fieldRange 1)))
      ∧ (byteAt p 2 ≤ 1 → 3 ≤ byteAt p 3 → inquire = .next (s.answered dt r (.refused .fieldRange 2)))
      ∧ (byteAt p 2 ≤ 1 → byteAt p 3 ≤ 2 →
        ((∀ o ∈ s.manager.table, o.number ≠ n) → inquire = .next (s.answered dt r (.refused .notFound n)))
          ∧ (∀ o ∈ s.manager.table, o.number = n → o.state = .assembling →
              inquire = .next (s.answered dt r (.refused .state n)))
          ∧ (∀ o ∈ s.manager.table, o.number = n → o.state ≠ .assembling →
            let marked (reason : QueryReason) : Order :=
              { o with
                marks := if o.marks.length < 4 then o.marks ++ [⟨s.todNow, reason⟩] else o.marks
                queryCount := if o.queryCount < 255 then o.queryCount + 1 else o.queryCount }
            let q := if byteAt p 3 = 0 then o else if byteAt p 3 = 1 then marked .hostTimeout else marked .operator
            let span (d : Span) : List Byte :=
              match d with
              | .notBegun => u16 0
              | .running since => u16 (min ((s.now + dt - since) / 1000 / 100) 65535)
              | .ended k => u16 k
            ∃ fields : List Byte,
              inquire = .next
                  (({ s with
                      manager := { s.manager with table := s.manager.table.map fun x => if x.number = n then q else x } }
                    : State).answered dt r (.ok fields))
                ∧ (byteAt p 2 = 0 → fields.length = 37
                    ∧ fields =
                        [BitVec.ofNat 8 q.state.code, BitVec.ofNat 8 ((q.result.map OrderResult.code).getD 255)]
                          ++ (u16 q.counts.sent ++ u16 q.counts.repeats ++ u16 q.counts.rescans ++ u16 q.counts.extra
                            ++ u16 q.counts.flagged)
                          ++ (u32 (q.accepted.getD 0xFFFFFFFF) ++ u32 (q.started.getD 0xFFFFFFFF)
                            ++ u32 (q.ended.getD 0xFFFFFFFF))
                          ++ (span q.queue ++ span q.prepare ++ span q.defer ++ span q.picture ++ span q.confirm)
                          ++ u16 (if q.state = .sending then s.line.lineNumber else 0) ++ [BitVec.ofNat 8 q.queryCount])
                ∧ (byteAt p 2 = 1 → fields = BitVec.ofNat 8 q.dests.length ::
                    q.dests.flatMap (fun d => [BitVec.ofNat 8 d.station, BitVec.ofNat 8 d.result.code]))))

/-- On a free link ORDER_LIST is answered OK with the manager state (0 RUNNING, 1 HALTED), the number of orders in the
table, and for each order in table order its number (two bytes) and its state; an empty table gives a count of 0 and
no entries. Nothing else changes. (R23) -/
def Obligations.OrderListReadsTheTable : Prop :=
  ∀ (dt : Nat) (tag : Byte) (s : State), s.LinkFree →
    exec (.orderList dt tag []) s = .next (s.answered dt ⟨0x0F#8, tag, []⟩
        (.ok (BitVec.ofNat 8 s.manager.state.code :: BitVec.ofNat 8 s.manager.table.length
          :: s.manager.table.flatMap fun o => u16 o.number ++ [BitVec.ofNat 8 o.state.code])))
      ∧ (s.manager.table = [] →
        exec (.orderList dt tag []) s = .next
          (s.answered dt ⟨0x0F#8, tag, []⟩ (.ok [BitVec.ofNat 8 s.manager.state.code, 0#8])))

/-- On a free link: HALT makes the manager HALTED, whatever it was, and RESUME makes it RUNNING; the reply is OK with
the resulting state. In the state it names an action changes nothing. RESUME of a HALTED manager with no QUEUED
order bound to a present mount changes nothing but the manager state (the selection it makes otherwise is in
SelectionStartsTheRun). (R18, R19) -/
def Obligations.QueueControlHaltsAndResumes : Prop :=
  ∀ (dt : Nat) (tag : Byte) (s : State), s.LinkFree →
    exec (.queueControlHalt dt tag []) s = .next
        (({ s with manager := { s.manager with state := .halted } } : State).answered dt ⟨0x10#8, tag, [0#8]⟩ (.ok [1#8]))
      ∧ (s.manager.state = .running ∨
          (∀ o ∈ s.manager.table, o.state = .queued → s.panel.mountPresent = true → o.mount ≠ s.panel.mountCounter) →
        exec (.queueControlResume dt tag []) s = .next
          (({ s with manager := { s.manager with state := .running } } : State).answered dt ⟨0x10#8, tag, [1#8]⟩
            (.ok [0#8])))

/-- On a free link. FEED of n rows: n = 0 is refused FIELD_RANGE 2, else a printer not IDLE STATE 1, else paper OUT
STATE 2, else the printer is FEEDING n rows for the HOST and the reply is OK. REPRINT (its value byte v not
examined): no last-printed copy is refused NOT_FOUND 0, else 8 slips queued TABLE_FULL 0, else a copy with its
reprint mark set joins the newest end and the reply is OK with its order number; with the printer IDLE and the paper
PRESENT printing begins. Nothing else changes. (R181, R186, R187, R188) -/
def Obligations.SlipFeedAndReprint : Prop :=
  ∀ (dt : Nat) (tag v : Byte) (s : State), s.LinkFree →
    let feed := exec (.slipControlFeed dt tag [v]) s
    let rf : Request := ⟨0x12#8, tag, [1#8, v]⟩
    let reprint := exec (.slipControlReprint dt tag [v]) s
    let rr : Request := ⟨0x12#8, tag, [2#8, v]⟩
    let u := s.slips
    (v = 0#8 → feed = .next (s.answered dt rf (.refused .fieldRange 2)))
      ∧ (v ≠ 0#8 → u.printer ≠ .idle → feed = .next (s.answered dt rf (.refused .state 1)))
      ∧ (v ≠ 0#8 → u.printer = .idle → u.paper = .out → feed = .next (s.answered dt rf (.refused .state 2)))
      ∧ (v ≠ 0#8 → u.printer = .idle → u.paper = .present →
          feed = .next
            (({ s with slips := { u with printer := .feeding .host v.toNat (s.now + dt) } } : State).answered dt rf
              (.ok [])))
      ∧ (u.lastPrinted = none → reprint = .next (s.answered dt rr (.refused .notFound 0)))
      ∧ (∀ sl, u.lastPrinted = some sl → u.queue.length = 8 →
          reprint = .next (s.answered dt rr (.refused .tableFull 0)))
      ∧ (∀ sl, u.lastPrinted = some sl → u.queue.length < 8 →
          reprint = .next
            (({ s with
                slips :=
                  { u with
                    queue := u.queue ++ [{ sl with reprint := true }]
                    printer :=
                      if u.printer = .idle ∧ u.paper = .present then .printing false 0 (s.now + dt) else u.printer } }
              : State).answered dt rr (.ok (u16 sl.order))))

/-- On a free link. An option above 1 is refused FIELD_RANGE 1 and nothing is restarted. With option k of 0 or 1 and the
line IDLE: the notice queue, the order table, the run, calibration and scan records, the store and the slip queue
are emptied, the manager is RUNNING, the printer IDLE without a last-printed copy; every lamp request and the dark
hold are withdrawn and a lit lamp gets its lamp-idle timer; the carriage returns from ADVANCING and homes afresh
from FAULT, either ending at once in HOME with the home switch closed; a turning drum keeps turning under spin hold
with k = 1 and else enters SPINNING_DOWN, as from CALIBRATING and FAULT; the reply is OK with k. Settings, clock,
directory, calibration record, panel, paper, next number, flags and receiver stay. The model's choices, not the
rules' words: a lamp-idle timer that already runs goes on, what is kept where no rule says so, and the reply made in
the same step (log entries 22 and 4); the level of the home switch (log entry 28). (R27, R60, R83, R88, R93, R98,
R127, R149, R173, R190, R201) -/
def Obligations.RestartEmptiesThePart : Prop :=
  ∀ (dt : Nat) (tag k : Byte) (s : State), s.LinkFree →
    let now := s.now + dt
    let r : Request := ⟨0x13#8, tag, [k]⟩
    let d := s.drum
    let down : Drum :=
      { d with
        state := .spinningDown, target := 0, dff := none, drive := 0, integral := 0, brake := true, clip := false
        trim := .none, noLock := false, spinUpTimer := none, stallTimer := none, spinHoldTimer := none
        quietTimer := some (now + 2000000) }
    let drum : Drum :=
      if d.state = .calibrating ∨ d.state = .fault then down
      else if d.state = .stopped ∨ d.state = .spinningDown then { d with trim := .none, spinHoldTimer := none }
      else if k = 1#8 then { d with trim := .none, spinHoldTimer := some (now + s.settings.spinHold * 1000000) }
      else down
    let carriage : Carriage :=
      if s.carriage.homeClosed = true ∧ (s.carriage.state = .advancing ∨ s.carriage.state = .fault) then
        { s.carriage with
          state := .home, position := some 0, stepsTaken := 0, target := none, stepAt := none, waitingMove := none }
      else if s.carriage.state = .advancing then
        { s.carriage with state := .returning, stepsTaken := 0, target := none, stepAt := some now, waitingMove := none }
      else if s.carriage.state = .fault then
        { s.carriage with
          state := .homing, position := none, stepsTaken := 0, target := none, stepAt := some now, waitingMove := none }
      else { s.carriage with waitingMove := none }
    (1 < k.toNat → exec (.restart dt tag [k]) s = .next (s.answered dt r (.refused .fieldRange 1)))
      ∧ (k.toNat ≤ 1 → s.line.state = .idle →
        exec (.restart dt tag [k]) s = .next
          (({ s with
              link := { s.link with notices := [] }
              manager := { s.manager with table := [], state := .running, assemblyTimer := none }
              run := none
              cal := none
              scan := none
              store := { slots := [], isOpen := false, figures := none, lastOut := none }
              drum := drum
              carriage := carriage
              lamp :=
                { s.lamp with
                  prewarm := false, runReq := false, calReq := false, darkHold := false
                  idleTimer :=
                    if s.lamp.state ≠ .off ∧ s.lamp.idleTimer = none then
                      some (now + s.settings.lampIdle * 1000000)
                    else s.lamp.idleTimer }
              slips := { s.slips with queue := [], lastPrinted := none, printer := .idle } } : State).answered dt r
            (.ok [k])))

/-- On a free link with the line SEIZED, RESTART with option 0 or 1 releases the line: RELEASING, the loop open,
silence, its timers stopped, 300 ms to IDLE; the request stays held, no reply is made yet, and the table and notices
are emptied. RELEASE_CLEARED with the line RELEASING by a RESTART, the 300 ms passed and that reply awaited, on a
transmitter that is free: the line is IDLE with its figures cleared, and the reply OK with the option is made and
sent; no LINE_EVENT and no report: nothing else changes. That neither the notice nor the report follows such a
release, and that the reply is made and sent at that very moment, is the model's choice (log entries 22 and 4).
(R131, R149, R195, R201) -/
def Obligations.RestartWaitsForTheLine : Prop :=
  ∀ (dt : Nat) (s : State),
    let now := s.now + dt
    (∀ (tag k : Byte), s.LinkFree → k.toNat ≤ 1 → s.line.state = .seized →
        ∃ t, exec (.restart dt tag [k]) s = .next t
          ∧ t.line =
            { s.line with
              state := .releasing, loopClosed := false, activity := none, signal := .silent, listenFor := none
              loopTimer := none, holdAt := none, timer := none, sent := none, releaseAt := some (now + 300000)
              releaseCause := .restart }
          ∧ t.link =
            { s.link with holding := [⟨0x13#8, tag, [k]⟩], notices := [], restart := some (k == 1#8) }
          ∧ t.manager.table = [] ∧ t.run = none ∧ t.slips.queue = [] ∧ t.now = now)
      ∧ (∀ (r : Request) (keep : Bool) (e : Nat), s.line.state = .releasing → s.line.releaseCause = .restart →
        s.line.releaseAt = some e → e ≤ now → s.link.restart = some keep → s.link.holding = [r] → s.link.tx = none →
        s.link.replySlot = none →
        exec (.releaseCleared dt) s = .next
          { s with
            now := now
            line :=
              { s.line with
                state := .idle, activity := none, signal := .silent, network := none, figures := none, callCode := none
                dialDigits := [], lastListenEnd := none, lastSignalEnd := none, releaseAt := none
                lastRequest := none }
            link :=
              { s.link with
                restart := none
                tx := some ⟨Reply.frame r (.ok [if keep then 1#8 else 0#8]), true, now⟩ } })

/-- With the door CLOSED, for DOOR_OPEN, and for CLAMP_RELEASE with the clamp ENGAGED. In every state: a next state in
which the drive is 0, the brake applied, the spin-hold timer stopped, a drum that turned or calibrated is in
SPINNING_DOWN and any other keeps its state, no calibration run is in progress, the mount is absent with M kept, and
the settings, directory, clock, calibration record, curve, encoder and queue are as before. With no run record, no
calibration run, no pre-warm request and no QUEUED order bound to M, exactly: the panel and the drum change so, and
the DRUM_EVENT STATE (when the state changed) and the PANEL_EVENT are placed in that order. (R39, R50, R51, R56,
R57, R73) -/
def Obligations.InterlockStopsTheDrum : Prop :=
  ∀ (dt : Nat) (s : State) (c : Instr) (input : PanelInput) (level : Nat) (panel : Panel), s.panel.door = .closed →
    (c = .doorOpen dt ∧ input = .door ∧ level = 1 ∧ panel = { s.panel with door := .opened, mountPresent := false }
      ∨ c = .clampRelease dt ∧ s.panel.clamp = .engaged ∧ input = .clamp ∧ level = 1
        ∧ panel = { s.panel with clamp := .released, mountPresent := false }) →
    let now := s.now + dt
    let turns := s.drum.state = .spinningUp ∨ s.drum.state = .locked ∨ s.drum.state = .drift
      ∨ s.drum.state = .calibrating
    let down : Drum :=
      { s.drum with
        state := .spinningDown, target := 0, dff := none, drive := 0, integral := 0, brake := true, clip := false
        trim := .none, noLock := false, spinUpTimer := none, stallTimer := none, spinHoldTimer := none
        quietTimer := some (now + 2000000) }
    let notice : Notice := .panel input (some level) s.panel.mountCounter false
    (∃ t, exec c s = .next t
        ∧ t.drum.drive = 0 ∧ t.drum.brake = true ∧ t.drum.spinHoldTimer = none
        ∧ (turns → t.drum.state = .spinningDown) ∧ (¬turns → t.drum.state = s.drum.state)
        ∧ t.cal = none ∧ t.panel = panel
        ∧ t.settings = s.settings ∧ t.directory = s.directory ∧ t.clock = s.clock ∧ t.motor = s.motor
        ∧ t.scanPart = s.scanPart ∧ t.curve = s.curve ∧ t.encoder = s.encoder ∧ t.pending = s.pending ∧ t.now = now)
      ∧ (s.run = none → s.cal = none → s.lamp.prewarm = false →
        (∀ o ∈ s.manager.table, o.state = .queued → o.mount ≠ s.panel.mountCounter) →
        (turns → exec c s = .next
            { s with
              now := now
              panel := panel
              drum := down
              link := (s.link.place now (.drum .state .spinningDown 0 0 (s.drum.period.getD 0) false)).place now notice })
          ∧ (¬turns → exec c s = .next
            { s with
              now := now
              panel := panel
              drum := { s.drum with drive := 0, brake := true, spinHoldTimer := none }
              link := s.link.place now notice }))

/-- DOOR_OPEN with the door CLOSED and a mount present, slip mode ON and 8 slips queued, in every state, with or without
a run, whose table and run record belong together (NumberInv and RunInv, which every step keeps): every order that
was QUEUED and bound to M stands in the table FINISHED with MOUNT_GONE, no destination of it PENDING, and every
order that was QUEUED and bound to another mount, ASSEMBLING or FINISHED stands in the table unchanged. (R3, R7,
R10, R11, R51) -/
def Obligations.MountEndFinishesItsOrders : Prop :=
  ∀ (dt : Nat) (s : State), s.panel.door = .closed → s.panel.mountPresent = true → s.NumberInv → s.RunInv →
    s.settings.slipMode = true → s.slips.queue.length = 8 →
    ∃ t, exec (.doorOpen dt) s = .next t
      ∧ (∀ o ∈ s.manager.table, o.state = .queued → o.mount = s.panel.mountCounter →
          ∃ q ∈ t.manager.table, q.number = o.number ∧ q.state = .finished ∧ q.result = some .mountGone
            ∧ (∀ x ∈ q.dests, x.result ≠ .pending) ∧ q.ended = s.todNow)
      ∧ (∀ o ∈ s.manager.table, o.state = .queued ∧ o.mount ≠ s.panel.mountCounter ∨ o.state = .assembling
          ∨ o.state = .finished → o ∈ t.manager.table)

/-- DOOR_CLOSE with the door OPEN and CLAMP_ENGAGE with the clamp RELEASED. When the other of door CLOSED and clamp
ENGAGED does not hold, or a mount is present: the input takes its level and a PANEL_EVENT is placed, nothing else.
When it holds and no mount is present, no pre-warm request stands and no QUEUED order is bound to the mount that
starts: M steps up by one (1 after 65535), the mount is present, and the PANEL_EVENT carries both. With a QUEUED
order bound to the mount that starts, the manager HALTED, no run record and the lamp OFF without a dark hold or a
pre-warm request: the same, and the pre-warm request is made and the lamp warms, 45 s when cold and else 8 s (the
selection of a waiting order under a RUNNING manager is in SelectionStartsTheRun). The PANEL_EVENT after the orders'
part is log entry 14. (R10, R12, R51, R57, R84, R85) -/
def Obligations.MountStarts : Prop :=
  ∀ (dt : Nat) (s : State) (c : Instr) (input : PanelInput) (panel : Panel) (other : Prop),
    (c = .doorClose dt ∧ s.panel.door = .opened ∧ input = .door ∧ panel = { s.panel with door := .closed }
        ∧ other = (s.panel.clamp = .engaged)
      ∨ c = .clampEngage dt ∧ s.panel.clamp = .released ∧ input = .clamp
        ∧ panel = { s.panel with clamp := .engaged } ∧ other = (s.panel.door = .closed)) →
    let now := s.now + dt
    let M := if s.panel.mountCounter < 65535 then s.panel.mountCounter + 1 else 1
    (¬other ∨ s.panel.mountPresent = true →
        exec c s = .next
          { s with
            now := now
            panel := panel
            link := s.link.place now (.panel input (some 0) s.panel.mountCounter s.panel.mountPresent) })
      ∧ (other → s.panel.mountPresent = false → s.lamp.prewarm = false →
        (∀ o ∈ s.manager.table, o.state = .queued → o.mount ≠ M) →
        exec c s = .next
          { s with
            now := now
            panel := { panel with mountCounter := M, mountPresent := true }
            link := s.link.place now (.panel input (some 0) M true) })
      ∧ (other → s.panel.mountPresent = false → s.lamp.prewarm = false → s.manager.state = .halted → s.run = none →
        s.lamp.state = .off → s.lamp.darkHold = false → (∃ o ∈ s.manager.table, o.state = .queued ∧ o.mount = M) →
        let cold := s.lamp.offTime = none ∨ ∃ t, s.lamp.offTime = some t ∧ t + 600000000 ≤ now
        exec c s = .next
          { s with
            now := now
            panel := { panel with mountCounter := M, mountPresent := true }
            lamp :=
              { s.lamp with
                prewarm := true, idleTimer := none, state := .warming
                warmTimer := some (now + if cold then 45000000 else 8000000) }
            link := s.link.place now (.panel input (some 0) M true) })

/-- STOP_KEY in every state: a next state in which the manager is HALTED, no calibration run is in progress, a drum that
turned or calibrated is in SPINNING_DOWN with drive 0 and any other keeps its state, and the panel, settings,
directory, clock, calibration record, curve and encoder are as before. With no run record and no calibration run,
exactly: the manager is HALTED, the drum so, and the DRUM_EVENT STATE (when the state changed) and then the
PANEL_EVENT STOP are placed; FAULT is kept. That the DRUM_EVENT comes before the PANEL_EVENT is the model's choice
(log entry 14): R52 and R57 give no order of the two. (R20, R39, R52, R57, R73, R167) -/
def Obligations.StopKeyHaltsAndSpinsDown : Prop :=
  ∀ (dt : Nat) (s : State),
    let now := s.now + dt
    let turns := s.drum.state = .spinningUp ∨ s.drum.state = .locked ∨ s.drum.state = .drift
      ∨ s.drum.state = .calibrating
    let down : Drum :=
      { s.drum with
        state := .spinningDown, target := 0, dff := none, drive := 0, integral := 0, brake := true, clip := false
        trim := .none, noLock := false, spinUpTimer := none, stallTimer := none, spinHoldTimer := none
        quietTimer := some (now + 2000000) }
    let notice : Notice := .panel .stop none s.panel.mountCounter s.panel.mountPresent
    (∃ t, exec (.stopKey dt) s = .next t
        ∧ t.manager.state = .halted ∧ t.cal = none
        ∧ (turns → t.drum.state = .spinningDown ∧ t.drum.drive = 0) ∧ (¬turns → t.drum.state = s.drum.state)
        ∧ t.panel = s.panel ∧ t.settings = s.settings ∧ t.directory = s.directory ∧ t.clock = s.clock
        ∧ t.motor = s.motor ∧ t.scanPart = s.scanPart ∧ t.curve = s.curve ∧ t.encoder = s.encoder
        ∧ t.pending = s.pending ∧ t.now = now)
      ∧ (s.run = none → s.cal = none →
        (turns → exec (.stopKey dt) s = .next
            { s with
              now := now
              manager := { s.manager with state := .halted }
              drum := down
              link := (s.link.place now (.drum .state .spinningDown 0 0 (s.drum.period.getD 0) false)).place now notice })
          ∧ (¬turns → exec (.stopKey dt) s = .next
            { s with now := now, manager := { s.manager with state := .halted }, link := s.link.place now notice }))

/-- On a free link with distinct order numbers, the manager HALTED, no order running, no run record, no calibration run,
the carriage not in FAULT and the line IDLE, o being the first URGENT order QUEUED on the present mount, or, with
none, the first such ROUTINE one; the door CLOSED, the drum LOCKED at o's speed without a no-lock condition, the
motor part valid and the speed feasible. RESUME: the manager is RUNNING; o is PREPARING with its started time
stamped, its queue duration ended and its prepare duration running, every other order unchanged; the run record is
o's, at destination 1, attempt 1; the store is open and empty with o's figures; the RUN lamp request stands; the
line is SEIZED for o on its network, calling destination 1 (LOOP) or watching for dial tone (DIAL); the drum is
unchanged. The order in which a run's starting actions are taken is the model's choice (log entry 17). (R12, R18,
R24, R38, R84, R117, R130, R150, R151) -/
def Obligations.SelectionStartsTheRun : Prop :=
  ∀ (dt : Nat) (tag : Byte) (s : State) (o : Order), s.LinkFree → s.NumberInv → s.manager.state = .halted →
    s.runningOrder = none → s.run = none → s.cal = none → s.carriage.state ≠ .fault → s.line.state = .idle →
    s.panel.mountPresent = true →
    let waits (x : Order) := x.state == .queued && x.mount == s.panel.mountCounter
    (s.manager.table.find? (fun x => waits x && x.header.cls == 0) = some o
      ∨ s.manager.table.find? (fun x => waits x && x.header.cls == 0) = none ∧ s.manager.table.find? waits = some o) →
    s.panel.door = .closed → s.drum.state = .locked → s.drum.target = o.header.speed → s.drum.noLock = false →
    s.motor.valid = true → feasible s.motor o.header.speed = true →
    ∃ t r, exec (.queueControlResume dt tag []) s = .next t
      ∧ t.manager.state = .running
      ∧ t.manager.table = s.manager.table.map (fun x =>
          if x.number = o.number then
            { x with
              state := .preparing
              started := s.todNow
              queue := x.queue.stop (s.now + dt)
              prepare := .running (s.now + dt) }
          else x)
      ∧ t.run = some r ∧ r.order = o.number ∧ r.speed = o.header.speed ∧ r.lines = o.lines ∧ r.network = o.network
      ∧ r.index = 1 ∧ r.used = 1 ∧ r.rollEnded = false ∧ r.startMade = false ∧ r.abort = none ∧ r.drumReady = true
      ∧ r.stations = o.dests.map Dest.station
      ∧ t.store = ⟨[], true, some ⟨o.number, o.header.samples, o.lines⟩, none⟩
      ∧ t.lamp.runReq = true
      ∧ t.line.state = .seized ∧ t.line.loopClosed = true ∧ t.line.orderNumber = o.number
      ∧ t.line.network = some o.network
      ∧ (o.network = .loop → t.line.activity = some .calling
          ∧ t.line.callCode = some (s.callCodeOf (o.stationAt 1)) ∧ t.line.signal = .sounding (s.now + dt))
      ∧ (o.network = .dial → t.line.activity = some .dialing ∧ t.line.dialDigits = s.digitsOf (o.stationAt 1)
          ∧ t.line.signal = .dialTone (s.now + dt))
      ∧ t.drum = s.drum ∧ t.panel = s.panel ∧ t.carriage = s.carriage ∧ t.slips = s.slips ∧ t.directory = s.directory
      ∧ t.settings = s.settings ∧ t.link.holding = [⟨0x10#8, tag, [1#8]⟩]

/-- The pulse measures: the period since the last pulse if that is less than 3 s ago, else none; the last index time;
the stall timer restarts while the drive is above 0; the encoder count restarts at 0. In STOPPED and FAULT nothing
else; in SPINNING_DOWN the quiet timer restarts; in CALIBRATING a settling phase or an absent period adds nothing, a
measure phase adds the period, its fourth one ends the phase: MEASURE_LOW sets P1, the drive 3,600 and SETTLE_HIGH
for 3 s; MEASURE_HIGH, with periods above 0, no run and no order QUEUED, ends the run: s1 and s2, the slope check,
SPINNING_DOWN with its DRUM_EVENT, then the CAL_DONE. MOTOR_SETTLE_END, due, begins the measure phase, and before
that only lets time pass. Nothing else changes. For a period of 0 the manual gives no speed (log entry 6). The
model's choices: that MOTOR_SETTLE_END acts only when due (log entry 8), and the encoder count restarting with its
signal high at the pulse (log entry 10). (R37, R39, R41, R47, R48, R56, R71, R74, R75) -/
def Obligations.IndexPulsesOutsideTheLoop : Prop :=
  ∀ (dt : Nat) (r : Sample) (s : State),
    let now := s.now + dt
    let period : Option Nat :=
      match s.drum.lastIndex with
      | some t => if now < t + 3000000 then some (now - t) else none
      | none => none
    let d : Drum :=
      { s.drum with
        period := period
        lastIndex := some now
        stallTimer := if 0 < s.drum.drive then some (now + 3000000) else s.drum.stallTimer }
    let m : State := { s with now := now, drum := d, encoder := ⟨0, true⟩ }
    (s.drum.state = .stopped ∨ s.drum.state = .fault → exec (.indexPulse dt r) s = .next m)
      ∧ (s.drum.state = .spinningDown →
          exec (.indexPulse dt r) s = .next { m with drum := { d with quietTimer := some (now + 2000000) } })
      ∧ (s.drum.state = .calibrating → ∀ c, s.cal = some c →
        (period = none ∨ c.phase = .settleLow ∨ c.phase = .settleHigh → exec (.indexPulse dt r) s = .next m)
          ∧ (∀ P, period = some P → c.phase = .measureLow ∨ c.phase = .measureHigh →
            let sum := c.sums.getD 0 0 + P
            let p2 := (sum + 2) / 4
            (c.used < 3 →
                exec (.indexPulse dt r) s = .next { m with cal := some { c with used := c.used + 1, sums := [sum] } })
              ∧ (c.used = 3 → c.phase = .measureLow →
                exec (.indexPulse dt r) s = .next
                  { m with
                    drum := { d with drive := 3600 }
                    cal := some
                      { c with
                        phase := .settleHigh, p1 := (sum + 2) / 4, settleTimer := some (now + 3000000), sums := [0]
                        used := 0 } })
              ∧ (c.used = 3 → c.phase = .measureHigh → c.kind = .motor → 0 < c.p1 → 0 < p2 → s.run = none →
                (∀ o ∈ s.manager.table, o.state ≠ .queued) →
                let s1 := halfUp 60000000000 c.p1
                let s2 := halfUp 60000000000 p2
                let down : Drum :=
                  { d with
                    state := .spinningDown, target := 0, dff := none, drive := 0, integral := 0, brake := true
                    clip := false, trim := .none, noLock := false, spinUpTimer := none, stallTimer := none
                    spinHoldTimer := none, quietTimer := some (now + 2000000) }
                let stopped := s.link.place now (.drum .state .spinningDown 0 0 P false)
                (s1 + 20000 ≤ s2 → exec (.indexPulse dt r) s = .next
                    { m with
                      drum := down
                      cal := none
                      motor := { s.motor with s1 := s1, s2 := s2, valid := true }
                      link := stopped.place now (.cal .motor .done none 0 (.motor c.p1 p2 s1 s2)) })
                  ∧ (s2 < s1 + 20000 → exec (.indexPulse dt r) s = .next
                    { m with
                      drum := down
                      cal := none
                      link := stopped.place now
                        (.cal .motor .failed (some .slope) (min ((s2 - s1) / 1000) 65535)
                          (.motor c.p1 p2 s1 s2)) }))))
      ∧ (∀ c e, s.cal = some c → c.settleTimer = some e →
        (now < e → exec (.motorSettleEnd dt) s = .next { s with now := now })
          ∧ (e ≤ now → c.phase = .settleLow → exec (.motorSettleEnd dt) s = .next
            { s with
              now := now
              cal := some { c with phase := .measureLow, settleTimer := none, sums := [0], used := 0 } })
          ∧ (e ≤ now → c.phase = .settleHigh → exec (.motorSettleEnd dt) s = .next
            { s with
              now := now
              cal := some { c with phase := .measureHigh, settleTimer := none, sums := [0], used := 0 } }))

/-- In SPINNING_UP, LOCKED or DRIFT, with no run or scan. First, with no calibration run. With the period P absent the
drum only measures. With P: the error e against the target period (moved by the trim amount of a FASTER or SLOWER
request), clamped to 100,000 ppm either way; I gains e · Ki ÷ 1,024 truncated toward zero, clamped to 1,024 either
way; the drive is D_ff plus e · Kp ÷ 256 truncated toward zero plus the new I, clamped to 0..4,095, CLIP set exactly
when it was outside; the stall timer runs exactly when the new drive is above 0; the lock test counts the revolution
against the window on the nominal period: four within reach LOCKED, two outside in LOCKED reach DRIFT. A rise of
CLIP sends a DRUM_EVENT CLIP, then a change of state a DRUM_EVENT STATE. Nothing else changes but the encoder count,
which restarts. Second, a MEASURING DARK, WHITE or STEPS run and no order QUEUED: the drum does the same, and then,
the first revolution begins with the pulse's sample; a revolution that ends is used for DARK when LOCKED or DRIFT at
its first pulse, else when LOCKED after this one on a measured period, joins the sums if used and passes; with n
used (1, 16, 8) the run ends: DARK with the average of 1,024 samples, above 1,023 DARK_HIGH, else the offset and its
marks; WHITE with that of the patch's 512, below o + 512 WHITE_LOW, else W_raw, gain and marks; STEPS with m_i,
NOT_MONOTONIC at the first step below the one before plus 16, else the 17 knots; with n + 16 passed NO_LOCK; each
with its CAL_DONE, what the run held given back, and spin hold. That the encoder count restarts high, and the order
of these effects, is log entry 10. (R41, R42, R43, R45, R47, R54, R56, R72, R76, R77, R80, R81) -/
def Obligations.IndexPulsesRegulateTheDrum : Prop :=
  ∀ (dt : Nat) (r : Sample) (s : State) (dff : Nat),
    s.drum.state = .spinningUp ∨ s.drum.state = .locked ∨ s.drum.state = .drift →
    s.drum.dff = some dff → s.run = none → s.scan = none →
    let now := s.now + dt
    let measured : Drum :=
      { s.drum with
        lastIndex := some now, stallTimer := if 0 < s.drum.drive then some (now + 3000000) else s.drum.stallTimer }
    (s.cal = none → (s.drum.lastIndex = none ∨ ∃ t, s.drum.lastIndex = some t ∧ t + 3000000 ≤ now) →
        exec (.indexPulse dt r) s = .next
          { s with now := now, drum := { measured with period := none }, encoder := ⟨0, true⟩ })
      ∧ (s.cal = none → ∀ last, s.drum.lastIndex = some last → now < last + 3000000 →
        let P : Nat := now - last
        let T : Nat := halfUp 60000000 s.drum.target
        let amount : Nat := (T * s.settings.trim + 500000) / 1000000
        let aim : Nat := match s.drum.trim with | .none => T | .faster => T - amount | .slower => T + amount
        let e := clamp (-100000) 100000 (halfAway (((P : Int) - aim) * 1000000) aim)
        let I := clamp (-1024) 1024 (s.drum.integral + truncZero (e * s.motor.ki) 1024)
        let u : Int := dff + truncZero (e * s.motor.kp) 256 + I
        let D := (clamp 0 4095 u).toNat
        let clip := decide (u < 0 ∨ 4095 < u)
        let within := halfUp (((P : Int) - T).natAbs * 1000000) T ≤ s.settings.lockWindow
        let looped : Drum :=
          { measured with
            period := some P, integral := I, drive := D, clip := clip
            stallTimer := if D = 0 then none else some (now + 3000000) }
        let drum : Drum :=
          if s.drum.state = .locked then
            if within then { looped with outCount := 0 }
            else if s.drum.outCount = 1 then { looped with state := .drift, inCount := 0, outCount := 0 }
            else { looped with outCount := s.drum.outCount + 1 }
          else if within then
            if s.drum.inCount = 3 then
              { looped with state := .locked, inCount := 0, outCount := 0, spinUpTimer := none, noLock := false }
            else { looped with inCount := s.drum.inCount + 1 }
          else { looped with inCount := 0 }
        let clipped :=
          if clip = true ∧ s.drum.clip = false then
            s.link.place now (.drum .clip s.drum.state s.drum.target D P true)
          else s.link
        let link :=
          if drum.state ≠ s.drum.state then clipped.place now (.drum .state drum.state s.drum.target D P clip)
          else clipped
        exec (.indexPulse dt r) s = .next { s with now := now, drum := drum, link := link, encoder := ⟨0, true⟩ })
      ∧ (∀ c, s.cal = some c → c.kind ≠ .motor → c.phase = .measuring → (∀ o ∈ s.manager.table, o.state ≠ .queued) →
        s.lamp.prewarm = false → s.lamp.runReq = false →
        (c.kind = .dark → s.lamp.calReq = false) → (c.kind ≠ .dark → s.lamp.calReq = true ∧ s.lamp.state ≠ .off) →
        (s.carriage.state = .advancing → s.carriage.homeClosed = false) →
        ∃ u, exec (.indexPulse dt r) { s with cal := none } = .next u
          ∧ (let pulse := exec (.indexPulse dt r) s
            let n := match c.kind with | .dark => 1 | .white => 16 | _ => 8
            let begun (k : CalRun) : State :=
              { u with
                cal := some
                  { k with
                    revBegun := true, samples := [r.toNat]
                    eligible := u.drum.state == .locked || u.drum.state == .drift } }
            let raw := c.samples.take 1024 ++ List.replicate (1024 - c.samples.length) (c.samples.getLastD 0)
            let revolution : List Nat :=
              match c.kind with
              | .dark => [raw.sum]
              | .white => [(raw.take 32).sum]
              | _ => c.steps.map fun st =>
                (((raw.drop st.first).take (st.last + 1 - st.first)).map fun x =>
                  min (((x - c.offset) * c.gain + 2048) / 4096) 4095).sum
            let sums := List.zipWith (· + ·) c.sums revolution
            let used : Prop :=
              if c.kind = .dark then c.eligible = true else u.drum.period.isSome = true ∧ u.drum.state = .locked
            let ended (o : CalOutcome) (f : Option CalFailure) (number : Nat) (figures : CalFigures) : State :=
              { u with
                cal := none
                link := u.link.place now (.cal c.kind o f number figures)
                drum := { u.drum with spinHoldTimer := some (now + s.settings.spinHold * 1000000) }
                lamp :=
                  if c.kind = .dark then { s.lamp with darkHold := false }
                  else { s.lamp with calReq := false, idleTimer := some (now + s.settings.lampIdle * 1000000) }
                carriage :=
                  if c.kind ≠ .steps then s.carriage
                  else if s.carriage.state = .advancing then
                    { s.carriage with
                      state := .returning, stepsTaken := 0, target := none, stepAt := some now, waitingMove := none }
                  else { s.carriage with waitingMove := none } }
            (c.revBegun = false → pulse = .next (begun c))
              ∧ (c.revBegun = true →
                (used → c.used + 1 < n → c.passed + 1 < n + 16 →
                    pulse = .next (begun { c with passed := c.passed + 1, used := c.used + 1, sums := sums }))
                  ∧ (¬used → c.used < n → c.passed + 1 < n + 16 →
                    pulse = .next (begun { c with passed := c.passed + 1 }))
                  ∧ ((used ∧ c.used + 1 < n ∨ ¬used ∧ c.used < n) → n + 16 ≤ c.passed + 1 →
                    pulse = .next
                      (ended .failed (some .noLock) 0
                        (match c.kind with
                          | .dark => .dark 0
                          | .white => .white 0 0
                          | _ => .steps c.steps.length (c.steps.map fun _ => 0))))
                  ∧ (c.kind = .dark → used → c.used = 0 →
                    let avg := (sums.getD 0 0 + 512) / 1024
                    (1023 < avg → pulse = .next (ended .failed (some .darkHigh) avg (.dark avg)))
                      ∧ (avg ≤ 1023 → pulse = .next
                        { ended .done none 0 (.dark avg) with
                          scanPart :=
                            { s.scanPart with offset := avg, darkMark := true, whiteMark := false, valid := false } }))
                  ∧ (c.kind = .white → used → c.used = 15 →
                    let w := (sums.getD 0 0 + 256) / 512
                    let above := w - s.scanPart.offset
                    let g := (4095 * 4096 + above / 2) / above
                    (w < s.scanPart.offset + 512 → pulse = .next (ended .failed (some .whiteLow) w (.white w 0)))
                      ∧ (s.scanPart.offset + 512 ≤ w → pulse = .next
                        { ended .done none 0 (.white w g) with
                          scanPart :=
                            { s.scanPart with
                              wRaw := w, gain := g, whiteMark := true
                              valid := s.scanPart.valid || s.scanPart.darkMark } }))
                  ∧ (c.kind = .steps → used → c.used = 7 → c.sums.length = c.steps.length →
                    let count (st : TabletStep) := 8 * (st.last + 1 - st.first)
                    let m := List.zipWith (fun sum st => (sum + count st / 2) / count st) sums c.steps
                    let figures := CalFigures.steps c.steps.length m
                    (∀ i x y, m[i]? = some x → m[i + 1]? = some y → y < x + 16 →
                        (∀ j x y, j < i → m[j]? = some x → m[j + 1]? = some y → x + 16 ≤ y) →
                        pulse = .next (ended .failed (some .notMonotonic) (i + 2) figures))
                      ∧ ((∀ j x y, m[j]? = some x → m[j + 1]? = some y → x + 16 ≤ y) →
                        ∃ curve : List Nat,
                          pulse = .next { ended .done none 0 figures with curve := curve }
                            ∧ curve.length = 17
                            ∧ (∀ k, k < 17 → ∀ m1 mc a b, m.head? = some m1 → m.getLast? = some mc →
                              c.steps.head? = some a → c.steps.getLast? = some b →
                              (256 * k < m1 → curve[k]? = some a.target)
                                ∧ (mc < 256 * k → curve[k]? = some b.target)
                                ∧ (∀ i x y p q, m[i]? = some x → m[i + 1]? = some y → x ≤ 256 * k → 256 * k ≤ y →
                                  (∀ j z, j < i → m[j + 1]? = some z → z < 256 * k) →
                                  c.steps[i]? = some p → c.steps[i + 1]? = some q →
                                  curve[k]? = some
                                    (clamp 0 4095 ((p.target : Int) +
                                      halfAway (((q.target : Int) - p.target) * (256 * k - x : Nat)) (y - x))).toNat)))))))

/-- An edge that repeats the level of the count signal only lets time pass. A rising edge steps the count up, a falling
one leaves it. With c the count then, the next position p of a revolution in progress takes the sample exactly when
p lies below S and the edge is p's: at S = 512 the rising edge of count 2p, at 1,024 the rising edge of count p, at
2,048 the rising edge of count p ÷ 2 for even p and the falling edge of count (p − 1) ÷ 2 for odd p; a calibration
measurement samples at 1,024. Nothing else changes. That an edge which repeats the level does nothing, and that
samples are taken only at the next position in order, is the model's choice (log entry 12): R94 says neither. (R94) -/
def Obligations.EncoderEdgesTakeSamples : Prop :=
  ∀ (dt : Nat) (edge : Edge) (r : Sample) (s : State),
    let now := s.now + dt
    let c := if edge = .rising then s.encoder.count + 1 else s.encoder.count
    let its (S p : Nat) : Bool := decide (p < S ∧
      (edge = .rising ∧ (S = 512 ∧ c = 2 * p ∨ S = 1024 ∧ c = p ∨ S = 2048 ∧ p % 2 = 0 ∧ c = p / 2)
        ∨ edge = .falling ∧ S = 2048 ∧ p % 2 = 1 ∧ c = (p - 1) / 2))
    let taken (S : Nat) (l : List Nat) : List Nat := if its S l.length then l ++ [r.toNat] else l
    (∀ sc, s.scan = some sc → sc.samplesPerLine = 512 ∨ sc.samplesPerLine = 1024 ∨ sc.samplesPerLine = 2048) →
    ((s.encoder.high = true ↔ edge = .rising) →
        exec (.encoderCount dt edge r) s = .next { s with now := now })
      ∧ ((s.encoder.high = true ↔ edge = .falling) →
        exec (.encoderCount dt edge r) s = .next
          { s with
            now := now
            encoder := ⟨c, edge == .rising⟩
            scan := s.scan.map fun sc =>
              if sc.inRevolution then { sc with samples := taken sc.samplesPerLine sc.samples } else sc
            cal := s.cal.map fun k => if k.revBegun then { k with samples := taken 1024 k.samples } else k })

/-- With no run record and no calibration run, each timer due. Spin-up limit in SPINNING_UP: the no-lock condition is
set, DRUM_EVENT NO_LOCK; the drum goes on. Stall: FAULT with the drive 0, the brake applied, target 0, D_ff none,
trim NONE, the other timers stopped, no-lock cleared, DRUM_EVENT STALL. Quiet timer in SPINNING_DOWN: STOPPED,
DRUM_EVENT STATE. Spin hold: with an order running, or in no turning state, the timer only stops; otherwise
SPINNING_DOWN as by a stop request, DRUM_EVENT STATE. A timer that is stopped or not yet due: only time passes,
which is the model's choice (log entry 8). Nothing else changes. With a run record: RunsAreAborted. (R37, R39, R46,
R47, R53, R56) -/
def Obligations.DrumTimersRunOut : Prop :=
  ∀ (dt : Nat) (s : State),
    let now := s.now + dt
    let d := s.drum
    let at' (t : Option Nat) := ∃ e, t = some e ∧ e ≤ now
    let period := d.period.getD 0
    (s.run = none → s.cal = none → at' d.spinUpTimer → d.state = .spinningUp →
        exec (.spinUpLimitExpiry dt) s = .next
          { s with
            now := now
            drum := { d with noLock := true, spinUpTimer := none }
            link := s.link.place now (.drum .noLock .spinningUp d.target d.drive period d.clip) })
      ∧ (s.run = none → s.cal = none → at' d.stallTimer →
        exec (.stall dt) s = .next
          { s with
            now := now
            drum :=
              { d with
                state := .fault, target := 0, dff := none, drive := 0, brake := true, trim := .none, noLock := false
                spinUpTimer := none, stallTimer := none, quietTimer := none, spinHoldTimer := none }
            link := s.link.place now (.drum .stall .fault 0 0 period d.clip) })
      ∧ (s.run = none → s.cal = none → at' d.quietTimer → d.state = .spinningDown →
        exec (.quietTimerExpiry dt) s = .next
          { s with
            now := now
            drum := { d with state := .stopped, drive := 0, brake := true, quietTimer := none }
            link := s.link.place now (.drum .state .stopped d.target 0 period d.clip) })
      ∧ (at' d.spinHoldTimer →
        (s.runningOrder ≠ none ∨ d.state ≠ .spinningUp ∧ d.state ≠ .locked ∧ d.state ≠ .drift →
            exec (.spinHoldExpiry dt) s = .next { s with now := now, drum := { d with spinHoldTimer := none } })
          ∧ (s.runningOrder = none → d.state = .spinningUp ∨ d.state = .locked ∨ d.state = .drift → s.run = none →
            s.cal = none → exec (.spinHoldExpiry dt) s = .next
              { s with
                now := now
                drum :=
                  { d with
                    state := .spinningDown, target := 0, dff := none, drive := 0, integral := 0, brake := true
                    clip := false, trim := .none, noLock := false, spinUpTimer := none, stallTimer := none
                    spinHoldTimer := none, quietTimer := some (now + 2000000) }
                link := s.link.place now (.drum .state .spinningDown 0 0 period false) }))
      ∧ (¬at' d.spinUpTimer → exec (.spinUpLimitExpiry dt) s = .next { s with now := now })
      ∧ (¬at' d.stallTimer → exec (.stall dt) s = .next { s with now := now })
      ∧ (¬at' d.quietTimer → exec (.quietTimerExpiry dt) s = .next { s with now := now })
      ∧ (¬at' d.spinHoldTimer → exec (.spinHoldExpiry dt) s = .next { s with now := now })

/-- In a turning state with a run without an abort cause whose order is PHASING or SENDING, fewer than seven revolutions
of drift, and no calibration run. A scan whose first revolution has not begun begins it with the lamp READY, and
otherwise waits. In a revolution of a scan, w being the average of the white patch less the dark offset: the low
count steps up for w below 256 and else becomes 0; with tracking ON the sixteenth w makes the average, which sets
gain and reference when it is 512 or more; the line carries its number, DRIFT unless the drum is LOCKED after this
pulse on a measured period and the revolution was not miscounted, LAMP_UNSTEADY and LAMP_WEAK by their tests, and
4,095 in its clamp zone. Open store below 8 lines: the line joins; below L the next line steps up and the carriage
begins the pitch, at L the scan ends and the carriage returns (HOME at once with the home switch closed; that an
outward step opens it is log entry 28). Full store: nothing joins, the carriage stands, one rescan is counted. A
fourth low line: no offer, the scan ends, the run takes LAMP_FAULT, and a picture that sounds gives way to the stop
tone. Settings, curve, calibration record, lamp, panel and slips stay. (R91, R94, R96, R97, R99, R100, R101, R102,
R118, R119, R160) -/
def Obligations.RevolutionsScanLines : Prop :=
  ∀ (dt : Nat) (p : Sample) (s : State) (sc : ScanRecord) (r : RunRecord) (o : Order),
    s.drum.state = .spinningUp ∨ s.drum.state = .locked ∨ s.drum.state = .drift → s.cal = none →
    s.scan = some sc → s.run = some r → s.findOrder r.order = some o → r.abort = none → r.drift < 7 →
    o.state = .phasing ∨ o.state = .sending → r.scanStarted = true → r.scanComplete = false →
    (sc.samplesPerLine = 512 ∨ sc.samplesPerLine = 1024 ∨ sc.samplesPerLine = 2048) → 2 ≤ sc.pitch →
    ∃ t, exec (.indexPulse dt p) s = .next t
      ∧ t.settings = s.settings ∧ t.curve = s.curve ∧ t.scanPart = s.scanPart ∧ t.motor = s.motor ∧ t.lamp = s.lamp
      ∧ t.panel = s.panel ∧ t.slips = s.slips ∧ t.directory = s.directory ∧ t.clock = s.clock ∧ t.cal = none
      ∧ (sc.inRevolution = false →
          t.scan = some (if s.lamp.state = .ready then { sc with inRevolution := true, samples := [p.toNat] } else sc)
            ∧ t.store = s.store ∧ t.carriage = s.carriage ∧ t.line = s.line ∧ t.manager = s.manager)
      ∧ (sc.inRevolution = true →
        let S := sc.samplesPerLine
        let raw := sc.samples.take S ++ List.replicate (S - sc.samples.length) (sc.samples.getLastD 0)
        let w := ((raw.take (S / 32)).sum + S / 32 / 2) / (S / 32) - sc.offset
        let low := if w < 256 then sc.lowCount + 1 else 0
        let avg := (sc.trackSum + w + 8) / 16
        let tracked : ScanRecord :=
          if sc.tracking = false then { sc with lowCount := low, samples := [p.toNat] }
          else if sc.trackCount < 15 then
            { sc with
              lowCount := low, samples := [p.toNat], trackSum := sc.trackSum + w, trackCount := sc.trackCount + 1 }
          else if 512 ≤ avg then
            { sc with
              lowCount := low, samples := [p.toNat], trackSum := 0, trackCount := 0
              gain := (16773120 + avg / 2) / avg, wRef := avg }
          else { sc with lowCount := low, samples := [p.toNat], trackSum := 0, trackCount := 0 }
        (sc.trackCount ≤ 15 → low ≠ 4 → s.store.isOpen = true → s.store.slots.length < 8 →
            ∃ l, t.store = { s.store with slots := s.store.slots ++ [l] }
              ∧ l.number = sc.nextLine
              ∧ (l.drift = false ↔
                  t.drum.period.isSome = true ∧ t.drum.state = .locked ∧ S ≤ sc.samples.length)
              ∧ (l.unsteady = true ↔ sc.wRef < ((w : Int) - sc.wRef).natAbs * 8)
              ∧ (l.weak = true ↔ w < 512)
              ∧ l.values = List.replicate (S / 16) 4095
                  ++ (raw.drop (S / 16)).map (pixel sc.offset sc.gain sc.negative s.curve)
              ∧ t.line = s.line ∧ t.manager = s.manager
              ∧ (sc.nextLine ≠ sc.lines →
                  t.scan = some { tracked with nextLine := sc.nextLine + 1 }
                    ∧ (∀ q, s.carriage.state = .home ∨ s.carriage.state = .advancing →
                        s.carriage.position = some q →
                        t.carriage =
                          { s.carriage with
                            state := .advancing, position := some (q + 1), target := some (q + sc.pitch)
                            stepAt := some (s.now + dt + 2500), homeClosed := false }))
              ∧ (sc.nextLine = sc.lines →
                  t.scan = none
                    ∧ (∃ r', t.run = some r' ∧ r'.scanComplete = true)
                    ∧ (s.carriage.state = .advancing →
                        t.carriage =
                          if s.carriage.homeClosed then
                            { s.carriage with
                              state := .home, position := some 0, stepsTaken := 0, target := none, stepAt := none }
                          else
                            { s.carriage with
                              state := .returning, stepsTaken := 0, target := none, stepAt := some (s.now + dt) })))
          ∧ (sc.trackCount ≤ 15 → low ≠ 4 → s.store.isOpen = true → 8 ≤ s.store.slots.length →
            t.store = s.store ∧ t.carriage = s.carriage ∧ t.line = s.line ∧ t.scan = some tracked
              ∧ t.manager.table = s.manager.table.map (fun x =>
                  if x.number = r.order then
                    { x with
                      counts :=
                        { x.counts with
                          rescans := if x.counts.rescans < 65535 then x.counts.rescans + 1 else x.counts.rescans } }
                  else x))
          ∧ (low = 4 →
            t.scan = none ∧ t.store = ⟨[], false, none, none⟩ ∧ (∃ r', t.run = some r' ∧ r'.abort = some .lampFault)
              ∧ (s.line.state = .seized → s.line.activity = some .picture → (∃ b, s.line.signal = .sounding b) →
                  t.line.activity = some .stopTone ∧ t.line.signal = .sounding (s.now + dt) ∧ t.line.timer = none)))

/-- Warm-up due in WARMING: READY, the warm-up timer stopped; with no run and no calibration run nothing else. With a
run whose roll call has ended with a READY destination, the drum and the carriage ready and no START made, the line
HOLDING in silence with its guard passed, and no calibration run: the START is made at once, the start tone sounds,
the run's defer timer stops and its order enters PHASING. Lamp idle due, no calibration run: OFF, both timers
stopped, the lamp-off time this moment; a run record sees the lamp not ready. DARK_LAMP_SETTLED: a WAITING DARK run
whose lamp has been OFF for 1 s by its lamp-off time, the drum LOCKED or DRIFT, is MEASURING; without a calibration
run, or before that second, only time passes. A timer stopped or not due: only time passes, which is the model's
choice (log entry 8). (R76, R84, R85, R86, R155, R159) -/
def Obligations.LampTimersRunOut : Prop :=
  ∀ (dt : Nat) (s : State),
    let now := s.now + dt
    let ready : Lamp := { s.lamp with state := .ready, warmTimer := none }
    (∀ e, s.lamp.warmTimer = some e → e ≤ now → s.lamp.state = .warming → s.cal = none →
        (s.run = none → exec (.warmUpExpiry dt) s = .next { s with now := now, lamp := ready })
          ∧ (∀ r o, s.run = some r → s.findOrder r.order = some o → o.state = .preparing → r.rollEnded = true →
            (∃ d ∈ o.dests, d.result = .ready) → r.abort = none → r.drumReady = true → r.carriageReady = true →
            r.startMade = false → s.line.state = .seized → s.line.activity = some .holding → s.line.signal = .silent →
            (∀ x, s.line.lastListenEnd = some x → x + 60000 ≤ now) →
            ∃ t, exec (.warmUpExpiry dt) s = .next t
              ∧ t.lamp = ready
              ∧ t.line =
                { s.line with
                  activity := some .startTone, signal := .sounding now, holdAt := none, lastRequest := some .start
                  figures := some ⟨r.modulation, r.speed, r.samples, r.phasing, r.lines⟩ }
              ∧ t.run = some { r with lampReady := true, startMade := true, deferTimer := none, drift := 0 }
              ∧ t.manager.table = s.manager.table.map (fun x =>
                  if x.number = r.order then
                    { x with
                      state := .phasing, prepare := x.prepare.stop now, defer := x.defer.stop now
                      picture := .running now }
                  else x)
              ∧ t.link = s.link.place now (.order o.number o.header.hostRef (.entered .phasing) none)
              ∧ t.drum = s.drum ∧ t.carriage = s.carriage ∧ t.store = s.store ∧ t.scan = s.scan))
      ∧ (∀ e, s.lamp.idleTimer = some e → e ≤ now → s.cal = none →
        exec (.lampIdleExpiry dt) s = .next
          { s with
            now := now
            lamp := { s.lamp with state := .off, warmTimer := none, idleTimer := none, offTime := some now }
            run := s.run.map fun r => { r with lampReady := false } })
      ∧ (∀ c, s.cal = some c → c.kind = .dark → c.phase = .waiting → s.lamp.state = .off →
        s.drum.state = .locked ∨ s.drum.state = .drift →
        ((s.lamp.offTime = none ∨ ∃ x, s.lamp.offTime = some x ∧ x + 1000000 ≤ now) →
            exec (.darkLampSettled dt) s = .next
              { s with
                now := now
                cal := some { c with phase := .measuring, offset := s.scanPart.offset, gain := s.scanPart.gain } })
          ∧ ((∃ x, s.lamp.offTime = some x ∧ now < x + 1000000) →
            exec (.darkLampSettled dt) s = .next { s with now := now }))
      ∧ (s.cal = none → exec (.darkLampSettled dt) s = .next { s with now := now })
      ∧ ((s.lamp.warmTimer = none ∨ ∃ e, s.lamp.warmTimer = some e ∧ now < e) →
        exec (.warmUpExpiry dt) s = .next { s with now := now })
      ∧ ((s.lamp.idleTimer = none ∨ ∃ e, s.lamp.idleTimer = some e ∧ now < e) →
        exec (.lampIdleExpiry dt) s = .next { s with now := now })

/-- A step due. HOMING or RETURNING, below step 5,400: steps taken counts up, a known position counts down and not below
0, the next step is 2.5 ms later. The 5,400th step, by CARRIAGE_STEP or by HOME_SEARCH_LIMIT, with no run and no
calibration run: FAULT, the position unknown, no movement. ADVANCING with a movement in progress: the position
counts up; at the target the movement ends, and a WAITING STEPS run has arrived and measures when the lamp is READY
and the drum LOCKED; else the next step is 2.5 ms later. HOME_SWITCH_CLOSE in HOMING or RETURNING, no run: HOME at
position 0; a STEPS move that waited for a position p of 2 or more begins with its first step. In no home-seeking
movement the switch's closed level is only kept, and HOME_SEARCH_LIMIT lets time pass; so does a step that is not
due. Nothing else changes. The model's choices: the kept level and the outward step that opens the switch (log entry
28), the not-due clauses (log entry 8), and the steps taken kept after HOME (log entry 13). (R80, R89, R90, R91,
R92, R158) -/
def Obligations.TheCarriageMoves : Prop :=
  ∀ (dt : Nat) (s : State),
    let now := s.now + dt
    let c := s.carriage
    let seeking := c.state = .homing ∨ c.state = .returning
    let stepDue := ∃ e, c.stepAt = some e ∧ e ≤ now
    let failed : State :=
      { s with
        now := now
        carriage := { c with state := .fault, position := none, stepsTaken := 5400, target := none, stepAt := none } }
    (seeking → stepDue → c.stepsTaken + 1 < 5400 →
        exec (.carriageStep dt) s = .next
          { s with
            now := now
            carriage :=
              { c with
                stepsTaken := c.stepsTaken + 1, position := c.position.map (· - 1), stepAt := some (now + 2500) } })
      ∧ (seeking → stepDue → c.stepsTaken = 5399 → s.run = none → s.cal = none →
        exec (.carriageStep dt) s = .next failed ∧ exec (.homeSearchLimit dt) s = .next failed)
      ∧ (c.state = .advancing → stepDue → ∀ p q, c.position = some q → c.target = some p →
        (q + 1 ≠ p →
            exec (.carriageStep dt) s = .next
              { s with now := now, carriage :=
                  { c with position := some (q + 1), stepAt := some (now + 2500), homeClosed := false } })
          ∧ (q + 1 = p → (∀ k, s.cal = some k → k.kind = .steps ∧ k.phase = .waiting) →
            let stands : State :=
              { s with
                now := now
                carriage := { c with position := some p, target := none, stepAt := none, homeClosed := false } }
            (s.lamp.state ≠ .ready ∨ s.drum.state ≠ .locked ∨ s.cal = none →
                exec (.carriageStep dt) s = .next
                  { stands with cal := s.cal.map fun k => { k with arrived := true } })
              ∧ (s.lamp.state = .ready → s.drum.state = .locked →
                exec (.carriageStep dt) s = .next
                  { stands with
                    cal := s.cal.map fun k =>
                      { k with
                        arrived := true, phase := .measuring, offset := s.scanPart.offset
                        gain := s.scanPart.gain } })))
      ∧ (seeking → s.run = none →
        (c.waitingMove = none →
            exec (.homeSwitchClose dt) s = .next
              { s with
                now := now
                carriage :=
                  { c with state := .home, position := some 0, target := none, stepAt := none, homeClosed := true } })
          ∧ (∀ p, c.waitingMove = some p → 2 ≤ p →
            exec (.homeSwitchClose dt) s = .next
              { s with
                now := now
                carriage :=
                  { c with
                    state := .advancing, position := some 1, target := some p, stepAt := some (now + 2500)
                    waitingMove := none, homeClosed := false } }))
      ∧ (¬seeking →
        exec (.homeSwitchClose dt) s = .next { s with now := now, carriage := { c with homeClosed := true } }
          ∧ exec (.homeSearchLimit dt) s = .next { s with now := now })
      ∧ (¬stepDue → exec (.carriageStep dt) s = .next { s with now := now }
          ∧ exec (.homeSearchLimit dt) s = .next { s with now := now })

/-- Each when its time has passed; nothing else changes. A call that has lasted 1,120 ms, or dial digits their 160 ms
each: LISTENING, the listen opens 60 ms later. Dial tone watched for at least 500 ms: that listen ends, the digits
wait for the guard. In HOLDING and silence a burst due begins and the next is 5 s away; a burst that has lasted 400
ms ends in silence, or, in STOP_TONE, gives way to the stop tone. A guard that has passed opens the listen, its
window 45 s for a DIAL answer and else the reply window setting, or begins the signal of an activity other than
START_TONE. A reply qualifies in an open listen without one, at least 150 ms after it opened, and stops the window;
a second tone, or one too early, changes nothing. Before its time each command only lets time pass: that, and the
150 ms, 500 ms and 400 ms being asked of the command, is the model's choice (log entry 8). (R133, R134, R135, R137,
R138, R139, R140) -/
def Obligations.SignalsAndGuardsEnd : Prop :=
  ∀ (dt : Nat) (s : State),
    let now := s.now + dt
    let l := s.line
    let passes : State := { s with now := now }
    let listening (k : ListenKind) : State :=
      { s with
        now := now
        line :=
          { l with
            activity := some .listening, listenFor := some k, signal := .guardWait (now + 60000)
            lastSignalEnd := some now } }
    (∀ b, l.signal = .sounding b →
        (l.activity = some .calling → exec (.callEnd dt) s =
            .next (if b + 1120000 ≤ now then listening .rollCall else passes))
          ∧ (l.activity = some .polling → exec (.callEnd dt) s =
            .next (if b + 1120000 ≤ now then listening .poll else passes))
          ∧ (l.activity = some .dialing → exec (.dialDigitsEnd dt) s =
            .next (if b + 160000 * l.dialDigits.length ≤ now then listening .dialAnswer else passes)))
      ∧ (∀ b, l.signal = .dialTone b → exec (.dialToneFound dt) s =
        .next (if b + 500000 ≤ now then
            { s with now := now, line := { l with signal := .guardWait (now + 60000), lastListenEnd := some now } }
          else passes))
      ∧ (∀ e, l.activity = some .holding → l.signal = .silent → l.holdAt = some e → exec (.holdBurst dt) s =
        .next (if e ≤ now then
            { s with now := now, line := { l with signal := .burst now, holdAt := some (now + 5000000) } }
          else passes))
      ∧ (∀ b, l.signal = .burst b →
        (l.activity = some .holding → exec (.holdBurstEnd dt) s =
            .next (if b + 400000 ≤ now then
                { s with now := now, line := { l with signal := .silent, lastSignalEnd := some now } }
              else passes))
          ∧ (l.activity = some .stopTone → exec (.holdBurstEnd dt) s =
            .next (if b + 400000 ≤ now then
                { s with now := now, line := { l with signal := .sounding now, lastSignalEnd := some now } }
              else passes)))
      ∧ (∀ e, l.signal = .guardWait e →
        (now < e → exec (.guardExpiry dt) s = .next passes)
          ∧ (e ≤ now → l.activity = some .listening →
            exec (.guardExpiry dt) s = .next
              { s with
                now := now
                line :=
                  { l with
                    signal := .listen now
                      (some (now +
                        (if l.listenFor = some .dialAnswer then 45000000 else s.settings.replyWindow * 1000000)))
                      none } })
          ∧ (e ≤ now → l.activity ≠ some .listening → l.activity ≠ some .startTone →
            exec (.guardExpiry dt) s = .next { s with now := now, line := { l with signal := .sounding now } }))
      ∧ (∀ opened w reply tone, l.signal = .listen opened w reply →
        exec (.replyQualified dt tone) s =
          .next (if opened + 150000 ≤ now ∧ w.isSome ∧ reply = none then
              { s with now := now, line := { l with signal := .listen opened none (some (tone, now)) } }
            else passes))

/-- With the line SEIZED and LISTENING and a run without an abort cause: a qualified reply ended for 80 ms or overlong
at 3 s gives its tone, an expired window NONE; the listen ends, that moment being the last listening end. PREPARING
on LOOP: NONE with attempts left calls the same destination again, attempts used one more; else T-A, T-B, NONE write
READY, BUSY, NO_REPLY, and below the last destination the next one is called, its code read afresh, attempts used 1.
At the last destination the roll call ends: with none READY the line is released; else the defer duration begins,
and with the drum, lamp and carriage ready the START is made at once, its start tone waiting for the guard, and
otherwise the 60 s begin and the line HOLDS. CONFIRMING: the first READY destination takes CLEAN, FAULTY or
UNCONFIRMED, and the next READY one is polled on LOOP, or, with none left, and on DIAL, the line is released.
NO_DIAL_TONE at 5 s in PREPARING: NO_LINE, the roll call has ended, and with none READY the line is released. Every
call waits for the guard of 60 ms. Nothing else changes. The model's choice (log entry 8): each command acts only
when its time has passed, NO_DIAL_TONE below 5 s only letting time pass. (R133, R135, R136, R137, R138, R152, R153,
R154, R163) -/
def Obligations.ListensEndAndAreAnswered : Prop :=
  ∀ (dt : Nat) (s : State) (r : RunRecord) (o : Order) (c : Instr) (out : Option ReplyTone),
    s.line.state = .seized → s.run = some r → s.findOrder r.order = some o → r.abort = none →
    let now := s.now + dt
    let quiet : LineUnit :=
      { s.line with activity := some .quiet, signal := .silent, listenFor := none, lastListenEnd := some now }
    let calling (q : LineRequest) (a : Activity) (station : Nat) : LineUnit :=
      { quiet with
        activity := some a, callCode := some (s.callCodeOf station), lastRequest := some q
        signal := .guardWait (now + 60000) }
    let released : LineUnit :=
      { quiet with
        lastRequest := some .release, state := .releasing, loopClosed := false, activity := none, signal := .silent
        loopTimer := none, holdAt := none, timer := none, sent := none, releaseAt := some (now + 300000)
        releaseCause := .request }
    let table (f : Order → Order) : Manager :=
      { s.manager with table := s.manager.table.map fun x => if x.number = o.number then f x else x }
    let rolled : DestResult := match out with | some .tA => .ready | some .tB => .busy | none => .noReply
    let confirmed : DestResult := match out with | some .tA => .clean | some .tB => .faulty | none => .unconfirmed
    let others (i : Nat) := ∃ (j : Nat) (d : Dest), j ≠ i ∧ o.dests[j]? = some d ∧ d.result = .ready
    ((∃ op w tone q, s.line.signal = .listen op w (some (tone, q)) ∧ out = some tone
            ∧ (c = .replyEnd dt ∧ q + 80000 ≤ now ∨ c = .replyOverlong dt ∧ q + 3000000 ≤ now))
          ∨ (∃ op w, s.line.signal = .listen op (some w) none ∧ out = none ∧ w ≤ now ∧ c = .replyWindowExpiry dt) →
        (o.state = .preparing → r.network = .loop → out = none → r.used < r.attempts →
            exec c s = .next
              { s with
                now := now, line := calling .call .calling (o.stationAt r.index)
                run := some { r with used := r.used + 1 } })
          ∧ (o.state = .preparing → r.network = .loop → (out ≠ none ∨ r.attempts ≤ r.used) →
            r.index < o.dests.length →
            exec c s = .next
              { s with
                now := now
                line := calling .call .calling (o.stationAt (r.index + 1))
                run := some { r with index := r.index + 1, used := 1 }
                manager := table (setDest r.index rolled) })
          ∧ (o.state = .preparing → (r.network = .dial ∨ (out ≠ none ∨ r.attempts ≤ r.used) ∧ o.dests.length ≤ r.index) →
            1 ≤ r.index → r.index ≤ o.dests.length →
            (rolled ≠ .ready → ¬others (r.index - 1) →
                exec c s = .next
                  { s with
                    now := now, line := released, run := some { r with rollEnded := true }
                    manager := table (setDest r.index rolled) })
              ∧ (rolled = .ready ∨ others (r.index - 1) →
                ¬(r.drumReady = true ∧ r.lampReady = true ∧ r.carriageReady = true ∧ r.startMade = false) →
                r.startMade = false →
                exec c s = .next
                  { s with
                    now := now
                    line :=
                      { quiet with
                        activity := some .holding, holdAt := some (now + 5000000), lastRequest := some .hold }
                    run := some { r with rollEnded := true, deferTimer := some (now + 60000000) }
                    manager := table fun x => { setDest r.index rolled x with defer := .running now } })
              ∧ (rolled = .ready ∨ others (r.index - 1) → r.drumReady = true → r.lampReady = true →
                r.carriageReady = true → r.startMade = false →
                exec c s = .next
                  { s with
                    now := now
                    line :=
                      { quiet with
                        activity := some .startTone, signal := .guardWait (now + 60000), holdAt := none
                        lastRequest := some .start
                        figures := some ⟨r.modulation, r.speed, r.samples, r.phasing, r.lines⟩ }
                    run := some { r with rollEnded := true, startMade := true, deferTimer := none }
                    manager := table fun x => { setDest r.index rolled x with defer := .running now } }))
          ∧ (o.state = .confirming → ∀ (i : Nat) (d : Dest), o.dests[i]? = some d → d.result = .ready →
            (∀ (j : Nat) (e : Dest), j < i → o.dests[j]? = some e → e.result ≠ .ready) →
            (r.network = .loop → ∀ (k : Nat) (e : Dest), i < k → o.dests[k]? = some e → e.result = .ready →
                (∀ (j : Nat) (x : Dest), i < j → j < k → o.dests[j]? = some x → x.result ≠ .ready) →
                exec c s = .next
                  { s with
                    now := now, line := calling .poll .polling e.station
                    manager := table (setDest (i + 1) confirmed) })
              ∧ (r.network = .dial ∨ (∀ (k : Nat) (e : Dest), i < k → o.dests[k]? = some e → e.result ≠ .ready) →
                exec c s = .next
                  { s with now := now, line := released, manager := table (setDest (i + 1) confirmed) })))
      ∧ (∀ b, s.line.signal = .dialTone b →
        (now < b + 5000000 → exec (.noDialTone dt) s = .next { s with now := now })
          ∧ (b + 5000000 ≤ now → o.state = .preparing → 1 ≤ r.index → r.index ≤ o.dests.length →
            ¬others (r.index - 1) →
            exec (.noDialTone dt) s = .next
              { s with
                now := now, line := released, run := some { r with rollEnded := true }
                manager := table (setDest r.index .noLine) }))

/-- A start tone that has lasted 3 s, with a run of more than 3 phasing lines or none: PHASING, the line timer starts,
phasing line 1 goes out. At a boundary that has come, next · T_line after the start, the line time that begins
sends, in PHASING below the last boundary, another phasing line, with a run or without, and with a run in PHASING
the phasing line P − 2 sets up the scan record from the order and the calibration record; at boundary P PICTURE
begins with the store's oldest line, its order SENDING. In PICTURE, unless the line that ends was a take of line L,
the store answers: its oldest line leaves, is sent, becomes the last line out and counts as sent, and as flagged
with a flag; an empty store repeats the last line out, or sends a phasing line with none, each counted; a closed
store sends 4,095 throughout. An open store then asks for FASTER at fill 0 or 1, NONE at 2 or 3, SLOWER above. A
boundary not yet come only lets time pass (the model's choice, log entry 8). The number sent is kept. Nothing else
changes. The signal at any moment: value v is FM f_black + ((f_white − f_black) · v + 2,047) ÷ 4,095 Hz, or AM a
2,000 Hz carrier at the amplitude step of the same form; position p of a line is held from p · T_line ÷ S to the
next; the start tone is 4,095, the stop tone 1,000 Hz, a hold burst 800 Hz. (R110, R111, R112, R113, R120, R122,
R123, R141, R142, R143, R144, R159) -/
def Obligations.LineTimesAreSent : Prop :=
  ∀ (dt : Nat) (s : State) (f : Figures), s.line.figures = some f →
    let now := s.now + dt
    let l := s.line
    let map (black white v : Nat) : Nat := black + ((white - black) * v + 2047) / 4095
    let carried (v : Nat) : LineSignal :=
      match f.modulation with
      | .fm => .tone (map s.settings.fBlack s.settings.fWhite v)
      | .am => .carrier 2000 (map s.settings.aBlack s.settings.aWhite v)
    let pulse := List.replicate (f.samples / 32) 4095 ++ List.replicate (f.samples / 16 - f.samples / 32) 0
      ++ List.replicate (f.samples - f.samples / 16) 4095
    (∀ b, l.activity = some .startTone → l.signal = .sounding b → b + 3000000 ≤ now →
        (∀ r, s.run = some r → r.phasing ≠ 3) →
        exec (.startToneEnd dt) s = .next
          { s with
            now := now
            line :=
              { l with
                activity := some .phasing, signal := .sounding now, timer := some ⟨now, 1⟩
                sent := some ⟨0, .phasing, pulse, now⟩, lineNumber := 0 } })
      ∧ (∀ t, l.timer = some t →
        let b := t.start + t.next * halfUp 60000000 f.speed
        let sends (number : Nat) (k : SentKind) (v : List Nat) : LineUnit :=
          { l with timer := some ⟨t.start, t.next + 1⟩, sent := some ⟨number, k, v, b⟩, lineNumber := number }
        (now < b → exec (.lineBoundary dt) s = .next { s with now := now })
          ∧ (b ≤ now → l.activity = some .phasing → t.next < f.phasing →
            ((∀ r o, s.run = some r → s.findOrder r.order = some o → r.abort = none → o.state = .phasing →
                  t.next + 3 ≠ r.phasing) →
                exec (.lineBoundary dt) s = .next { s with now := now, line := sends 0 .phasing pulse })
              ∧ (∀ r o, s.run = some r → s.findOrder r.order = some o → r.abort = none → o.state = .phasing →
                t.next + 3 = r.phasing →
                exec (.lineBoundary dt) s = .next
                  { s with
                    now := now
                    line := sends 0 .phasing pulse
                    run := some { r with scanStarted := true }
                    scan := some
                      { order := r.order, samplesPerLine := r.samples, lines := r.lines, pitch := o.header.pitch
                        negative := o.header.polarity == 1, nextLine := 1, offset := s.scanPart.offset
                        gain := s.scanPart.gain, wRef := (s.scanPart.wRaw : Int) - s.scanPart.offset
                        tracking := s.settings.whiteTracking, trackSum := 0, trackCount := 0, lowCount := 0
                        inRevolution := false, samples := [] } }))
          ∧ (b ≤ now → l.activity = some .phasing → f.phasing ≤ t.next → ∀ r o x xs, s.run = some r →
            s.findOrder r.order = some o → r.abort = none → o.state = .phasing → s.store.isOpen = true →
            s.store.slots = x :: xs →
            exec (.lineBoundary dt) s = .next
              { s with
                now := now
                line := { sends x.number .take x.values with activity := some .picture }
                link := s.link.place now (.order o.number o.header.hostRef (.entered .sending) none)
                store := { s.store with slots := xs, lastOut := some x }
                manager :=
                  { s.manager with
                    table := s.manager.table.map fun y =>
                      if y.number = r.order then { y with state := .sending, counts := y.counts.afterRead (.take x) }
                      else y }
                drum :=
                  { s.drum with
                    trim := if xs.length ≤ 1 then .faster else if xs.length ≤ 3 then .none else .slower } })
          ∧ (b ≤ now → l.activity = some .picture →
            (∀ x, l.sent = some x → x.kind = .take → x.number ≠ f.lines) →
            (s.store.isOpen = false →
                exec (.lineBoundary dt) s = .next
                  { s with now := now, line := sends 0 .closed (List.replicate f.samples 4095) })
              ∧ (∀ r, s.store.isOpen = true → s.run = some r →
                let up (n : Nat) := if n < 65535 then n + 1 else n
                let counted (g : Counts → Counts) : Manager :=
                  { s.manager with
                    table := s.manager.table.map fun x =>
                      if x.number = r.order then { x with counts := g x.counts } else x }
                (∀ x xs, s.store.slots = x :: xs →
                    exec (.lineBoundary dt) s = .next
                      { s with
                        now := now
                        line := sends x.number .take x.values
                        store := { s.store with slots := xs, lastOut := some x }
                        manager := counted fun k =>
                          { k with
                            sent := up k.sent
                            flagged := if x.drift ∨ x.unsteady ∨ x.weak then up k.flagged else k.flagged }
                        drum :=
                          { s.drum with
                            trim := if xs.length ≤ 1 then .faster else if xs.length ≤ 3 then .none else .slower } })
                  ∧ (∀ x, s.store.slots = [] → s.store.lastOut = some x →
                    exec (.lineBoundary dt) s = .next
                      { s with
                        now := now
                        line := sends x.number .repeated x.values
                        manager := counted fun k => { k with repeats := up k.repeats }
                        drum := { s.drum with trim := .faster } })
                  ∧ (s.store.slots = [] → s.store.lastOut = none →
                    exec (.lineBoundary dt) s = .next
                      { s with
                        now := now
                        line := sends 0 .extra pulse
                        manager := counted fun k => { k with extra := up k.extra }
                        drum := { s.drum with trim := .faster } }))))
      ∧ (∀ b, l.signal = .sounding b →
        (l.activity = some .startTone → s.lineOutput = carried 4095)
          ∧ (l.activity = some .stopTone → s.lineOutput = .tone 1000)
          ∧ (l.activity = some .phasing ∨ l.activity = some .picture → ∀ x, l.sent = some x →
            f.speed = 60 ∨ f.speed = 90 ∨ f.speed = 120 →
            let T := halfUp 60000000 f.speed
            ∀ p, p < f.samples → x.start + p * T / f.samples ≤ s.now →
              (p + 1 < f.samples → s.now < x.start + (p + 1) * T / f.samples) →
              s.lineOutput = carried (x.values.getD p 0)))
      ∧ (∀ b, l.signal = .burst b → s.lineOutput = .tone 800)
      ∧ (l.signal = .silent → s.lineOutput = .silence)

/-- LINE_BOUNDARY come in PICTURE after a take of line L, with a run in SENDING without an abort cause: the line timer
stops, the stop tone begins, the order enters ENDING with its ORDER_EVENT, the store closes and the trim request
becomes NONE. STOP_TONE_END after 3 s of it: QUIET, and with no run record nothing else. After an abort the picture
duration ends and the line is released. In ENDING without an abort cause the order enters CONFIRMING, its picture
duration ends and its confirm duration begins, with its ORDER_EVENT; on LOOP the first READY destination is polled,
its code read afresh, when the turnaround guard is past; with none READY the line is released; on DIAL the unit
listens for the confirmation after the guard of 60 ms from the stop tone. Nothing else changes. That a boundary not
yet come, or a stop tone below 3 s, only lets time pass is the model's choice (log entry 8). (R8, R54, R125, R131,
R135, R145, R162, R163, R165, R172) -/
def Obligations.PicturesEndAndAreConfirmed : Prop :=
  ∀ (dt : Nat) (s : State),
    let now := s.now + dt
    let l := s.line
    let event (o : Order) (st : OrderState) : Notice := .order o.number o.header.hostRef (.entered st) none
    let table (n : Nat) (f : Order → Order) : Manager :=
      { s.manager with table := s.manager.table.map fun x => if x.number = n then f x else x }
    (∀ f t x r o, l.figures = some f → l.timer = some t → l.activity = some .picture →
        t.start + t.next * halfUp 60000000 f.speed ≤ now → l.sent = some x → x.kind = .take → x.number = f.lines →
        s.run = some r → s.findOrder r.order = some o → r.abort = none → o.state = .sending →
        exec (.lineBoundary dt) s = .next
          { s with
            now := now
            line :=
              { l with
                activity := some .stopTone, signal := .sounding now, timer := none, sent := none, holdAt := none }
            manager := table r.order fun x => { x with state := .ending }
            link := s.link.place now (event o .ending)
            store := ⟨[], false, none, none⟩
            drum := { s.drum with trim := .none } })
      ∧ (∀ b, l.activity = some .stopTone → l.signal = .sounding b →
        let quiet : LineUnit := { l with activity := some .quiet, signal := .silent, lastSignalEnd := some now }
        let released : LineUnit :=
          { quiet with
            lastRequest := some .release, state := .releasing, loopClosed := false, activity := none
            listenFor := none, loopTimer := none, holdAt := none, timer := none, sent := none
            releaseAt := some (now + 300000), releaseCause := .request }
        (now < b + 3000000 → exec (.stopToneEnd dt) s = .next { s with now := now })
          ∧ (b + 3000000 ≤ now → s.run = none → exec (.stopToneEnd dt) s = .next { s with now := now, line := quiet })
          ∧ (b + 3000000 ≤ now → l.state = .seized → ∀ r o, s.run = some r → s.findOrder r.order = some o →
            (r.abort ≠ none →
                exec (.stopToneEnd dt) s = .next
                  { s with
                    now := now
                    line := released
                    run := some { r with action := .release }
                    manager := table r.order fun x => { x with picture := x.picture.stop now } })
              ∧ (r.abort = none → o.state = .ending →
                let confirming : State :=
                  { s with
                    now := now
                    manager := table r.order fun x =>
                      { x with state := .confirming, picture := x.picture.stop now, confirm := .running now }
                    link := s.link.place now (event o .confirming) }
                (r.network = .loop → ∀ (i : Nat) (d : Dest), o.dests[i]? = some d → d.result = .ready →
                    (∀ (j : Nat) (e : Dest), j < i → o.dests[j]? = some e → e.result ≠ .ready) →
                    (∀ e, l.lastListenEnd = some e → e + 60000 ≤ now) →
                    exec (.stopToneEnd dt) s = .next
                      { confirming with
                        line :=
                          { quiet with
                            activity := some .polling, callCode := some (s.callCodeOf d.station)
                            lastRequest := some .poll, signal := .sounding now } })
                  ∧ (r.network = .loop → (∀ d ∈ o.dests, d.result ≠ .ready) →
                    exec (.stopToneEnd dt) s = .next { confirming with line := released })
                  ∧ (r.network = .dial →
                    exec (.stopToneEnd dt) s = .next
                      { confirming with
                        line :=
                          { quiet with
                            activity := some .listening, listenFor := some .dialConfirm, lastRequest := some .listen
                            signal := .guardWait (now + 60000) } }))))

/-- The current lost while present: absent, and in SEIZED the loop-current timer starts at 500 ms; lost while absent
only lets time pass; returned: present, the timer stopped. LINE_LOSS due in SEIZED: a LINE_EVENT LOSS with the
activity, and the release from its first step with cause LOSS: RELEASING, the loop open, silence, 300 ms to IDLE.
With no run record nothing else; with a run without an abort cause, its order running, the run takes the cause line
loss without an action and with its defer timer stopped, every READY destination of the order is LINE_LOST and no
other changes, the store is closed and empty, and a scan started and not complete is ended, with a carriage in
ADVANCING sent home: HOME at once, and reported so to the run, with the home switch closed, else RETURNING; any
other carriage stands. With an abort cause already taken the run, its order and the store stay. Not SEIZED or not
due: only time passes. The model's choices: that clause (log entry 8), that a loss while absent does nothing and the
level is followed in every line state (log entry 11), and the level of the home switch (log entry 28). (R89, R90,
R91, R98, R131, R132, R148, R150, R165, R168, R169) -/
def Obligations.LoopCurrentIsWatched : Prop :=
  ∀ (dt : Nat) (s : State),
    let now := s.now + dt
    let l := s.line
    let lost : LineUnit :=
      { l with
        state := .releasing, loopClosed := false, activity := none, signal := .silent, listenFor := none
        loopTimer := none, holdAt := none, timer := none, sent := none, releaseAt := some (now + 300000)
        releaseCause := .loss }
    let notice : Notice := .line .loss l.orderNumber l.network l.activity none
    let timeUp := l.state = .seized ∧ ∃ e, l.loopTimer = some e ∧ e ≤ now
    (exec (.loopCurrentLost dt) s = .next
        (if l.loopCurrent = true then
          { s with
            now := now
            line :=
              { l with
                loopCurrent := false
                loopTimer := if l.state = .seized then some (now + 500000) else l.loopTimer } }
        else { s with now := now }))
      ∧ exec (.loopCurrentReturn dt) s = .next
        { s with now := now, line := { l with loopCurrent := true, loopTimer := none } }
      ∧ (timeUp → s.run = none →
        exec (.lineLoss dt) s = .next { s with now := now, line := lost, link := s.link.place now notice })
      ∧ (timeUp → ∀ r o, s.run = some r → s.findOrder r.order = some o → r.abort = none →
        o.state ∈ [OrderState.preparing, .phasing, .sending, .ending, .confirming] →
        let recalled := r.scanStarted = true ∧ r.scanComplete = false ∧ s.carriage.state = .advancing
        ∃ t, exec (.lineLoss dt) s = .next t
          ∧ t.line = lost ∧ t.link = s.link.place now notice
          ∧ t.run = some
            { r with
              abort := some .lineLoss, deferTimer := none, action := .none
              carriageReady := if recalled then s.carriage.homeClosed else r.carriageReady }
          ∧ t.carriage =
            (if recalled then
              if s.carriage.homeClosed = true then
                { s.carriage with
                  state := .home, position := some 0, stepsTaken := 0, target := none, stepAt := none }
              else
                { s.carriage with state := .returning, stepsTaken := 0, target := none, stepAt := some now }
            else s.carriage)
          ∧ t.manager = { s.manager with
              table := s.manager.table.map fun x =>
                if x.number = o.number then
                  { x with
                    dests := x.dests.map fun d => if d.result = .ready then { d with result := .lineLost } else d }
                else x }
          ∧ t.store = ⟨[], false, none, none⟩
          ∧ t.scan = (if r.scanStarted = true ∧ r.scanComplete = false then none else s.scan)
          ∧ t.lamp = s.lamp ∧ t.slips = s.slips ∧ t.panel = s.panel ∧ t.settings = s.settings
          ∧ t.drum = (if o.state = .sending then { s.drum with trim := .none } else s.drum))
      ∧ (timeUp → ∀ r, s.run = some r → r.abort ≠ none →
        exec (.lineLoss dt) s = .next { s with now := now, line := lost, link := s.link.place now notice })
      ∧ (¬timeUp → exec (.lineLoss dt) s = .next { s with now := now })

/-- RELEASING for 300 ms by a request or a loss: the line is IDLE with its run figures and last listening end cleared,
and a LINE_EVENT RELEASE with the cause; with no run record nothing else. With a run whose order is running, the
manager HALTED, and slip mode ON with 8 slips queued (so that no order is selected or retired): the order is
FINISHED with the result of the abort cause, or without one NO_STATION from PREPARING, COMPLETE when every
destination is CLEAN, else PARTIAL; PENDING destinations become NOT_CALLED, the ended time is stamped and every
running duration fixed; its ORDER_EVENT follows the LINE_EVENT; the run record is gone, the store closed and empty,
the RUN lamp request withdrawn, the spin-hold timer started. Before the 300 ms, or in another state, only time
passes. The model's choices: the order of the line's notice, the run's end and the order's notice (log entry 16),
and the not-due clause (log entry 8). (R7, R8, R53, R131, R148, R149, R164, R165, R171, R172, R3) -/
def Obligations.ReleasesEndTheRun : Prop :=
  ∀ (dt : Nat) (s : State),
    let now := s.now + dt
    let l := s.line
    let idle : LineUnit :=
      { l with
        state := .idle, activity := none, signal := .silent, network := none, figures := none, callCode := none
        dialDigits := [], lastListenEnd := none, lastSignalEnd := none, releaseAt := none, lastRequest := none }
    let cleared := s.link.place now (.line .release l.orderNumber l.network none (some l.releaseCause))
    let overdue := l.state = .releasing ∧ ∃ e, l.releaseAt = some e ∧ e ≤ now
    (¬overdue → exec (.releaseCleared dt) s = .next { s with now := now })
      ∧ (overdue → l.releaseCause ≠ .restart → s.run = none →
        exec (.releaseCleared dt) s = .next { s with now := now, line := idle, link := cleared })
      ∧ (overdue → l.releaseCause ≠ .restart → ∀ r o, s.run = some r → s.findOrder r.order = some o →
        s.NumberInv → s.manager.state = .halted → s.settings.slipMode = true → s.slips.queue.length = 8 →
        let result : OrderResult := match r.abort with
          | some .cancel => .cancelled
          | some .door => .doorOpen
          | some .stop => .stopped
          | some .drumFault => .drumFault
          | some .lampFault => .lampFault
          | some .carriageFault => .carriageFault
          | some .deferLimit => .prepTimeout
          | some .lineLoss => .lineLost
          | none =>
            if o.state = .preparing then .noStation
            else if ∀ d ∈ o.dests, d.result = .clean then .complete
            else .partialResult
        let finished : Order :=
          { o with
            state := .finished, result := some result, ended := s.todNow
            dests := o.dests.map fun d => if d.result = .pending then { d with result := .notCalled } else d
            queue := o.queue.stop now, prepare := o.prepare.stop now, defer := o.defer.stop now
            picture := o.picture.stop now, confirm := o.confirm.stop now }
        ∃ t, exec (.releaseCleared dt) s = .next t
          ∧ t.manager = { s.manager with
              table := s.manager.table.map fun x => if x.number = o.number then finished else x }
          ∧ t.run = none ∧ t.line = idle
          ∧ t.link = cleared.place now (.order o.number o.header.hostRef (.entered .finished) (some result))
          ∧ t.lamp.runReq = false ∧ t.lamp.state = s.lamp.state
          ∧ t.drum = { s.drum with spinHoldTimer := some (now + s.settings.spinHold * 1000000) }
          ∧ t.carriage = s.carriage ∧ t.store = ⟨[], false, none, none⟩ ∧ t.scan = s.scan ∧ t.cal = s.cal ∧ t.slips = s.slips
          ∧ t.panel = s.panel ∧ t.settings = s.settings ∧ t.directory = s.directory)

/-- With the paper PRESENT, PAPER_OUT: the paper is OUT; PRINTING is HELD, the slip reprint-marked once a row past its
24 leading feed rows (none when resumed) has been printed; a RECOVERY feed is HELD, a HOST feed ends in IDLE; a
SLIP_EVENT PAPER_OUT names the head of the queue when the printer is HELD. With the paper OUT, PAPER_BACK: PRESENT;
HELD feeds 12 recovery rows; IDLE begins the oldest slip queued; a SLIP_EVENT PAPER_BACK. ROW_STEP_END: a fed row
after 1 ms leaves one row less, the last one ends in IDLE or begins a slip after a HOST feed, and prints the held
slip again after a RECOVERY one; a printed row after 7 ms, or a feed row after 1 ms, is done: the next row, or after
the last row, with no FINISHED order in the table, the slip leaves the queue, becomes the last-printed copy, a
SLIP_EVENT PRINTED is placed with the printer state after it and the next slip begins. Only time passes for a row
earlier than that (a dot row within 3 ms; between 3 and 7 ms its black dots decide, R182), with no row in progress,
or on a paper level that repeats. Nothing else changes. The model's choices: the not-due and repeated-level clauses
(log entries 8 and 11), the PRINTED notice's printer state and the place of the notices (log entry 20), the reprint
mark after one whole row and no leading feed when resumed (log entry 21). (R25, R174, R180, R181, R182, R183, R184,
R185, R189) -/
def Obligations.PaperAndRowsMoveTheSlips : Prop :=
  ∀ (dt : Nat) (s : State),
    let now := s.now + dt
    let u := s.slips
    let passes : State := { s with now := now }
    let feed (resumed : Bool) := if resumed then 0 else 24
    let rows (resumed : Bool) (sl : Slip) := feed resumed + 20 * (sl.text.length + if sl.reprint then 1 else 0) + 24
    let next (p : Printer) : State := { s with now := now, slips := { u with printer := p } }
    (u.paper = .present →
        (∀ resumed row since sl rest, u.printer = .printing resumed row since → u.queue = sl :: rest →
            let marked := sl.reprint || decide (feed resumed < row)
            exec (.paperOut dt) s = .next
              { s with
                now := now
                slips := { u with paper := .out, printer := .held, queue := { sl with reprint := marked } :: rest }
                link := s.link.place now (.slip .paperOut sl.order marked 2 .out (rest.length + 1)) })
          ∧ (∀ left since sl rest, u.printer = .feeding .recovery left since → u.queue = sl :: rest →
            exec (.paperOut dt) s = .next
              { s with
                now := now
                slips := { u with paper := .out, printer := .held }
                link := s.link.place now (.slip .paperOut sl.order sl.reprint 2 .out (rest.length + 1)) })
          ∧ (u.printer = .idle ∨ (∃ left since, u.printer = .feeding .host left since) →
            exec (.paperOut dt) s = .next
              { s with
                now := now
                slips := { u with paper := .out, printer := .idle }
                link := s.link.place now (.slip .paperOut 0 false 0 .out u.queue.length) })
          ∧ exec (.paperBack dt) s = .next passes)
      ∧ (u.paper = .out →
        exec (.paperOut dt) s = .next passes
          ∧ (u.printer = .held →
            exec (.paperBack dt) s = .next
              { s with
                now := now
                slips := { u with paper := .present, printer := .feeding .recovery 12 now }
                link := s.link.place now (.slip .paperBack 0 false 3 .present u.queue.length) })
          ∧ (u.printer = .idle → u.queue = [] →
            exec (.paperBack dt) s = .next
              { s with
                now := now
                slips := { u with paper := .present }
                link := s.link.place now (.slip .paperBack 0 false 0 .present 0) })
          ∧ (∀ sl rest, u.printer = .idle → u.queue = sl :: rest →
            exec (.paperBack dt) s = .next
              { s with
                now := now
                slips := { u with paper := .present, printer := .printing false 0 now }
                link := s.link.place now (.slip .paperBack sl.order sl.reprint 1 .present (rest.length + 1)) }))
      ∧ (u.printer = .idle ∨ u.printer = .held → exec (.rowStepEnd dt) s = .next passes)
      ∧ (∀ p left since, u.printer = .feeding p left since →
        (now < since + 1000 → exec (.rowStepEnd dt) s = .next passes)
          ∧ (since + 1000 ≤ now → 1 < left → exec (.rowStepEnd dt) s = .next (next (.feeding p (left - 1) now)))
          ∧ (since + 1000 ≤ now → left = 1 → p = .recovery →
            exec (.rowStepEnd dt) s = .next (next (.printing true 0 now)))
          ∧ (since + 1000 ≤ now → left = 1 → p = .host →
            exec (.rowStepEnd dt) s = .next
              (next (if u.queue ≠ [] ∧ u.paper = .present then .printing false 0 now else .idle))))
      ∧ (∀ resumed row since sl rest, u.printer = .printing resumed row since → u.queue = sl :: rest →
        let fed := row < feed resumed ∨ rows resumed sl ≤ row + 24
        (now < since + 1000 ∨ ¬fed ∧ now < since + 3000 → exec (.rowStepEnd dt) s = .next passes)
          ∧ (since + 7000 ≤ now ∨ fed ∧ since + 1000 ≤ now → row + 1 < rows resumed sl →
            exec (.rowStepEnd dt) s = .next (next (.printing resumed (row + 1) now)))
          ∧ (since + 1000 ≤ now → row + 1 = rows resumed sl → (∀ o ∈ s.manager.table, o.state ≠ .finished) →
            exec (.rowStepEnd dt) s = .next
              { s with
                now := now
                slips :=
                  { u with
                    queue := rest
                    lastPrinted := some sl
                    printer := if rest ≠ [] ∧ u.paper = .present then .printing false 0 now else .idle }
                link := s.link.place now
                  (.slip .printed sl.order sl.reprint (if rest ≠ [] ∧ u.paper = .present then 1 else 0) u.paper
                    rest.length) }))

/-- n is (c · g + 2,048) ÷ 4,096 clamped to at most 4,095, and c · g is at most 134,152,200. With g the gain of w in
512..4,095, be w the calibration white or the average of white tracking: w · g lies within 16,773,120 − w ÷ 2 and
16,773,120 + w ÷ 2, a sample with c = w gives 4,095 exactly and without the clamp, a lighter one gives 4,095, and
the computed n exceeds 4,095 exactly from the first c whose c · g + 2,048 reaches 16,777,216. For any curve of 17
knots in 0..4,095 and n in 0..4,095, q being (d · f + 128) ÷ 256 as a floor, the nearest integer with a half toward
plus infinity: v is t[k] + q, q lies between 0 and d, v between t[k] and t[k + 1] and in 0..4,095, and v is t[k] at
f = 0. On the identity curve v = n up to 3,968 and n − 1 above. (R105, R108) -/
def Obligations.PictureArithmeticStaysInRange : Prop :=
  (∀ c g, normalise c g = min ((c * g + 2048) / 4096) 4095
      ∧ (c ≤ 4095 → g ≤ 32760 → c * g ≤ 134152200))
    ∧ (∀ w, 512 ≤ w → w ≤ 4095 →
      let g := gainFor w
      4096 ≤ g ∧ g ≤ 32760 ∧ 16773120 ≤ w * g + w / 2 ∧ w * g ≤ 16773120 + w / 2
        ∧ (w * g + 2048) / 4096 = 4095 ∧ normalise w g = 4095
        ∧ ∀ c, (w < c → normalise c g = 4095) ∧ (4095 < (c * g + 2048) / 4096 ↔ 16777216 ≤ c * g + 2048))
    ∧ (∀ (t : List Nat) (n : Nat), t.length = 17 → (∀ x ∈ t, x ≤ 4095) → n ≤ 4095 →
      let k := n / 256
      let f := n - 256 * k
      let a := t.getD k 0
      let b := t.getD (k + 1) 0
      let d : Int := (b : Int) - a
      let q : Int := Int.fdiv (d * f + 128) 256
      let v := curveValue t n
      (v : Int) = a + q ∧ 256 * q ≤ d * f + 128 ∧ d * f + 128 < 256 * (q + 1)
        ∧ (0 ≤ d → 0 ≤ q ∧ q ≤ d) ∧ (d ≤ 0 → d ≤ q ∧ q ≤ 0)
        ∧ min a b ≤ v ∧ v ≤ max a b ∧ v ≤ 4095 ∧ (f = 0 → v = a))
    ∧ (∀ n, (n ≤ 3968 → curveValue State.reset.curve n = n)
      ∧ (3969 ≤ n → n ≤ 4095 → curveValue State.reset.curve n = n - 1))

/-- The drum, capacity, number, run, pre-warm, run-end, record, calibration and line unit invariants hold of the state
after reset. (R26, R29, R59, R61, R63, R127, R149, R202) -/
def Obligations.ResetMeetsTheInvariants : Prop :=
  State.reset.DrumInv ∧ State.reset.CapacityInv ∧ State.reset.NumberInv ∧ State.reset.RunInv ∧ State.reset.PrewarmInv
    ∧ State.reset.RunEndInv ∧ State.reset.RecordsInv ∧ State.reset.CalibrationInv ∧ State.reset.line.Inv

/-- For every state that meets it, if a step answers a next state, that state meets it: the drive lies within 0..4,095;
the brake is applied exactly in STOPPED, SPINNING_DOWN and FAULT, where the drive is 0; under an open door the brake
is applied; in CALIBRATING the drive is D1 or D2 and a MOTOR run is in progress, and only then; outside the turning
states the target is 0 and there is no D_ff; D_ff is feasible; I lies within −1,024..+1,024; the window counts stay
below 4 and 2; the stall timer runs exactly while the drive is above 0, the spin-up limit exactly in SPINNING_UP
without the no-lock condition, the quiet timer exactly in SPINNING_DOWN. (R37, R38, R39, R43, R44, R45, R46, R47,
R48, R50, R74) -/
def Obligations.EveryStepKeepsTheDrumSafe : Prop :=
  ∀ s t : State, s.DrumInv → Machine.step s = .next t → t.DrumInv

/-- For every state in which the order table holds at most 16 orders, the line store 8 lines, the slip queue 8 slips,
the holding buffer 2 requests and the notice queue 24 notices: if a step answers a next state, they do there. (R4,
R116, R174, R192, R195) -/
def Obligations.EveryStepKeepsTheCapacities : Prop :=
  ∀ s t : State, s.CapacityInv → Machine.step s = .next t → t.CapacityInv

/-- For every state that meets them, if a step answers a next state, that state meets them: the numbers of the orders in
the table are distinct and within 1..65535, as the next order number is, and at most 16 orders are in the table; a
run record names an order of the table in a running state, every order in a running state is the run record's, so
that at most one is; at most one order is ASSEMBLING, and the assembly timer runs exactly while one is. From such a
state a step also keeps these two: the pre-warm request stands exactly while a QUEUED order is bound to a present
mount; and without a run record the line is not SEIZED (so START_TONE, PHASING and PICTURE stand only under a run)
and the store is closed and empty. (R4, R5, R12, R13, R14, R15, R117, R127, R130, R150, R171) -/
def Obligations.EveryStepKeepsTheOrderTable : Prop :=
  ∀ s t : State, s.NumberInv → s.RunInv → Machine.step s = .next t →
    t.NumberInv ∧ t.RunInv ∧ (s.PrewarmInv → t.PrewarmInv) ∧ (s.RunEndInv → t.RunEndInv)

/-- For every state that meets them, if a step answers a next state, that state meets them: the settings lie in their
ranges with their conditions; the directory has 32 entries and no two enabled LOOP entries share a call code; a
valid motor part has s2 at least s1 + 20,000, Kp and Ki are in range; the dark offset is at most 1,023; the scan
valid mark stands only with both others; with the white mark W_raw is at least o + 512 and the gain is the
formula's; the curve has 17 knots of 0..4,095. (R28, R31, R61, R62, R64, R65, R67, R79, R81, R197) -/
def Obligations.EveryStepKeepsTheRecords : Prop :=
  ∀ s t : State, s.RecordsInv → s.CalibrationInv → Machine.step s = .next t → t.RecordsInv ∧ t.CalibrationInv

/-- For every state that meets it, if a step answers a next state, that state meets it: the loop is closed exactly while
the line is SEIZED, when there is exactly one activity; in IDLE and RELEASING nothing is sent or heard and the
loop-current timer is stopped; the clearing time runs exactly while RELEASING; in IDLE there are no run figures,
network or last listening end; a listen, a hold timer, the line timer and a line being sent belong to their
activities alone; START_TONE, PHASING and PICTURE have run figures; a burst, a dial-tone watch and an open listen
belong to their activities. (R128, R129, R130, R131, R132, R135, R140, R141, R142, R145, R146, R149) -/
def Obligations.EveryStepKeepsTheLineUnit : Prop :=
  ∀ s t : State, s.line.Inv → Machine.step s = .next t → t.line.Inv

end Statements
end

