-- ==== Sys2Proof/Laws/State.lean ====
section
/-! SUPPORT. One lemma for each field and each update of one block: what the update writes, and what it leaves. -/

namespace Sys2Proof.Machine

/-! ## onLink -/

@[simp] theorem onLink_now (f : Link → Link) (s : State) : (s.onLink f).now = s.now := rfl
@[simp] theorem onLink_pending (f : Link → Link) (s : State) : (s.onLink f).pending = s.pending := rfl
@[simp] theorem onLink_link (f : Link → Link) (s : State) : (s.onLink f).link = f s.link := rfl
@[simp] theorem onLink_settings (f : Link → Link) (s : State) : (s.onLink f).settings = s.settings := rfl
@[simp] theorem onLink_clock (f : Link → Link) (s : State) : (s.onLink f).clock = s.clock := rfl
@[simp] theorem onLink_manager (f : Link → Link) (s : State) : (s.onLink f).manager = s.manager := rfl
@[simp] theorem onLink_directory (f : Link → Link) (s : State) : (s.onLink f).directory = s.directory := rfl
@[simp] theorem onLink_panel (f : Link → Link) (s : State) : (s.onLink f).panel = s.panel := rfl
@[simp] theorem onLink_drum (f : Link → Link) (s : State) : (s.onLink f).drum = s.drum := rfl
@[simp] theorem onLink_motor (f : Link → Link) (s : State) : (s.onLink f).motor = s.motor := rfl
@[simp] theorem onLink_scanPart (f : Link → Link) (s : State) : (s.onLink f).scanPart = s.scanPart := rfl
@[simp] theorem onLink_curve (f : Link → Link) (s : State) : (s.onLink f).curve = s.curve := rfl
@[simp] theorem onLink_cal (f : Link → Link) (s : State) : (s.onLink f).cal = s.cal := rfl
@[simp] theorem onLink_lamp (f : Link → Link) (s : State) : (s.onLink f).lamp = s.lamp := rfl
@[simp] theorem onLink_carriage (f : Link → Link) (s : State) : (s.onLink f).carriage = s.carriage := rfl
@[simp] theorem onLink_encoder (f : Link → Link) (s : State) : (s.onLink f).encoder = s.encoder := rfl
@[simp] theorem onLink_scan (f : Link → Link) (s : State) : (s.onLink f).scan = s.scan := rfl
@[simp] theorem onLink_store (f : Link → Link) (s : State) : (s.onLink f).store = s.store := rfl
@[simp] theorem onLink_line (f : Link → Link) (s : State) : (s.onLink f).line = s.line := rfl
@[simp] theorem onLink_run (f : Link → Link) (s : State) : (s.onLink f).run = s.run := rfl
@[simp] theorem onLink_slips (f : Link → Link) (s : State) : (s.onLink f).slips = s.slips := rfl

/-! ## onManager -/

@[simp] theorem onManager_now (f : Manager → Manager) (s : State) : (s.onManager f).now = s.now := rfl
@[simp] theorem onManager_pending (f : Manager → Manager) (s : State) : (s.onManager f).pending = s.pending := rfl
@[simp] theorem onManager_link (f : Manager → Manager) (s : State) : (s.onManager f).link = s.link := rfl
@[simp] theorem onManager_settings (f : Manager → Manager) (s : State) : (s.onManager f).settings = s.settings := rfl
@[simp] theorem onManager_clock (f : Manager → Manager) (s : State) : (s.onManager f).clock = s.clock := rfl
@[simp] theorem onManager_manager (f : Manager → Manager) (s : State) : (s.onManager f).manager = f s.manager := rfl
@[simp] theorem onManager_directory (f : Manager → Manager) (s : State) : (s.onManager f).directory = s.directory := rfl
@[simp] theorem onManager_panel (f : Manager → Manager) (s : State) : (s.onManager f).panel = s.panel := rfl
@[simp] theorem onManager_drum (f : Manager → Manager) (s : State) : (s.onManager f).drum = s.drum := rfl
@[simp] theorem onManager_motor (f : Manager → Manager) (s : State) : (s.onManager f).motor = s.motor := rfl
@[simp] theorem onManager_scanPart (f : Manager → Manager) (s : State) : (s.onManager f).scanPart = s.scanPart := rfl
@[simp] theorem onManager_curve (f : Manager → Manager) (s : State) : (s.onManager f).curve = s.curve := rfl
@[simp] theorem onManager_cal (f : Manager → Manager) (s : State) : (s.onManager f).cal = s.cal := rfl
@[simp] theorem onManager_lamp (f : Manager → Manager) (s : State) : (s.onManager f).lamp = s.lamp := rfl
@[simp] theorem onManager_carriage (f : Manager → Manager) (s : State) : (s.onManager f).carriage = s.carriage := rfl
@[simp] theorem onManager_encoder (f : Manager → Manager) (s : State) : (s.onManager f).encoder = s.encoder := rfl
@[simp] theorem onManager_scan (f : Manager → Manager) (s : State) : (s.onManager f).scan = s.scan := rfl
@[simp] theorem onManager_store (f : Manager → Manager) (s : State) : (s.onManager f).store = s.store := rfl
@[simp] theorem onManager_line (f : Manager → Manager) (s : State) : (s.onManager f).line = s.line := rfl
@[simp] theorem onManager_run (f : Manager → Manager) (s : State) : (s.onManager f).run = s.run := rfl
@[simp] theorem onManager_slips (f : Manager → Manager) (s : State) : (s.onManager f).slips = s.slips := rfl

/-! ## onPanel -/

@[simp] theorem onPanel_now (f : Panel → Panel) (s : State) : (s.onPanel f).now = s.now := rfl
@[simp] theorem onPanel_pending (f : Panel → Panel) (s : State) : (s.onPanel f).pending = s.pending := rfl
@[simp] theorem onPanel_link (f : Panel → Panel) (s : State) : (s.onPanel f).link = s.link := rfl
@[simp] theorem onPanel_settings (f : Panel → Panel) (s : State) : (s.onPanel f).settings = s.settings := rfl
@[simp] theorem onPanel_clock (f : Panel → Panel) (s : State) : (s.onPanel f).clock = s.clock := rfl
@[simp] theorem onPanel_manager (f : Panel → Panel) (s : State) : (s.onPanel f).manager = s.manager := rfl
@[simp] theorem onPanel_directory (f : Panel → Panel) (s : State) : (s.onPanel f).directory = s.directory := rfl
@[simp] theorem onPanel_panel (f : Panel → Panel) (s : State) : (s.onPanel f).panel = f s.panel := rfl
@[simp] theorem onPanel_drum (f : Panel → Panel) (s : State) : (s.onPanel f).drum = s.drum := rfl
@[simp] theorem onPanel_motor (f : Panel → Panel) (s : State) : (s.onPanel f).motor = s.motor := rfl
@[simp] theorem onPanel_scanPart (f : Panel → Panel) (s : State) : (s.onPanel f).scanPart = s.scanPart := rfl
@[simp] theorem onPanel_curve (f : Panel → Panel) (s : State) : (s.onPanel f).curve = s.curve := rfl
@[simp] theorem onPanel_cal (f : Panel → Panel) (s : State) : (s.onPanel f).cal = s.cal := rfl
@[simp] theorem onPanel_lamp (f : Panel → Panel) (s : State) : (s.onPanel f).lamp = s.lamp := rfl
@[simp] theorem onPanel_carriage (f : Panel → Panel) (s : State) : (s.onPanel f).carriage = s.carriage := rfl
@[simp] theorem onPanel_encoder (f : Panel → Panel) (s : State) : (s.onPanel f).encoder = s.encoder := rfl
@[simp] theorem onPanel_scan (f : Panel → Panel) (s : State) : (s.onPanel f).scan = s.scan := rfl
@[simp] theorem onPanel_store (f : Panel → Panel) (s : State) : (s.onPanel f).store = s.store := rfl
@[simp] theorem onPanel_line (f : Panel → Panel) (s : State) : (s.onPanel f).line = s.line := rfl
@[simp] theorem onPanel_run (f : Panel → Panel) (s : State) : (s.onPanel f).run = s.run := rfl
@[simp] theorem onPanel_slips (f : Panel → Panel) (s : State) : (s.onPanel f).slips = s.slips := rfl

/-! ## onDrum -/

@[simp] theorem onDrum_now (f : Drum → Drum) (s : State) : (s.onDrum f).now = s.now := rfl
@[simp] theorem onDrum_pending (f : Drum → Drum) (s : State) : (s.onDrum f).pending = s.pending := rfl
@[simp] theorem onDrum_link (f : Drum → Drum) (s : State) : (s.onDrum f).link = s.link := rfl
@[simp] theorem onDrum_settings (f : Drum → Drum) (s : State) : (s.onDrum f).settings = s.settings := rfl
@[simp] theorem onDrum_clock (f : Drum → Drum) (s : State) : (s.onDrum f).clock = s.clock := rfl
@[simp] theorem onDrum_manager (f : Drum → Drum) (s : State) : (s.onDrum f).manager = s.manager := rfl
@[simp] theorem onDrum_directory (f : Drum → Drum) (s : State) : (s.onDrum f).directory = s.directory := rfl
@[simp] theorem onDrum_panel (f : Drum → Drum) (s : State) : (s.onDrum f).panel = s.panel := rfl
@[simp] theorem onDrum_drum (f : Drum → Drum) (s : State) : (s.onDrum f).drum = f s.drum := rfl
@[simp] theorem onDrum_motor (f : Drum → Drum) (s : State) : (s.onDrum f).motor = s.motor := rfl
@[simp] theorem onDrum_scanPart (f : Drum → Drum) (s : State) : (s.onDrum f).scanPart = s.scanPart := rfl
@[simp] theorem onDrum_curve (f : Drum → Drum) (s : State) : (s.onDrum f).curve = s.curve := rfl
@[simp] theorem onDrum_cal (f : Drum → Drum) (s : State) : (s.onDrum f).cal = s.cal := rfl
@[simp] theorem onDrum_lamp (f : Drum → Drum) (s : State) : (s.onDrum f).lamp = s.lamp := rfl
@[simp] theorem onDrum_carriage (f : Drum → Drum) (s : State) : (s.onDrum f).carriage = s.carriage := rfl
@[simp] theorem onDrum_encoder (f : Drum → Drum) (s : State) : (s.onDrum f).encoder = s.encoder := rfl
@[simp] theorem onDrum_scan (f : Drum → Drum) (s : State) : (s.onDrum f).scan = s.scan := rfl
@[simp] theorem onDrum_store (f : Drum → Drum) (s : State) : (s.onDrum f).store = s.store := rfl
@[simp] theorem onDrum_line (f : Drum → Drum) (s : State) : (s.onDrum f).line = s.line := rfl
@[simp] theorem onDrum_run (f : Drum → Drum) (s : State) : (s.onDrum f).run = s.run := rfl
@[simp] theorem onDrum_slips (f : Drum → Drum) (s : State) : (s.onDrum f).slips = s.slips := rfl

/-! ## onLamp -/

@[simp] theorem onLamp_now (f : Lamp → Lamp) (s : State) : (s.onLamp f).now = s.now := rfl
@[simp] theorem onLamp_pending (f : Lamp → Lamp) (s : State) : (s.onLamp f).pending = s.pending := rfl
@[simp] theorem onLamp_link (f : Lamp → Lamp) (s : State) : (s.onLamp f).link = s.link := rfl
@[simp] theorem onLamp_settings (f : Lamp → Lamp) (s : State) : (s.onLamp f).settings = s.settings := rfl
@[simp] theorem onLamp_clock (f : Lamp → Lamp) (s : State) : (s.onLamp f).clock = s.clock := rfl
@[simp] theorem onLamp_manager (f : Lamp → Lamp) (s : State) : (s.onLamp f).manager = s.manager := rfl
@[simp] theorem onLamp_directory (f : Lamp → Lamp) (s : State) : (s.onLamp f).directory = s.directory := rfl
@[simp] theorem onLamp_panel (f : Lamp → Lamp) (s : State) : (s.onLamp f).panel = s.panel := rfl
@[simp] theorem onLamp_drum (f : Lamp → Lamp) (s : State) : (s.onLamp f).drum = s.drum := rfl
@[simp] theorem onLamp_motor (f : Lamp → Lamp) (s : State) : (s.onLamp f).motor = s.motor := rfl
@[simp] theorem onLamp_scanPart (f : Lamp → Lamp) (s : State) : (s.onLamp f).scanPart = s.scanPart := rfl
@[simp] theorem onLamp_curve (f : Lamp → Lamp) (s : State) : (s.onLamp f).curve = s.curve := rfl
@[simp] theorem onLamp_cal (f : Lamp → Lamp) (s : State) : (s.onLamp f).cal = s.cal := rfl
@[simp] theorem onLamp_lamp (f : Lamp → Lamp) (s : State) : (s.onLamp f).lamp = f s.lamp := rfl
@[simp] theorem onLamp_carriage (f : Lamp → Lamp) (s : State) : (s.onLamp f).carriage = s.carriage := rfl
@[simp] theorem onLamp_encoder (f : Lamp → Lamp) (s : State) : (s.onLamp f).encoder = s.encoder := rfl
@[simp] theorem onLamp_scan (f : Lamp → Lamp) (s : State) : (s.onLamp f).scan = s.scan := rfl
@[simp] theorem onLamp_store (f : Lamp → Lamp) (s : State) : (s.onLamp f).store = s.store := rfl
@[simp] theorem onLamp_line (f : Lamp → Lamp) (s : State) : (s.onLamp f).line = s.line := rfl
@[simp] theorem onLamp_run (f : Lamp → Lamp) (s : State) : (s.onLamp f).run = s.run := rfl
@[simp] theorem onLamp_slips (f : Lamp → Lamp) (s : State) : (s.onLamp f).slips = s.slips := rfl

/-! ## onCarriage -/

@[simp] theorem onCarriage_now (f : Carriage → Carriage) (s : State) : (s.onCarriage f).now = s.now := rfl
@[simp] theorem onCarriage_pending (f : Carriage → Carriage) (s : State) : (s.onCarriage f).pending = s.pending := rfl
@[simp] theorem onCarriage_link (f : Carriage → Carriage) (s : State) : (s.onCarriage f).link = s.link := rfl
@[simp] theorem onCarriage_settings (f : Carriage → Carriage) (s : State) : (s.onCarriage f).settings = s.settings := rfl
@[simp] theorem onCarriage_clock (f : Carriage → Carriage) (s : State) : (s.onCarriage f).clock = s.clock := rfl
@[simp] theorem onCarriage_manager (f : Carriage → Carriage) (s : State) : (s.onCarriage f).manager = s.manager := rfl
@[simp] theorem onCarriage_directory (f : Carriage → Carriage) (s : State) : (s.onCarriage f).directory = s.directory := rfl
@[simp] theorem onCarriage_panel (f : Carriage → Carriage) (s : State) : (s.onCarriage f).panel = s.panel := rfl
@[simp] theorem onCarriage_drum (f : Carriage → Carriage) (s : State) : (s.onCarriage f).drum = s.drum := rfl
@[simp] theorem onCarriage_motor (f : Carriage → Carriage) (s : State) : (s.onCarriage f).motor = s.motor := rfl
@[simp] theorem onCarriage_scanPart (f : Carriage → Carriage) (s : State) : (s.onCarriage f).scanPart = s.scanPart := rfl
@[simp] theorem onCarriage_curve (f : Carriage → Carriage) (s : State) : (s.onCarriage f).curve = s.curve := rfl
@[simp] theorem onCarriage_cal (f : Carriage → Carriage) (s : State) : (s.onCarriage f).cal = s.cal := rfl
@[simp] theorem onCarriage_lamp (f : Carriage → Carriage) (s : State) : (s.onCarriage f).lamp = s.lamp := rfl
@[simp] theorem onCarriage_carriage (f : Carriage → Carriage) (s : State) : (s.onCarriage f).carriage = f s.carriage := rfl
@[simp] theorem onCarriage_encoder (f : Carriage → Carriage) (s : State) : (s.onCarriage f).encoder = s.encoder := rfl
@[simp] theorem onCarriage_scan (f : Carriage → Carriage) (s : State) : (s.onCarriage f).scan = s.scan := rfl
@[simp] theorem onCarriage_store (f : Carriage → Carriage) (s : State) : (s.onCarriage f).store = s.store := rfl
@[simp] theorem onCarriage_line (f : Carriage → Carriage) (s : State) : (s.onCarriage f).line = s.line := rfl
@[simp] theorem onCarriage_run (f : Carriage → Carriage) (s : State) : (s.onCarriage f).run = s.run := rfl
@[simp] theorem onCarriage_slips (f : Carriage → Carriage) (s : State) : (s.onCarriage f).slips = s.slips := rfl

/-! ## onStore -/

@[simp] theorem onStore_now (f : Store → Store) (s : State) : (s.onStore f).now = s.now := rfl
@[simp] theorem onStore_pending (f : Store → Store) (s : State) : (s.onStore f).pending = s.pending := rfl
@[simp] theorem onStore_link (f : Store → Store) (s : State) : (s.onStore f).link = s.link := rfl
@[simp] theorem onStore_settings (f : Store → Store) (s : State) : (s.onStore f).settings = s.settings := rfl
@[simp] theorem onStore_clock (f : Store → Store) (s : State) : (s.onStore f).clock = s.clock := rfl
@[simp] theorem onStore_manager (f : Store → Store) (s : State) : (s.onStore f).manager = s.manager := rfl
@[simp] theorem onStore_directory (f : Store → Store) (s : State) : (s.onStore f).directory = s.directory := rfl
@[simp] theorem onStore_panel (f : Store → Store) (s : State) : (s.onStore f).panel = s.panel := rfl
@[simp] theorem onStore_drum (f : Store → Store) (s : State) : (s.onStore f).drum = s.drum := rfl
@[simp] theorem onStore_motor (f : Store → Store) (s : State) : (s.onStore f).motor = s.motor := rfl
@[simp] theorem onStore_scanPart (f : Store → Store) (s : State) : (s.onStore f).scanPart = s.scanPart := rfl
@[simp] theorem onStore_curve (f : Store → Store) (s : State) : (s.onStore f).curve = s.curve := rfl
@[simp] theorem onStore_cal (f : Store → Store) (s : State) : (s.onStore f).cal = s.cal := rfl
@[simp] theorem onStore_lamp (f : Store → Store) (s : State) : (s.onStore f).lamp = s.lamp := rfl
@[simp] theorem onStore_carriage (f : Store → Store) (s : State) : (s.onStore f).carriage = s.carriage := rfl
@[simp] theorem onStore_encoder (f : Store → Store) (s : State) : (s.onStore f).encoder = s.encoder := rfl
@[simp] theorem onStore_scan (f : Store → Store) (s : State) : (s.onStore f).scan = s.scan := rfl
@[simp] theorem onStore_store (f : Store → Store) (s : State) : (s.onStore f).store = f s.store := rfl
@[simp] theorem onStore_line (f : Store → Store) (s : State) : (s.onStore f).line = s.line := rfl
@[simp] theorem onStore_run (f : Store → Store) (s : State) : (s.onStore f).run = s.run := rfl
@[simp] theorem onStore_slips (f : Store → Store) (s : State) : (s.onStore f).slips = s.slips := rfl

/-! ## onLine -/

@[simp] theorem onLine_now (f : LineUnit → LineUnit) (s : State) : (s.onLine f).now = s.now := rfl
@[simp] theorem onLine_pending (f : LineUnit → LineUnit) (s : State) : (s.onLine f).pending = s.pending := rfl
@[simp] theorem onLine_link (f : LineUnit → LineUnit) (s : State) : (s.onLine f).link = s.link := rfl
@[simp] theorem onLine_settings (f : LineUnit → LineUnit) (s : State) : (s.onLine f).settings = s.settings := rfl
@[simp] theorem onLine_clock (f : LineUnit → LineUnit) (s : State) : (s.onLine f).clock = s.clock := rfl
@[simp] theorem onLine_manager (f : LineUnit → LineUnit) (s : State) : (s.onLine f).manager = s.manager := rfl
@[simp] theorem onLine_directory (f : LineUnit → LineUnit) (s : State) : (s.onLine f).directory = s.directory := rfl
@[simp] theorem onLine_panel (f : LineUnit → LineUnit) (s : State) : (s.onLine f).panel = s.panel := rfl
@[simp] theorem onLine_drum (f : LineUnit → LineUnit) (s : State) : (s.onLine f).drum = s.drum := rfl
@[simp] theorem onLine_motor (f : LineUnit → LineUnit) (s : State) : (s.onLine f).motor = s.motor := rfl
@[simp] theorem onLine_scanPart (f : LineUnit → LineUnit) (s : State) : (s.onLine f).scanPart = s.scanPart := rfl
@[simp] theorem onLine_curve (f : LineUnit → LineUnit) (s : State) : (s.onLine f).curve = s.curve := rfl
@[simp] theorem onLine_cal (f : LineUnit → LineUnit) (s : State) : (s.onLine f).cal = s.cal := rfl
@[simp] theorem onLine_lamp (f : LineUnit → LineUnit) (s : State) : (s.onLine f).lamp = s.lamp := rfl
@[simp] theorem onLine_carriage (f : LineUnit → LineUnit) (s : State) : (s.onLine f).carriage = s.carriage := rfl
@[simp] theorem onLine_encoder (f : LineUnit → LineUnit) (s : State) : (s.onLine f).encoder = s.encoder := rfl
@[simp] theorem onLine_scan (f : LineUnit → LineUnit) (s : State) : (s.onLine f).scan = s.scan := rfl
@[simp] theorem onLine_store (f : LineUnit → LineUnit) (s : State) : (s.onLine f).store = s.store := rfl
@[simp] theorem onLine_line (f : LineUnit → LineUnit) (s : State) : (s.onLine f).line = f s.line := rfl
@[simp] theorem onLine_run (f : LineUnit → LineUnit) (s : State) : (s.onLine f).run = s.run := rfl
@[simp] theorem onLine_slips (f : LineUnit → LineUnit) (s : State) : (s.onLine f).slips = s.slips := rfl

/-! ## onSlips -/

@[simp] theorem onSlips_now (f : SlipUnit → SlipUnit) (s : State) : (s.onSlips f).now = s.now := rfl
@[simp] theorem onSlips_pending (f : SlipUnit → SlipUnit) (s : State) : (s.onSlips f).pending = s.pending := rfl
@[simp] theorem onSlips_link (f : SlipUnit → SlipUnit) (s : State) : (s.onSlips f).link = s.link := rfl
@[simp] theorem onSlips_settings (f : SlipUnit → SlipUnit) (s : State) : (s.onSlips f).settings = s.settings := rfl
@[simp] theorem onSlips_clock (f : SlipUnit → SlipUnit) (s : State) : (s.onSlips f).clock = s.clock := rfl
@[simp] theorem onSlips_manager (f : SlipUnit → SlipUnit) (s : State) : (s.onSlips f).manager = s.manager := rfl
@[simp] theorem onSlips_directory (f : SlipUnit → SlipUnit) (s : State) : (s.onSlips f).directory = s.directory := rfl
@[simp] theorem onSlips_panel (f : SlipUnit → SlipUnit) (s : State) : (s.onSlips f).panel = s.panel := rfl
@[simp] theorem onSlips_drum (f : SlipUnit → SlipUnit) (s : State) : (s.onSlips f).drum = s.drum := rfl
@[simp] theorem onSlips_motor (f : SlipUnit → SlipUnit) (s : State) : (s.onSlips f).motor = s.motor := rfl
@[simp] theorem onSlips_scanPart (f : SlipUnit → SlipUnit) (s : State) : (s.onSlips f).scanPart = s.scanPart := rfl
@[simp] theorem onSlips_curve (f : SlipUnit → SlipUnit) (s : State) : (s.onSlips f).curve = s.curve := rfl
@[simp] theorem onSlips_cal (f : SlipUnit → SlipUnit) (s : State) : (s.onSlips f).cal = s.cal := rfl
@[simp] theorem onSlips_lamp (f : SlipUnit → SlipUnit) (s : State) : (s.onSlips f).lamp = s.lamp := rfl
@[simp] theorem onSlips_carriage (f : SlipUnit → SlipUnit) (s : State) : (s.onSlips f).carriage = s.carriage := rfl
@[simp] theorem onSlips_encoder (f : SlipUnit → SlipUnit) (s : State) : (s.onSlips f).encoder = s.encoder := rfl
@[simp] theorem onSlips_scan (f : SlipUnit → SlipUnit) (s : State) : (s.onSlips f).scan = s.scan := rfl
@[simp] theorem onSlips_store (f : SlipUnit → SlipUnit) (s : State) : (s.onSlips f).store = s.store := rfl
@[simp] theorem onSlips_line (f : SlipUnit → SlipUnit) (s : State) : (s.onSlips f).line = s.line := rfl
@[simp] theorem onSlips_run (f : SlipUnit → SlipUnit) (s : State) : (s.onSlips f).run = s.run := rfl
@[simp] theorem onSlips_slips (f : SlipUnit → SlipUnit) (s : State) : (s.onSlips f).slips = f s.slips := rfl

/-! ## onRun -/

@[simp] theorem onRun_now (f : RunRecord → RunRecord) (s : State) : (s.onRun f).now = s.now := rfl
@[simp] theorem onRun_pending (f : RunRecord → RunRecord) (s : State) : (s.onRun f).pending = s.pending := rfl
@[simp] theorem onRun_link (f : RunRecord → RunRecord) (s : State) : (s.onRun f).link = s.link := rfl
@[simp] theorem onRun_settings (f : RunRecord → RunRecord) (s : State) : (s.onRun f).settings = s.settings := rfl
@[simp] theorem onRun_clock (f : RunRecord → RunRecord) (s : State) : (s.onRun f).clock = s.clock := rfl
@[simp] theorem onRun_manager (f : RunRecord → RunRecord) (s : State) : (s.onRun f).manager = s.manager := rfl
@[simp] theorem onRun_directory (f : RunRecord → RunRecord) (s : State) : (s.onRun f).directory = s.directory := rfl
@[simp] theorem onRun_panel (f : RunRecord → RunRecord) (s : State) : (s.onRun f).panel = s.panel := rfl
@[simp] theorem onRun_drum (f : RunRecord → RunRecord) (s : State) : (s.onRun f).drum = s.drum := rfl
@[simp] theorem onRun_motor (f : RunRecord → RunRecord) (s : State) : (s.onRun f).motor = s.motor := rfl
@[simp] theorem onRun_scanPart (f : RunRecord → RunRecord) (s : State) : (s.onRun f).scanPart = s.scanPart := rfl
@[simp] theorem onRun_curve (f : RunRecord → RunRecord) (s : State) : (s.onRun f).curve = s.curve := rfl
@[simp] theorem onRun_cal (f : RunRecord → RunRecord) (s : State) : (s.onRun f).cal = s.cal := rfl
@[simp] theorem onRun_lamp (f : RunRecord → RunRecord) (s : State) : (s.onRun f).lamp = s.lamp := rfl
@[simp] theorem onRun_carriage (f : RunRecord → RunRecord) (s : State) : (s.onRun f).carriage = s.carriage := rfl
@[simp] theorem onRun_encoder (f : RunRecord → RunRecord) (s : State) : (s.onRun f).encoder = s.encoder := rfl
@[simp] theorem onRun_scan (f : RunRecord → RunRecord) (s : State) : (s.onRun f).scan = s.scan := rfl
@[simp] theorem onRun_store (f : RunRecord → RunRecord) (s : State) : (s.onRun f).store = s.store := rfl
@[simp] theorem onRun_line (f : RunRecord → RunRecord) (s : State) : (s.onRun f).line = s.line := rfl
@[simp] theorem onRun_run (f : RunRecord → RunRecord) (s : State) : (s.onRun f).run = s.run.map f := rfl
@[simp] theorem onRun_slips (f : RunRecord → RunRecord) (s : State) : (s.onRun f).slips = s.slips := rfl

/-! ## onCal -/

@[simp] theorem onCal_now (f : CalRun → CalRun) (s : State) : (s.onCal f).now = s.now := rfl
@[simp] theorem onCal_pending (f : CalRun → CalRun) (s : State) : (s.onCal f).pending = s.pending := rfl
@[simp] theorem onCal_link (f : CalRun → CalRun) (s : State) : (s.onCal f).link = s.link := rfl
@[simp] theorem onCal_settings (f : CalRun → CalRun) (s : State) : (s.onCal f).settings = s.settings := rfl
@[simp] theorem onCal_clock (f : CalRun → CalRun) (s : State) : (s.onCal f).clock = s.clock := rfl
@[simp] theorem onCal_manager (f : CalRun → CalRun) (s : State) : (s.onCal f).manager = s.manager := rfl
@[simp] theorem onCal_directory (f : CalRun → CalRun) (s : State) : (s.onCal f).directory = s.directory := rfl
@[simp] theorem onCal_panel (f : CalRun → CalRun) (s : State) : (s.onCal f).panel = s.panel := rfl
@[simp] theorem onCal_drum (f : CalRun → CalRun) (s : State) : (s.onCal f).drum = s.drum := rfl
@[simp] theorem onCal_motor (f : CalRun → CalRun) (s : State) : (s.onCal f).motor = s.motor := rfl
@[simp] theorem onCal_scanPart (f : CalRun → CalRun) (s : State) : (s.onCal f).scanPart = s.scanPart := rfl
@[simp] theorem onCal_curve (f : CalRun → CalRun) (s : State) : (s.onCal f).curve = s.curve := rfl
@[simp] theorem onCal_cal (f : CalRun → CalRun) (s : State) : (s.onCal f).cal = s.cal.map f := rfl
@[simp] theorem onCal_lamp (f : CalRun → CalRun) (s : State) : (s.onCal f).lamp = s.lamp := rfl
@[simp] theorem onCal_carriage (f : CalRun → CalRun) (s : State) : (s.onCal f).carriage = s.carriage := rfl
@[simp] theorem onCal_encoder (f : CalRun → CalRun) (s : State) : (s.onCal f).encoder = s.encoder := rfl
@[simp] theorem onCal_scan (f : CalRun → CalRun) (s : State) : (s.onCal f).scan = s.scan := rfl
@[simp] theorem onCal_store (f : CalRun → CalRun) (s : State) : (s.onCal f).store = s.store := rfl
@[simp] theorem onCal_line (f : CalRun → CalRun) (s : State) : (s.onCal f).line = s.line := rfl
@[simp] theorem onCal_run (f : CalRun → CalRun) (s : State) : (s.onCal f).run = s.run := rfl
@[simp] theorem onCal_slips (f : CalRun → CalRun) (s : State) : (s.onCal f).slips = s.slips := rfl

/-! ## The passing of time -/

@[simp] theorem advance_now (dt : Nat) (s : State) : (advance dt s).now = s.now + dt := rfl
@[simp] theorem advance_pending (dt : Nat) (s : State) : (advance dt s).pending = s.pending := rfl
@[simp] theorem advance_link (dt : Nat) (s : State) : (advance dt s).link = s.link := rfl
@[simp] theorem advance_settings (dt : Nat) (s : State) : (advance dt s).settings = s.settings := rfl
@[simp] theorem advance_clock (dt : Nat) (s : State) : (advance dt s).clock = s.clock := rfl
@[simp] theorem advance_manager (dt : Nat) (s : State) : (advance dt s).manager = s.manager := rfl
@[simp] theorem advance_directory (dt : Nat) (s : State) : (advance dt s).directory = s.directory := rfl
@[simp] theorem advance_panel (dt : Nat) (s : State) : (advance dt s).panel = s.panel := rfl
@[simp] theorem advance_drum (dt : Nat) (s : State) : (advance dt s).drum = s.drum := rfl
@[simp] theorem advance_motor (dt : Nat) (s : State) : (advance dt s).motor = s.motor := rfl
@[simp] theorem advance_scanPart (dt : Nat) (s : State) : (advance dt s).scanPart = s.scanPart := rfl
@[simp] theorem advance_curve (dt : Nat) (s : State) : (advance dt s).curve = s.curve := rfl
@[simp] theorem advance_cal (dt : Nat) (s : State) : (advance dt s).cal = s.cal := rfl
@[simp] theorem advance_lamp (dt : Nat) (s : State) : (advance dt s).lamp = s.lamp := rfl
@[simp] theorem advance_carriage (dt : Nat) (s : State) : (advance dt s).carriage = s.carriage := rfl
@[simp] theorem advance_encoder (dt : Nat) (s : State) : (advance dt s).encoder = s.encoder := rfl
@[simp] theorem advance_scan (dt : Nat) (s : State) : (advance dt s).scan = s.scan := rfl
@[simp] theorem advance_store (dt : Nat) (s : State) : (advance dt s).store = s.store := rfl
@[simp] theorem advance_line (dt : Nat) (s : State) : (advance dt s).line = s.line := rfl
@[simp] theorem advance_run (dt : Nat) (s : State) : (advance dt s).run = s.run := rfl
@[simp] theorem advance_slips (dt : Nat) (s : State) : (advance dt s).slips = s.slips := rfl

/-! ## Two updates of one block -/

@[simp] theorem onLink_onLink (f g : Link → Link) (s : State) : (s.onLink f).onLink g = s.onLink (g ∘ f) := rfl
@[simp] theorem onManager_onManager (f g : Manager → Manager) (s : State) : (s.onManager f).onManager g = s.onManager (g ∘ f) := rfl
@[simp] theorem onPanel_onPanel (f g : Panel → Panel) (s : State) : (s.onPanel f).onPanel g = s.onPanel (g ∘ f) := rfl
@[simp] theorem onDrum_onDrum (f g : Drum → Drum) (s : State) : (s.onDrum f).onDrum g = s.onDrum (g ∘ f) := rfl
@[simp] theorem onLamp_onLamp (f g : Lamp → Lamp) (s : State) : (s.onLamp f).onLamp g = s.onLamp (g ∘ f) := rfl
@[simp] theorem onCarriage_onCarriage (f g : Carriage → Carriage) (s : State) : (s.onCarriage f).onCarriage g = s.onCarriage (g ∘ f) := rfl
@[simp] theorem onStore_onStore (f g : Store → Store) (s : State) : (s.onStore f).onStore g = s.onStore (g ∘ f) := rfl
@[simp] theorem onLine_onLine (f g : LineUnit → LineUnit) (s : State) : (s.onLine f).onLine g = s.onLine (g ∘ f) := rfl
@[simp] theorem onSlips_onSlips (f g : SlipUnit → SlipUnit) (s : State) : (s.onSlips f).onSlips g = s.onSlips (g ∘ f) := rfl

end Sys2Proof.Machine
end

