-- ==== Sys2Proof/Laws/FramesOps.lean ====
section
/-! SUPPORT. What each operation of Machine/Ops.lean leaves as it was: one lemma for each operation. -/

namespace Sys2Proof.Machine

@[simp] theorem placeNotice_keeps (n : Notice) (s : State) :
    (placeNotice n s).now = s.now ∧ (placeNotice n s).pending = s.pending ∧
    (placeNotice n s).settings = s.settings ∧ (placeNotice n s).clock = s.clock ∧
    (placeNotice n s).manager = s.manager ∧ (placeNotice n s).directory = s.directory ∧
    (placeNotice n s).panel = s.panel ∧ (placeNotice n s).drum = s.drum ∧ (placeNotice n s).motor = s.motor ∧
    (placeNotice n s).scanPart = s.scanPart ∧ (placeNotice n s).curve = s.curve ∧ (placeNotice n s).cal = s.cal ∧
    (placeNotice n s).lamp = s.lamp ∧ (placeNotice n s).carriage = s.carriage ∧
    (placeNotice n s).encoder = s.encoder ∧ (placeNotice n s).scan = s.scan ∧ (placeNotice n s).store = s.store ∧
    (placeNotice n s).line = s.line ∧ (placeNotice n s).run = s.run ∧ (placeNotice n s).slips = s.slips := by
  simp only [placeNotice]
  simp

@[simp] theorem updateOrder_keeps (n : Nat) (f : Order → Order) (s : State) :
    (updateOrder n f s).now = s.now ∧ (updateOrder n f s).pending = s.pending ∧ (updateOrder n f s).link = s.link ∧
    (updateOrder n f s).settings = s.settings ∧ (updateOrder n f s).clock = s.clock ∧
    (updateOrder n f s).directory = s.directory ∧ (updateOrder n f s).panel = s.panel ∧
    (updateOrder n f s).drum = s.drum ∧ (updateOrder n f s).motor = s.motor ∧
    (updateOrder n f s).scanPart = s.scanPart ∧ (updateOrder n f s).curve = s.curve ∧
    (updateOrder n f s).cal = s.cal ∧ (updateOrder n f s).lamp = s.lamp ∧
    (updateOrder n f s).carriage = s.carriage ∧ (updateOrder n f s).encoder = s.encoder ∧
    (updateOrder n f s).scan = s.scan ∧ (updateOrder n f s).store = s.store ∧ (updateOrder n f s).line = s.line ∧
    (updateOrder n f s).run = s.run ∧ (updateOrder n f s).slips = s.slips := by
  simp only [updateOrder]
  simp

@[simp] theorem removeOrder_keeps (n : Nat) (s : State) :
    (removeOrder n s).now = s.now ∧ (removeOrder n s).pending = s.pending ∧ (removeOrder n s).link = s.link ∧
    (removeOrder n s).settings = s.settings ∧ (removeOrder n s).clock = s.clock ∧
    (removeOrder n s).directory = s.directory ∧ (removeOrder n s).panel = s.panel ∧
    (removeOrder n s).drum = s.drum ∧ (removeOrder n s).motor = s.motor ∧ (removeOrder n s).scanPart = s.scanPart ∧
    (removeOrder n s).curve = s.curve ∧ (removeOrder n s).cal = s.cal ∧ (removeOrder n s).lamp = s.lamp ∧
    (removeOrder n s).carriage = s.carriage ∧ (removeOrder n s).encoder = s.encoder ∧
    (removeOrder n s).scan = s.scan ∧ (removeOrder n s).store = s.store ∧ (removeOrder n s).line = s.line ∧
    (removeOrder n s).run = s.run ∧ (removeOrder n s).slips = s.slips := by
  simp only [removeOrder]
  simp

@[simp] theorem placeOrderEvent_keeps (n : Nat) (e : EventState) (s : State) :
    (placeOrderEvent n e s).now = s.now ∧ (placeOrderEvent n e s).pending = s.pending ∧
    (placeOrderEvent n e s).settings = s.settings ∧ (placeOrderEvent n e s).clock = s.clock ∧
    (placeOrderEvent n e s).manager = s.manager ∧ (placeOrderEvent n e s).directory = s.directory ∧
    (placeOrderEvent n e s).panel = s.panel ∧ (placeOrderEvent n e s).drum = s.drum ∧
    (placeOrderEvent n e s).motor = s.motor ∧ (placeOrderEvent n e s).scanPart = s.scanPart ∧
    (placeOrderEvent n e s).curve = s.curve ∧ (placeOrderEvent n e s).cal = s.cal ∧
    (placeOrderEvent n e s).lamp = s.lamp ∧ (placeOrderEvent n e s).carriage = s.carriage ∧
    (placeOrderEvent n e s).encoder = s.encoder ∧ (placeOrderEvent n e s).scan = s.scan ∧
    (placeOrderEvent n e s).store = s.store ∧ (placeOrderEvent n e s).line = s.line ∧
    (placeOrderEvent n e s).run = s.run ∧ (placeOrderEvent n e s).slips = s.slips := by
  simp only [placeOrderEvent]
  (repeat' split) <;> simp

@[simp] theorem enterState_keeps (n : Nat) (st : OrderState) (s : State) :
    (enterState n st s).now = s.now ∧ (enterState n st s).pending = s.pending ∧
    (enterState n st s).settings = s.settings ∧ (enterState n st s).clock = s.clock ∧
    (enterState n st s).directory = s.directory ∧ (enterState n st s).panel = s.panel ∧
    (enterState n st s).drum = s.drum ∧ (enterState n st s).motor = s.motor ∧
    (enterState n st s).scanPart = s.scanPart ∧ (enterState n st s).curve = s.curve ∧
    (enterState n st s).cal = s.cal ∧ (enterState n st s).lamp = s.lamp ∧
    (enterState n st s).carriage = s.carriage ∧ (enterState n st s).encoder = s.encoder ∧
    (enterState n st s).scan = s.scan ∧ (enterState n st s).store = s.store ∧ (enterState n st s).line = s.line ∧
    (enterState n st s).run = s.run ∧ (enterState n st s).slips = s.slips := by
  simp only [enterState]
  simp

@[simp] theorem finishOrder_keeps (n : Nat) (r : OrderResult) (s : State) :
    (finishOrder n r s).now = s.now ∧ (finishOrder n r s).pending = s.pending ∧
    (finishOrder n r s).settings = s.settings ∧ (finishOrder n r s).clock = s.clock ∧
    (finishOrder n r s).directory = s.directory ∧ (finishOrder n r s).panel = s.panel ∧
    (finishOrder n r s).drum = s.drum ∧ (finishOrder n r s).motor = s.motor ∧
    (finishOrder n r s).scanPart = s.scanPart ∧ (finishOrder n r s).curve = s.curve ∧
    (finishOrder n r s).cal = s.cal ∧ (finishOrder n r s).lamp = s.lamp ∧
    (finishOrder n r s).carriage = s.carriage ∧ (finishOrder n r s).encoder = s.encoder ∧
    (finishOrder n r s).scan = s.scan ∧ (finishOrder n r s).store = s.store ∧ (finishOrder n r s).line = s.line ∧
    (finishOrder n r s).run = s.run ∧ (finishOrder n r s).slips = s.slips := by
  simp only [finishOrder]
  simp

end Sys2Proof.Machine
end

