-- ==== Sys2Proof/Laws/FramesCarriage.lean ====
section
/-! SUPPORT. What each operation of Machine/Carriage.lean leaves as it was: one lemma for each operation. -/

namespace Sys2Proof.Machine

@[simp] theorem reportCarriage_keeps (s : State) :
    (reportCarriage s).now = s.now ∧ (reportCarriage s).pending = s.pending ∧ (reportCarriage s).link = s.link ∧
    (reportCarriage s).settings = s.settings ∧ (reportCarriage s).clock = s.clock ∧
    (reportCarriage s).manager = s.manager ∧ (reportCarriage s).directory = s.directory ∧
    (reportCarriage s).panel = s.panel ∧ (reportCarriage s).drum = s.drum ∧ (reportCarriage s).motor = s.motor ∧
    (reportCarriage s).scanPart = s.scanPart ∧ (reportCarriage s).curve = s.curve ∧
    (reportCarriage s).cal = s.cal ∧ (reportCarriage s).lamp = s.lamp ∧ (reportCarriage s).carriage = s.carriage ∧
    (reportCarriage s).encoder = s.encoder ∧ (reportCarriage s).scan = s.scan ∧
    (reportCarriage s).store = s.store ∧ (reportCarriage s).line = s.line ∧ (reportCarriage s).slips = s.slips := by
  simp only [reportCarriage]
  simp

@[simp] theorem returnCarriage_keeps (s : State) :
    (returnCarriage s).now = s.now ∧ (returnCarriage s).pending = s.pending ∧ (returnCarriage s).link = s.link ∧
    (returnCarriage s).settings = s.settings ∧ (returnCarriage s).clock = s.clock ∧
    (returnCarriage s).manager = s.manager ∧ (returnCarriage s).directory = s.directory ∧
    (returnCarriage s).panel = s.panel ∧ (returnCarriage s).drum = s.drum ∧ (returnCarriage s).motor = s.motor ∧
    (returnCarriage s).scanPart = s.scanPart ∧ (returnCarriage s).curve = s.curve ∧
    (returnCarriage s).cal = s.cal ∧ (returnCarriage s).lamp = s.lamp ∧ (returnCarriage s).encoder = s.encoder ∧
    (returnCarriage s).scan = s.scan ∧ (returnCarriage s).store = s.store ∧ (returnCarriage s).line = s.line ∧
    (returnCarriage s).slips = s.slips := by
  simp only [returnCarriage]
  (repeat' split) <;> simp

@[simp] theorem advanceByPitch_keeps (p : Nat) (s : State) :
    (advanceByPitch p s).now = s.now ∧ (advanceByPitch p s).pending = s.pending ∧
    (advanceByPitch p s).link = s.link ∧ (advanceByPitch p s).settings = s.settings ∧
    (advanceByPitch p s).clock = s.clock ∧ (advanceByPitch p s).manager = s.manager ∧
    (advanceByPitch p s).directory = s.directory ∧ (advanceByPitch p s).panel = s.panel ∧
    (advanceByPitch p s).drum = s.drum ∧ (advanceByPitch p s).motor = s.motor ∧
    (advanceByPitch p s).scanPart = s.scanPart ∧ (advanceByPitch p s).curve = s.curve ∧
    (advanceByPitch p s).cal = s.cal ∧ (advanceByPitch p s).lamp = s.lamp ∧
    (advanceByPitch p s).encoder = s.encoder ∧ (advanceByPitch p s).scan = s.scan ∧
    (advanceByPitch p s).store = s.store ∧ (advanceByPitch p s).line = s.line ∧ (advanceByPitch p s).slips = s.slips := by
  simp only [advanceByPitch]
  (repeat' split) <;> simp

/-- All that a home-seeking movement does when it begins: HOME at once on a closed switch, else its first step is due. -/
theorem Carriage.seekHome_cases (st : CarriageState) (p : Option Nat) (now : Nat) (c : Carriage) :
    (c.homeClosed = true ∧ c.seekHome st p now =
        { c with state := .home, position := some 0, stepsTaken := 0, target := none, stepAt := none }) ∨
      (c.homeClosed = false ∧ c.seekHome st p now =
        { c with state := st, position := p, stepsTaken := 0, target := none, stepAt := some now }) := by
  obtain ⟨_, _, _, _, _, _, _ | _⟩ := c
  · exact Or.inr ⟨rfl, rfl⟩
  · exact Or.inl ⟨rfl, rfl⟩

/-- An outward step leaves the home switch, and the state as it was. -/
@[simp] theorem Carriage.stepOut_homeClosed (now : Nat) (c : Carriage) :
    (c.stepOut now).homeClosed = false ∧ (c.stepOut now).state = c.state := by
  simp only [Carriage.stepOut]
  split <;> exact ⟨rfl, rfl⟩

end Sys2Proof.Machine
end

