-- ==== Sys2Proof/Laws/FramesLamp.lean ====
section
/-! SUPPORT. What each operation of Machine/Lamp.lean leaves as it was: one lemma for each operation. -/

namespace Sys2Proof.Machine

@[simp] theorem reportLamp_keeps (s : State) :
    (reportLamp s).now = s.now ∧ (reportLamp s).pending = s.pending ∧ (reportLamp s).link = s.link ∧
    (reportLamp s).settings = s.settings ∧ (reportLamp s).clock = s.clock ∧ (reportLamp s).manager = s.manager ∧
    (reportLamp s).directory = s.directory ∧ (reportLamp s).panel = s.panel ∧ (reportLamp s).drum = s.drum ∧
    (reportLamp s).motor = s.motor ∧ (reportLamp s).scanPart = s.scanPart ∧ (reportLamp s).curve = s.curve ∧
    (reportLamp s).cal = s.cal ∧ (reportLamp s).lamp = s.lamp ∧ (reportLamp s).carriage = s.carriage ∧
    (reportLamp s).encoder = s.encoder ∧ (reportLamp s).scan = s.scan ∧ (reportLamp s).store = s.store ∧
    (reportLamp s).line = s.line ∧ (reportLamp s).slips = s.slips := by
  simp only [reportLamp]
  simp

@[simp] theorem lampJoin_keeps (q : LampRequest) (s : State) :
    (lampJoin q s).now = s.now ∧ (lampJoin q s).pending = s.pending ∧ (lampJoin q s).link = s.link ∧
    (lampJoin q s).settings = s.settings ∧ (lampJoin q s).clock = s.clock ∧ (lampJoin q s).manager = s.manager ∧
    (lampJoin q s).directory = s.directory ∧ (lampJoin q s).panel = s.panel ∧ (lampJoin q s).drum = s.drum ∧
    (lampJoin q s).motor = s.motor ∧ (lampJoin q s).scanPart = s.scanPart ∧ (lampJoin q s).curve = s.curve ∧
    (lampJoin q s).cal = s.cal ∧ (lampJoin q s).carriage = s.carriage ∧ (lampJoin q s).encoder = s.encoder ∧
    (lampJoin q s).scan = s.scan ∧ (lampJoin q s).store = s.store ∧ (lampJoin q s).line = s.line ∧
    (lampJoin q s).slips = s.slips := by
  simp only [lampJoin]
  (repeat' split) <;> simp

@[simp] theorem lampWithdraw_keeps (q : LampRequest) (s : State) :
    (lampWithdraw q s).now = s.now ∧ (lampWithdraw q s).pending = s.pending ∧ (lampWithdraw q s).link = s.link ∧
    (lampWithdraw q s).settings = s.settings ∧ (lampWithdraw q s).clock = s.clock ∧
    (lampWithdraw q s).manager = s.manager ∧ (lampWithdraw q s).directory = s.directory ∧
    (lampWithdraw q s).panel = s.panel ∧ (lampWithdraw q s).drum = s.drum ∧ (lampWithdraw q s).motor = s.motor ∧
    (lampWithdraw q s).scanPart = s.scanPart ∧ (lampWithdraw q s).curve = s.curve ∧
    (lampWithdraw q s).cal = s.cal ∧ (lampWithdraw q s).carriage = s.carriage ∧
    (lampWithdraw q s).encoder = s.encoder ∧ (lampWithdraw q s).scan = s.scan ∧
    (lampWithdraw q s).store = s.store ∧ (lampWithdraw q s).line = s.line ∧ (lampWithdraw q s).run = s.run ∧
    (lampWithdraw q s).slips = s.slips := by
  simp only [lampWithdraw]
  (repeat' split) <;> simp

@[simp] theorem setDarkHold_keeps (s : State) :
    (setDarkHold s).now = s.now ∧ (setDarkHold s).pending = s.pending ∧ (setDarkHold s).link = s.link ∧
    (setDarkHold s).settings = s.settings ∧ (setDarkHold s).clock = s.clock ∧ (setDarkHold s).manager = s.manager ∧
    (setDarkHold s).directory = s.directory ∧ (setDarkHold s).panel = s.panel ∧ (setDarkHold s).drum = s.drum ∧
    (setDarkHold s).motor = s.motor ∧ (setDarkHold s).scanPart = s.scanPart ∧ (setDarkHold s).curve = s.curve ∧
    (setDarkHold s).cal = s.cal ∧ (setDarkHold s).carriage = s.carriage ∧ (setDarkHold s).encoder = s.encoder ∧
    (setDarkHold s).scan = s.scan ∧ (setDarkHold s).store = s.store ∧ (setDarkHold s).line = s.line ∧
    (setDarkHold s).slips = s.slips := by
  simp only [setDarkHold]
  simp

@[simp] theorem clearDarkHold_keeps (s : State) :
    (clearDarkHold s).now = s.now ∧ (clearDarkHold s).pending = s.pending ∧ (clearDarkHold s).link = s.link ∧
    (clearDarkHold s).settings = s.settings ∧ (clearDarkHold s).clock = s.clock ∧
    (clearDarkHold s).manager = s.manager ∧ (clearDarkHold s).directory = s.directory ∧
    (clearDarkHold s).panel = s.panel ∧ (clearDarkHold s).drum = s.drum ∧ (clearDarkHold s).motor = s.motor ∧
    (clearDarkHold s).scanPart = s.scanPart ∧ (clearDarkHold s).curve = s.curve ∧ (clearDarkHold s).cal = s.cal ∧
    (clearDarkHold s).carriage = s.carriage ∧ (clearDarkHold s).encoder = s.encoder ∧
    (clearDarkHold s).scan = s.scan ∧ (clearDarkHold s).store = s.store ∧ (clearDarkHold s).line = s.line ∧
    (clearDarkHold s).slips = s.slips := by
  simp only [clearDarkHold]
  simp

@[simp] theorem updatePrewarm_keeps (s : State) :
    (updatePrewarm s).now = s.now ∧ (updatePrewarm s).pending = s.pending ∧ (updatePrewarm s).link = s.link ∧
    (updatePrewarm s).settings = s.settings ∧ (updatePrewarm s).clock = s.clock ∧
    (updatePrewarm s).manager = s.manager ∧ (updatePrewarm s).directory = s.directory ∧
    (updatePrewarm s).panel = s.panel ∧ (updatePrewarm s).drum = s.drum ∧ (updatePrewarm s).motor = s.motor ∧
    (updatePrewarm s).scanPart = s.scanPart ∧ (updatePrewarm s).curve = s.curve ∧ (updatePrewarm s).cal = s.cal ∧
    (updatePrewarm s).carriage = s.carriage ∧ (updatePrewarm s).encoder = s.encoder ∧
    (updatePrewarm s).scan = s.scan ∧ (updatePrewarm s).store = s.store ∧ (updatePrewarm s).line = s.line ∧
    (updatePrewarm s).slips = s.slips := by
  simp only [updatePrewarm]
  (repeat' split) <;> simp

end Sys2Proof.Machine
end

