-- ==== Sys2Proof/Laws/FramesCalibration.lean ====
section
/-! SUPPORT. What each operation of Machine/Calibration.lean leaves as it was: one lemma for each operation. -/

namespace Sys2Proof.Machine

@[simp] theorem startSpinHold_keeps (s : State) :
    (startSpinHold s).now = s.now ∧ (startSpinHold s).pending = s.pending ∧ (startSpinHold s).link = s.link ∧
    (startSpinHold s).settings = s.settings ∧ (startSpinHold s).clock = s.clock ∧
    (startSpinHold s).manager = s.manager ∧ (startSpinHold s).directory = s.directory ∧
    (startSpinHold s).panel = s.panel ∧ (startSpinHold s).motor = s.motor ∧
    (startSpinHold s).scanPart = s.scanPart ∧ (startSpinHold s).curve = s.curve ∧ (startSpinHold s).cal = s.cal ∧
    (startSpinHold s).lamp = s.lamp ∧ (startSpinHold s).carriage = s.carriage ∧
    (startSpinHold s).encoder = s.encoder ∧ (startSpinHold s).scan = s.scan ∧ (startSpinHold s).store = s.store ∧
    (startSpinHold s).line = s.line ∧ (startSpinHold s).run = s.run ∧ (startSpinHold s).slips = s.slips := by
  simp only [startSpinHold]
  simp

@[simp] theorem calGiveBack_keeps (k : CalKind) (s : State) :
    (calGiveBack k s).now = s.now ∧ (calGiveBack k s).pending = s.pending ∧ (calGiveBack k s).link = s.link ∧
    (calGiveBack k s).settings = s.settings ∧ (calGiveBack k s).clock = s.clock ∧
    (calGiveBack k s).manager = s.manager ∧ (calGiveBack k s).directory = s.directory ∧
    (calGiveBack k s).panel = s.panel ∧ (calGiveBack k s).drum = s.drum ∧ (calGiveBack k s).motor = s.motor ∧
    (calGiveBack k s).scanPart = s.scanPart ∧ (calGiveBack k s).curve = s.curve ∧ (calGiveBack k s).cal = s.cal ∧
    (calGiveBack k s).encoder = s.encoder ∧ (calGiveBack k s).scan = s.scan ∧ (calGiveBack k s).store = s.store ∧
    (calGiveBack k s).line = s.line ∧ (calGiveBack k s).slips = s.slips := by
  simp only [calGiveBack]
  (repeat' split) <;> simp

@[simp] theorem calEnd_keeps (o : CalOutcome) (f : Option CalFailure) (n : Nat) (g : CalFigures) (s : State) :
    (calEnd o f n g s).now = s.now ∧ (calEnd o f n g s).pending = s.pending ∧
    (calEnd o f n g s).settings = s.settings ∧ (calEnd o f n g s).clock = s.clock ∧
    (calEnd o f n g s).manager = s.manager ∧ (calEnd o f n g s).directory = s.directory ∧
    (calEnd o f n g s).panel = s.panel ∧ (calEnd o f n g s).motor = s.motor ∧
    (calEnd o f n g s).scanPart = s.scanPart ∧ (calEnd o f n g s).curve = s.curve ∧
    (calEnd o f n g s).encoder = s.encoder ∧ (calEnd o f n g s).scan = s.scan ∧
    (calEnd o f n g s).store = s.store ∧ (calEnd o f n g s).line = s.line ∧ (calEnd o f n g s).slips = s.slips := by
  simp only [calEnd]
  (repeat' split) <;> simp

@[simp] theorem calFail_keeps (f : CalFailure) (n : Nat) (s : State) :
    (calFail f n s).now = s.now ∧ (calFail f n s).pending = s.pending ∧ (calFail f n s).settings = s.settings ∧
    (calFail f n s).clock = s.clock ∧ (calFail f n s).manager = s.manager ∧
    (calFail f n s).directory = s.directory ∧ (calFail f n s).panel = s.panel ∧ (calFail f n s).motor = s.motor ∧
    (calFail f n s).scanPart = s.scanPart ∧ (calFail f n s).curve = s.curve ∧ (calFail f n s).encoder = s.encoder ∧
    (calFail f n s).scan = s.scan ∧ (calFail f n s).store = s.store ∧ (calFail f n s).line = s.line ∧
    (calFail f n s).slips = s.slips := by
  simp only [calFail]
  (repeat' split) <;> simp

@[simp] theorem calAbort_keeps (o : CalOutcome) (s : State) :
    (calAbort o s).now = s.now ∧ (calAbort o s).pending = s.pending ∧ (calAbort o s).settings = s.settings ∧
    (calAbort o s).clock = s.clock ∧ (calAbort o s).manager = s.manager ∧ (calAbort o s).directory = s.directory ∧
    (calAbort o s).panel = s.panel ∧ (calAbort o s).motor = s.motor ∧ (calAbort o s).scanPart = s.scanPart ∧
    (calAbort o s).curve = s.curve ∧ (calAbort o s).encoder = s.encoder ∧ (calAbort o s).scan = s.scan ∧
    (calAbort o s).store = s.store ∧ (calAbort o s).line = s.line ∧ (calAbort o s).slips = s.slips := by
  simp only [calAbort]
  (repeat' split) <;> simp

@[simp] theorem calExamine_keeps (s : State) :
    (calExamine s).now = s.now ∧ (calExamine s).pending = s.pending ∧ (calExamine s).link = s.link ∧
    (calExamine s).settings = s.settings ∧ (calExamine s).clock = s.clock ∧ (calExamine s).manager = s.manager ∧
    (calExamine s).directory = s.directory ∧ (calExamine s).panel = s.panel ∧ (calExamine s).drum = s.drum ∧
    (calExamine s).motor = s.motor ∧ (calExamine s).scanPart = s.scanPart ∧ (calExamine s).curve = s.curve ∧
    (calExamine s).lamp = s.lamp ∧ (calExamine s).carriage = s.carriage ∧ (calExamine s).encoder = s.encoder ∧
    (calExamine s).scan = s.scan ∧ (calExamine s).store = s.store ∧ (calExamine s).line = s.line ∧
    (calExamine s).run = s.run ∧ (calExamine s).slips = s.slips := by
  simp only [calExamine]
  (repeat' split) <;> simp

@[simp] theorem drumReportToCal_keeps (s : State) :
    (drumReportToCal s).now = s.now ∧ (drumReportToCal s).pending = s.pending ∧
    (drumReportToCal s).settings = s.settings ∧ (drumReportToCal s).clock = s.clock ∧
    (drumReportToCal s).manager = s.manager ∧ (drumReportToCal s).directory = s.directory ∧
    (drumReportToCal s).panel = s.panel ∧ (drumReportToCal s).motor = s.motor ∧
    (drumReportToCal s).scanPart = s.scanPart ∧ (drumReportToCal s).curve = s.curve ∧
    (drumReportToCal s).encoder = s.encoder ∧ (drumReportToCal s).scan = s.scan ∧
    (drumReportToCal s).store = s.store ∧ (drumReportToCal s).line = s.line ∧ (drumReportToCal s).slips = s.slips := by
  simp only [drumReportToCal]
  (repeat' split) <;> simp

@[simp] theorem noLockToCal_keeps (s : State) :
    (noLockToCal s).now = s.now ∧ (noLockToCal s).pending = s.pending ∧ (noLockToCal s).settings = s.settings ∧
    (noLockToCal s).clock = s.clock ∧ (noLockToCal s).manager = s.manager ∧
    (noLockToCal s).directory = s.directory ∧ (noLockToCal s).panel = s.panel ∧ (noLockToCal s).motor = s.motor ∧
    (noLockToCal s).scanPart = s.scanPart ∧ (noLockToCal s).curve = s.curve ∧ (noLockToCal s).encoder = s.encoder ∧
    (noLockToCal s).scan = s.scan ∧ (noLockToCal s).store = s.store ∧ (noLockToCal s).line = s.line ∧
    (noLockToCal s).slips = s.slips := by
  simp only [noLockToCal]
  (repeat' split) <;> simp

@[simp] theorem carriageFaultToCal_keeps (s : State) :
    (carriageFaultToCal s).now = s.now ∧ (carriageFaultToCal s).pending = s.pending ∧
    (carriageFaultToCal s).settings = s.settings ∧ (carriageFaultToCal s).clock = s.clock ∧
    (carriageFaultToCal s).manager = s.manager ∧ (carriageFaultToCal s).directory = s.directory ∧
    (carriageFaultToCal s).panel = s.panel ∧ (carriageFaultToCal s).motor = s.motor ∧
    (carriageFaultToCal s).scanPart = s.scanPart ∧ (carriageFaultToCal s).curve = s.curve ∧
    (carriageFaultToCal s).encoder = s.encoder ∧ (carriageFaultToCal s).scan = s.scan ∧
    (carriageFaultToCal s).store = s.store ∧ (carriageFaultToCal s).line = s.line ∧
    (carriageFaultToCal s).slips = s.slips := by
  simp only [carriageFaultToCal]
  (repeat' split) <;> simp

@[simp] theorem calArrived_keeps (s : State) :
    (calArrived s).now = s.now ∧ (calArrived s).pending = s.pending ∧ (calArrived s).link = s.link ∧
    (calArrived s).settings = s.settings ∧ (calArrived s).clock = s.clock ∧ (calArrived s).manager = s.manager ∧
    (calArrived s).directory = s.directory ∧ (calArrived s).panel = s.panel ∧ (calArrived s).drum = s.drum ∧
    (calArrived s).motor = s.motor ∧ (calArrived s).scanPart = s.scanPart ∧ (calArrived s).curve = s.curve ∧
    (calArrived s).lamp = s.lamp ∧ (calArrived s).carriage = s.carriage ∧ (calArrived s).encoder = s.encoder ∧
    (calArrived s).scan = s.scan ∧ (calArrived s).store = s.store ∧ (calArrived s).line = s.line ∧
    (calArrived s).run = s.run ∧ (calArrived s).slips = s.slips := by
  simp only [calArrived]
  simp

@[simp] theorem reportArrival_keeps (s : State) :
    (reportArrival s).now = s.now ∧ (reportArrival s).pending = s.pending ∧ (reportArrival s).link = s.link ∧
    (reportArrival s).settings = s.settings ∧ (reportArrival s).clock = s.clock ∧
    (reportArrival s).manager = s.manager ∧ (reportArrival s).directory = s.directory ∧
    (reportArrival s).panel = s.panel ∧ (reportArrival s).drum = s.drum ∧ (reportArrival s).motor = s.motor ∧
    (reportArrival s).scanPart = s.scanPart ∧ (reportArrival s).curve = s.curve ∧ (reportArrival s).lamp = s.lamp ∧
    (reportArrival s).carriage = s.carriage ∧ (reportArrival s).encoder = s.encoder ∧
    (reportArrival s).scan = s.scan ∧ (reportArrival s).store = s.store ∧ (reportArrival s).line = s.line ∧
    (reportArrival s).run = s.run ∧ (reportArrival s).slips = s.slips := by
  simp only [reportArrival]
  (repeat' split) <;> simp

@[simp] theorem moveFromHome_keeps (p : Nat) (s : State) :
    (moveFromHome p s).now = s.now ∧ (moveFromHome p s).pending = s.pending ∧ (moveFromHome p s).link = s.link ∧
    (moveFromHome p s).settings = s.settings ∧ (moveFromHome p s).clock = s.clock ∧
    (moveFromHome p s).manager = s.manager ∧ (moveFromHome p s).directory = s.directory ∧
    (moveFromHome p s).panel = s.panel ∧ (moveFromHome p s).drum = s.drum ∧ (moveFromHome p s).motor = s.motor ∧
    (moveFromHome p s).scanPart = s.scanPart ∧ (moveFromHome p s).curve = s.curve ∧
    (moveFromHome p s).lamp = s.lamp ∧ (moveFromHome p s).encoder = s.encoder ∧ (moveFromHome p s).scan = s.scan ∧
    (moveFromHome p s).store = s.store ∧ (moveFromHome p s).line = s.line ∧ (moveFromHome p s).slips = s.slips := by
  simp only [moveFromHome]
  (repeat' split) <;> simp

@[simp] theorem moveTo_keeps (p : Nat) (s : State) :
    (moveTo p s).now = s.now ∧ (moveTo p s).pending = s.pending ∧ (moveTo p s).link = s.link ∧
    (moveTo p s).settings = s.settings ∧ (moveTo p s).clock = s.clock ∧ (moveTo p s).manager = s.manager ∧
    (moveTo p s).directory = s.directory ∧ (moveTo p s).panel = s.panel ∧ (moveTo p s).drum = s.drum ∧
    (moveTo p s).motor = s.motor ∧ (moveTo p s).scanPart = s.scanPart ∧ (moveTo p s).curve = s.curve ∧
    (moveTo p s).lamp = s.lamp ∧ (moveTo p s).encoder = s.encoder ∧ (moveTo p s).scan = s.scan ∧
    (moveTo p s).store = s.store ∧ (moveTo p s).line = s.line ∧ (moveTo p s).slips = s.slips := by
  simp only [moveTo]
  (repeat' split) <;> simp

@[simp] theorem darkOutcome_keeps (c : CalRun) (s : State) :
    (darkOutcome c s).now = s.now ∧ (darkOutcome c s).pending = s.pending ∧
    (darkOutcome c s).settings = s.settings ∧ (darkOutcome c s).clock = s.clock ∧
    (darkOutcome c s).manager = s.manager ∧ (darkOutcome c s).directory = s.directory ∧
    (darkOutcome c s).panel = s.panel ∧ (darkOutcome c s).motor = s.motor ∧ (darkOutcome c s).curve = s.curve ∧
    (darkOutcome c s).encoder = s.encoder ∧ (darkOutcome c s).scan = s.scan ∧ (darkOutcome c s).store = s.store ∧
    (darkOutcome c s).line = s.line ∧ (darkOutcome c s).slips = s.slips := by
  simp only [darkOutcome]
  (repeat' split) <;> simp

@[simp] theorem whiteOutcome_keeps (c : CalRun) (s : State) :
    (whiteOutcome c s).now = s.now ∧ (whiteOutcome c s).pending = s.pending ∧
    (whiteOutcome c s).settings = s.settings ∧ (whiteOutcome c s).clock = s.clock ∧
    (whiteOutcome c s).manager = s.manager ∧ (whiteOutcome c s).directory = s.directory ∧
    (whiteOutcome c s).panel = s.panel ∧ (whiteOutcome c s).motor = s.motor ∧ (whiteOutcome c s).curve = s.curve ∧
    (whiteOutcome c s).encoder = s.encoder ∧ (whiteOutcome c s).scan = s.scan ∧
    (whiteOutcome c s).store = s.store ∧ (whiteOutcome c s).line = s.line ∧ (whiteOutcome c s).slips = s.slips := by
  simp only [whiteOutcome]
  (repeat' split) <;> simp

@[simp] theorem stepsOutcome_keeps (c : CalRun) (s : State) :
    (stepsOutcome c s).now = s.now ∧ (stepsOutcome c s).pending = s.pending ∧
    (stepsOutcome c s).settings = s.settings ∧ (stepsOutcome c s).clock = s.clock ∧
    (stepsOutcome c s).manager = s.manager ∧ (stepsOutcome c s).directory = s.directory ∧
    (stepsOutcome c s).panel = s.panel ∧ (stepsOutcome c s).motor = s.motor ∧
    (stepsOutcome c s).scanPart = s.scanPart ∧ (stepsOutcome c s).encoder = s.encoder ∧
    (stepsOutcome c s).scan = s.scan ∧ (stepsOutcome c s).store = s.store ∧ (stepsOutcome c s).line = s.line ∧
    (stepsOutcome c s).slips = s.slips := by
  simp only [stepsOutcome]
  (repeat' split) <;> simp

@[simp] theorem calOutcome_keeps (c : CalRun) (s : State) :
    (calOutcome c s).now = s.now ∧ (calOutcome c s).pending = s.pending ∧ (calOutcome c s).settings = s.settings ∧
    (calOutcome c s).clock = s.clock ∧ (calOutcome c s).manager = s.manager ∧
    (calOutcome c s).directory = s.directory ∧ (calOutcome c s).panel = s.panel ∧
    (calOutcome c s).motor = s.motor ∧ (calOutcome c s).encoder = s.encoder ∧ (calOutcome c s).scan = s.scan ∧
    (calOutcome c s).store = s.store ∧ (calOutcome c s).line = s.line ∧ (calOutcome c s).slips = s.slips := by
  simp only [calOutcome]
  (repeat' split) <;> simp

@[simp] theorem calRevolutionEnd_keeps (b : Bool) (s : State) :
    (calRevolutionEnd b s).now = s.now ∧ (calRevolutionEnd b s).pending = s.pending ∧
    (calRevolutionEnd b s).settings = s.settings ∧ (calRevolutionEnd b s).clock = s.clock ∧
    (calRevolutionEnd b s).manager = s.manager ∧ (calRevolutionEnd b s).directory = s.directory ∧
    (calRevolutionEnd b s).panel = s.panel ∧ (calRevolutionEnd b s).motor = s.motor ∧
    (calRevolutionEnd b s).encoder = s.encoder ∧ (calRevolutionEnd b s).scan = s.scan ∧
    (calRevolutionEnd b s).store = s.store ∧ (calRevolutionEnd b s).line = s.line ∧
    (calRevolutionEnd b s).slips = s.slips := by
  simp only [calRevolutionEnd]
  (repeat' split) <;> simp

@[simp] theorem calRevolutionBegin_keeps (n : Nat) (s : State) :
    (calRevolutionBegin n s).now = s.now ∧ (calRevolutionBegin n s).pending = s.pending ∧
    (calRevolutionBegin n s).link = s.link ∧ (calRevolutionBegin n s).settings = s.settings ∧
    (calRevolutionBegin n s).clock = s.clock ∧ (calRevolutionBegin n s).manager = s.manager ∧
    (calRevolutionBegin n s).directory = s.directory ∧ (calRevolutionBegin n s).panel = s.panel ∧
    (calRevolutionBegin n s).drum = s.drum ∧ (calRevolutionBegin n s).motor = s.motor ∧
    (calRevolutionBegin n s).scanPart = s.scanPart ∧ (calRevolutionBegin n s).curve = s.curve ∧
    (calRevolutionBegin n s).lamp = s.lamp ∧ (calRevolutionBegin n s).carriage = s.carriage ∧
    (calRevolutionBegin n s).encoder = s.encoder ∧ (calRevolutionBegin n s).scan = s.scan ∧
    (calRevolutionBegin n s).store = s.store ∧ (calRevolutionBegin n s).line = s.line ∧
    (calRevolutionBegin n s).run = s.run ∧ (calRevolutionBegin n s).slips = s.slips := by
  simp only [calRevolutionBegin]
  simp

@[simp] theorem revolutionToCal_keeps (b : Bool) (n : Nat) (s : State) :
    (revolutionToCal b n s).now = s.now ∧ (revolutionToCal b n s).pending = s.pending ∧
    (revolutionToCal b n s).settings = s.settings ∧ (revolutionToCal b n s).clock = s.clock ∧
    (revolutionToCal b n s).manager = s.manager ∧ (revolutionToCal b n s).directory = s.directory ∧
    (revolutionToCal b n s).panel = s.panel ∧ (revolutionToCal b n s).motor = s.motor ∧
    (revolutionToCal b n s).encoder = s.encoder ∧ (revolutionToCal b n s).scan = s.scan ∧
    (revolutionToCal b n s).store = s.store ∧ (revolutionToCal b n s).line = s.line ∧
    (revolutionToCal b n s).slips = s.slips := by
  simp only [revolutionToCal]
  (repeat' split) <;> simp

@[simp] theorem installSpeeds_keeps (a b : Nat) (s : State) :
    (installSpeeds a b s).now = s.now ∧ (installSpeeds a b s).pending = s.pending ∧
    (installSpeeds a b s).link = s.link ∧ (installSpeeds a b s).settings = s.settings ∧
    (installSpeeds a b s).clock = s.clock ∧ (installSpeeds a b s).manager = s.manager ∧
    (installSpeeds a b s).directory = s.directory ∧ (installSpeeds a b s).panel = s.panel ∧
    (installSpeeds a b s).drum = s.drum ∧ (installSpeeds a b s).scanPart = s.scanPart ∧
    (installSpeeds a b s).curve = s.curve ∧ (installSpeeds a b s).cal = s.cal ∧
    (installSpeeds a b s).lamp = s.lamp ∧ (installSpeeds a b s).carriage = s.carriage ∧
    (installSpeeds a b s).encoder = s.encoder ∧ (installSpeeds a b s).scan = s.scan ∧
    (installSpeeds a b s).store = s.store ∧ (installSpeeds a b s).line = s.line ∧
    (installSpeeds a b s).run = s.run ∧ (installSpeeds a b s).slips = s.slips := by
  simp only [installSpeeds]
  simp

end Sys2Proof.Machine
end

