-- ==== Sys2Proof/Laws/FramesLineUnit.lean ====
section
/-! SUPPORT. What each operation of Machine/LineUnit.lean leaves as it was: one lemma for each operation. -/

namespace Sys2Proof.Machine

@[simp] theorem lineSeize_keeps (n : Nat) (net : Network) (c : Nat) (ds : List DialSymbol) (s : State) :
    (lineSeize n net c ds s).now = s.now ∧ (lineSeize n net c ds s).pending = s.pending ∧
    (lineSeize n net c ds s).settings = s.settings ∧ (lineSeize n net c ds s).clock = s.clock ∧
    (lineSeize n net c ds s).manager = s.manager ∧ (lineSeize n net c ds s).directory = s.directory ∧
    (lineSeize n net c ds s).panel = s.panel ∧ (lineSeize n net c ds s).drum = s.drum ∧
    (lineSeize n net c ds s).motor = s.motor ∧ (lineSeize n net c ds s).scanPart = s.scanPart ∧
    (lineSeize n net c ds s).curve = s.curve ∧ (lineSeize n net c ds s).cal = s.cal ∧
    (lineSeize n net c ds s).lamp = s.lamp ∧ (lineSeize n net c ds s).carriage = s.carriage ∧
    (lineSeize n net c ds s).encoder = s.encoder ∧ (lineSeize n net c ds s).scan = s.scan ∧
    (lineSeize n net c ds s).store = s.store ∧ (lineSeize n net c ds s).run = s.run ∧
    (lineSeize n net c ds s).slips = s.slips := by
  simp only [lineSeize]
  (repeat' split) <;> simp

@[simp] theorem lineCall_keeps (q : LineRequest) (a : Activity) (c : Nat) (s : State) :
    (lineCall q a c s).now = s.now ∧ (lineCall q a c s).pending = s.pending ∧ (lineCall q a c s).link = s.link ∧
    (lineCall q a c s).settings = s.settings ∧ (lineCall q a c s).clock = s.clock ∧
    (lineCall q a c s).manager = s.manager ∧ (lineCall q a c s).directory = s.directory ∧
    (lineCall q a c s).panel = s.panel ∧ (lineCall q a c s).drum = s.drum ∧ (lineCall q a c s).motor = s.motor ∧
    (lineCall q a c s).scanPart = s.scanPart ∧ (lineCall q a c s).curve = s.curve ∧
    (lineCall q a c s).cal = s.cal ∧ (lineCall q a c s).lamp = s.lamp ∧ (lineCall q a c s).carriage = s.carriage ∧
    (lineCall q a c s).encoder = s.encoder ∧ (lineCall q a c s).scan = s.scan ∧
    (lineCall q a c s).store = s.store ∧ (lineCall q a c s).run = s.run ∧ (lineCall q a c s).slips = s.slips := by
  simp only [lineCall]
  (repeat' split) <;> simp

@[simp] theorem lineListen_keeps (s : State) :
    (lineListen s).now = s.now ∧ (lineListen s).pending = s.pending ∧ (lineListen s).link = s.link ∧
    (lineListen s).settings = s.settings ∧ (lineListen s).clock = s.clock ∧ (lineListen s).manager = s.manager ∧
    (lineListen s).directory = s.directory ∧ (lineListen s).panel = s.panel ∧ (lineListen s).drum = s.drum ∧
    (lineListen s).motor = s.motor ∧ (lineListen s).scanPart = s.scanPart ∧ (lineListen s).curve = s.curve ∧
    (lineListen s).cal = s.cal ∧ (lineListen s).lamp = s.lamp ∧ (lineListen s).carriage = s.carriage ∧
    (lineListen s).encoder = s.encoder ∧ (lineListen s).scan = s.scan ∧ (lineListen s).store = s.store ∧
    (lineListen s).run = s.run ∧ (lineListen s).slips = s.slips := by
  simp only [lineListen]
  (repeat' split) <;> simp

@[simp] theorem lineHold_keeps (s : State) :
    (lineHold s).now = s.now ∧ (lineHold s).pending = s.pending ∧ (lineHold s).link = s.link ∧
    (lineHold s).settings = s.settings ∧ (lineHold s).clock = s.clock ∧ (lineHold s).manager = s.manager ∧
    (lineHold s).directory = s.directory ∧ (lineHold s).panel = s.panel ∧ (lineHold s).drum = s.drum ∧
    (lineHold s).motor = s.motor ∧ (lineHold s).scanPart = s.scanPart ∧ (lineHold s).curve = s.curve ∧
    (lineHold s).cal = s.cal ∧ (lineHold s).lamp = s.lamp ∧ (lineHold s).carriage = s.carriage ∧
    (lineHold s).encoder = s.encoder ∧ (lineHold s).scan = s.scan ∧ (lineHold s).store = s.store ∧
    (lineHold s).run = s.run ∧ (lineHold s).slips = s.slips := by
  simp only [lineHold]
  (repeat' split) <;> simp

@[simp] theorem startToneBegun_keeps (s : State) :
    (startToneBegun s).now = s.now ∧ (startToneBegun s).pending = s.pending ∧
    (startToneBegun s).settings = s.settings ∧ (startToneBegun s).clock = s.clock ∧
    (startToneBegun s).directory = s.directory ∧ (startToneBegun s).panel = s.panel ∧
    (startToneBegun s).drum = s.drum ∧ (startToneBegun s).motor = s.motor ∧
    (startToneBegun s).scanPart = s.scanPart ∧ (startToneBegun s).curve = s.curve ∧
    (startToneBegun s).cal = s.cal ∧ (startToneBegun s).lamp = s.lamp ∧ (startToneBegun s).carriage = s.carriage ∧
    (startToneBegun s).encoder = s.encoder ∧ (startToneBegun s).scan = s.scan ∧
    (startToneBegun s).store = s.store ∧ (startToneBegun s).line = s.line ∧ (startToneBegun s).slips = s.slips := by
  simp only [startToneBegun]
  (repeat' split) <;> simp

@[simp] theorem reportIfStartTone_keeps (s : State) :
    (reportIfStartTone s).now = s.now ∧ (reportIfStartTone s).pending = s.pending ∧
    (reportIfStartTone s).settings = s.settings ∧ (reportIfStartTone s).clock = s.clock ∧
    (reportIfStartTone s).directory = s.directory ∧ (reportIfStartTone s).panel = s.panel ∧
    (reportIfStartTone s).drum = s.drum ∧ (reportIfStartTone s).motor = s.motor ∧
    (reportIfStartTone s).scanPart = s.scanPart ∧ (reportIfStartTone s).curve = s.curve ∧
    (reportIfStartTone s).cal = s.cal ∧ (reportIfStartTone s).lamp = s.lamp ∧
    (reportIfStartTone s).carriage = s.carriage ∧ (reportIfStartTone s).encoder = s.encoder ∧
    (reportIfStartTone s).scan = s.scan ∧ (reportIfStartTone s).store = s.store ∧
    (reportIfStartTone s).line = s.line ∧ (reportIfStartTone s).slips = s.slips := by
  simp only [reportIfStartTone]
  (repeat' split) <;> simp

@[simp] theorem lineStart_keeps (g : Figures) (s : State) :
    (lineStart g s).now = s.now ∧ (lineStart g s).pending = s.pending ∧ (lineStart g s).settings = s.settings ∧
    (lineStart g s).clock = s.clock ∧ (lineStart g s).directory = s.directory ∧ (lineStart g s).panel = s.panel ∧
    (lineStart g s).drum = s.drum ∧ (lineStart g s).motor = s.motor ∧ (lineStart g s).scanPart = s.scanPart ∧
    (lineStart g s).curve = s.curve ∧ (lineStart g s).cal = s.cal ∧ (lineStart g s).lamp = s.lamp ∧
    (lineStart g s).carriage = s.carriage ∧ (lineStart g s).encoder = s.encoder ∧ (lineStart g s).scan = s.scan ∧
    (lineStart g s).store = s.store ∧ (lineStart g s).slips = s.slips := by
  simp only [lineStart]
  (repeat' split) <;> simp

@[simp] theorem lineStopTone_keeps (s : State) :
    (lineStopTone s).now = s.now ∧ (lineStopTone s).pending = s.pending ∧ (lineStopTone s).link = s.link ∧
    (lineStopTone s).settings = s.settings ∧ (lineStopTone s).clock = s.clock ∧
    (lineStopTone s).manager = s.manager ∧ (lineStopTone s).directory = s.directory ∧
    (lineStopTone s).panel = s.panel ∧ (lineStopTone s).drum = s.drum ∧ (lineStopTone s).motor = s.motor ∧
    (lineStopTone s).scanPart = s.scanPart ∧ (lineStopTone s).curve = s.curve ∧ (lineStopTone s).cal = s.cal ∧
    (lineStopTone s).lamp = s.lamp ∧ (lineStopTone s).carriage = s.carriage ∧
    (lineStopTone s).encoder = s.encoder ∧ (lineStopTone s).scan = s.scan ∧ (lineStopTone s).store = s.store ∧
    (lineStopTone s).run = s.run ∧ (lineStopTone s).slips = s.slips := by
  simp only [lineStopTone]
  (repeat' split) <;> simp

@[simp] theorem lineRelease_keeps (s : State) :
    (lineRelease s).now = s.now ∧ (lineRelease s).pending = s.pending ∧ (lineRelease s).link = s.link ∧
    (lineRelease s).settings = s.settings ∧ (lineRelease s).clock = s.clock ∧ (lineRelease s).manager = s.manager ∧
    (lineRelease s).directory = s.directory ∧ (lineRelease s).panel = s.panel ∧ (lineRelease s).drum = s.drum ∧
    (lineRelease s).motor = s.motor ∧ (lineRelease s).scanPart = s.scanPart ∧ (lineRelease s).curve = s.curve ∧
    (lineRelease s).cal = s.cal ∧ (lineRelease s).lamp = s.lamp ∧ (lineRelease s).carriage = s.carriage ∧
    (lineRelease s).encoder = s.encoder ∧ (lineRelease s).scan = s.scan ∧ (lineRelease s).store = s.store ∧
    (lineRelease s).run = s.run ∧ (lineRelease s).slips = s.slips := by
  simp only [lineRelease]
  (repeat' split) <;> simp

end Sys2Proof.Machine
end

