-- ==== Sys2Proof/Laws/FramesStore.lean ====
section
/-! SUPPORT. What each operation of Machine/Store.lean leaves as it was: one lemma for each operation. -/

namespace Sys2Proof.Machine

@[simp] theorem closeStore_keeps (s : State) :
    (closeStore s).now = s.now ∧ (closeStore s).pending = s.pending ∧ (closeStore s).link = s.link ∧
    (closeStore s).settings = s.settings ∧ (closeStore s).clock = s.clock ∧ (closeStore s).manager = s.manager ∧
    (closeStore s).directory = s.directory ∧ (closeStore s).panel = s.panel ∧ (closeStore s).drum = s.drum ∧
    (closeStore s).motor = s.motor ∧ (closeStore s).scanPart = s.scanPart ∧ (closeStore s).curve = s.curve ∧
    (closeStore s).cal = s.cal ∧ (closeStore s).lamp = s.lamp ∧ (closeStore s).carriage = s.carriage ∧
    (closeStore s).encoder = s.encoder ∧ (closeStore s).scan = s.scan ∧ (closeStore s).line = s.line ∧
    (closeStore s).run = s.run ∧ (closeStore s).slips = s.slips := by
  simp only [closeStore]
  simp

@[simp] theorem readStore_keeps (s : State) :
    (readStore s).now = s.now ∧ (readStore s).pending = s.pending ∧ (readStore s).link = s.link ∧
    (readStore s).settings = s.settings ∧ (readStore s).clock = s.clock ∧ (readStore s).directory = s.directory ∧
    (readStore s).panel = s.panel ∧ (readStore s).motor = s.motor ∧ (readStore s).scanPart = s.scanPart ∧
    (readStore s).curve = s.curve ∧ (readStore s).cal = s.cal ∧ (readStore s).lamp = s.lamp ∧
    (readStore s).carriage = s.carriage ∧ (readStore s).encoder = s.encoder ∧ (readStore s).scan = s.scan ∧
    (readStore s).line = s.line ∧ (readStore s).run = s.run ∧ (readStore s).slips = s.slips := by
  simp only [readStore]
  (repeat' split) <;> simp

end Sys2Proof.Machine
end

