-- ==== Sys2Proof/Laws/FramesSequencer.lean ====
section
/-! SUPPORT. What each operation of Machine/Sequencer.lean leaves as it was: one lemma for each operation. -/

namespace Sys2Proof.Machine

@[simp] theorem makeLineAction_keeps (a : LineAction) (s : State) :
    (makeLineAction a s).now = s.now ∧ (makeLineAction a s).pending = s.pending ∧
    (makeLineAction a s).link = s.link ∧ (makeLineAction a s).settings = s.settings ∧
    (makeLineAction a s).clock = s.clock ∧ (makeLineAction a s).manager = s.manager ∧
    (makeLineAction a s).directory = s.directory ∧ (makeLineAction a s).panel = s.panel ∧
    (makeLineAction a s).drum = s.drum ∧ (makeLineAction a s).motor = s.motor ∧
    (makeLineAction a s).scanPart = s.scanPart ∧ (makeLineAction a s).curve = s.curve ∧
    (makeLineAction a s).cal = s.cal ∧ (makeLineAction a s).lamp = s.lamp ∧
    (makeLineAction a s).carriage = s.carriage ∧ (makeLineAction a s).encoder = s.encoder ∧
    (makeLineAction a s).scan = s.scan ∧ (makeLineAction a s).store = s.store ∧ (makeLineAction a s).run = s.run ∧
    (makeLineAction a s).slips = s.slips := by
  simp only [makeLineAction]
  (repeat' split) <;> simp

@[simp] theorem stopScan_keeps (s : State) :
    (stopScan s).now = s.now ∧ (stopScan s).pending = s.pending ∧ (stopScan s).link = s.link ∧
    (stopScan s).settings = s.settings ∧ (stopScan s).clock = s.clock ∧ (stopScan s).manager = s.manager ∧
    (stopScan s).directory = s.directory ∧ (stopScan s).panel = s.panel ∧ (stopScan s).drum = s.drum ∧
    (stopScan s).motor = s.motor ∧ (stopScan s).scanPart = s.scanPart ∧ (stopScan s).curve = s.curve ∧
    (stopScan s).cal = s.cal ∧ (stopScan s).lamp = s.lamp ∧ (stopScan s).encoder = s.encoder ∧
    (stopScan s).store = s.store ∧ (stopScan s).line = s.line ∧ (stopScan s).slips = s.slips := by
  simp only [stopScan]
  simp

@[simp] theorem trimOff_keeps (s : State) :
    (trimOff s).now = s.now ∧ (trimOff s).pending = s.pending ∧ (trimOff s).link = s.link ∧
    (trimOff s).settings = s.settings ∧ (trimOff s).clock = s.clock ∧ (trimOff s).manager = s.manager ∧
    (trimOff s).directory = s.directory ∧ (trimOff s).panel = s.panel ∧ (trimOff s).motor = s.motor ∧
    (trimOff s).scanPart = s.scanPart ∧ (trimOff s).curve = s.curve ∧ (trimOff s).cal = s.cal ∧
    (trimOff s).lamp = s.lamp ∧ (trimOff s).carriage = s.carriage ∧ (trimOff s).encoder = s.encoder ∧
    (trimOff s).scan = s.scan ∧ (trimOff s).store = s.store ∧ (trimOff s).line = s.line ∧ (trimOff s).run = s.run ∧
    (trimOff s).slips = s.slips := by
  simp only [trimOff]
  simp

@[simp] theorem firstAbort_keeps (c : AbortCause) (r : RunRecord) (o : Order) (s : State) :
    (firstAbort c r o s).now = s.now ∧ (firstAbort c r o s).pending = s.pending ∧
    (firstAbort c r o s).link = s.link ∧ (firstAbort c r o s).settings = s.settings ∧
    (firstAbort c r o s).clock = s.clock ∧ (firstAbort c r o s).directory = s.directory ∧
    (firstAbort c r o s).panel = s.panel ∧ (firstAbort c r o s).motor = s.motor ∧
    (firstAbort c r o s).scanPart = s.scanPart ∧ (firstAbort c r o s).curve = s.curve ∧
    (firstAbort c r o s).cal = s.cal ∧ (firstAbort c r o s).lamp = s.lamp ∧
    (firstAbort c r o s).encoder = s.encoder ∧ (firstAbort c r o s).slips = s.slips := by
  simp only [firstAbort]
  (repeat' split) <;> simp

@[simp] theorem secondAbort_keeps (c : AbortCause) (r : RunRecord) (s : State) :
    (secondAbort c r s).now = s.now ∧ (secondAbort c r s).pending = s.pending ∧ (secondAbort c r s).link = s.link ∧
    (secondAbort c r s).settings = s.settings ∧ (secondAbort c r s).clock = s.clock ∧
    (secondAbort c r s).manager = s.manager ∧ (secondAbort c r s).directory = s.directory ∧
    (secondAbort c r s).panel = s.panel ∧ (secondAbort c r s).drum = s.drum ∧ (secondAbort c r s).motor = s.motor ∧
    (secondAbort c r s).scanPart = s.scanPart ∧ (secondAbort c r s).curve = s.curve ∧
    (secondAbort c r s).cal = s.cal ∧ (secondAbort c r s).lamp = s.lamp ∧
    (secondAbort c r s).carriage = s.carriage ∧ (secondAbort c r s).encoder = s.encoder ∧
    (secondAbort c r s).scan = s.scan ∧ (secondAbort c r s).store = s.store ∧ (secondAbort c r s).slips = s.slips := by
  simp only [secondAbort]
  (repeat' split) <;> simp

@[simp] theorem runAbort_keeps (c : AbortCause) (s : State) :
    (runAbort c s).now = s.now ∧ (runAbort c s).pending = s.pending ∧ (runAbort c s).link = s.link ∧
    (runAbort c s).settings = s.settings ∧ (runAbort c s).clock = s.clock ∧
    (runAbort c s).directory = s.directory ∧ (runAbort c s).panel = s.panel ∧ (runAbort c s).motor = s.motor ∧
    (runAbort c s).scanPart = s.scanPart ∧ (runAbort c s).curve = s.curve ∧ (runAbort c s).cal = s.cal ∧
    (runAbort c s).lamp = s.lamp ∧ (runAbort c s).encoder = s.encoder ∧ (runAbort c s).slips = s.slips := by
  simp only [runAbort]
  (repeat' split) <;> simp

@[simp] theorem examineStart_keeps (s : State) :
    (examineStart s).now = s.now ∧ (examineStart s).pending = s.pending ∧ (examineStart s).settings = s.settings ∧
    (examineStart s).clock = s.clock ∧ (examineStart s).directory = s.directory ∧
    (examineStart s).panel = s.panel ∧ (examineStart s).drum = s.drum ∧ (examineStart s).motor = s.motor ∧
    (examineStart s).scanPart = s.scanPart ∧ (examineStart s).curve = s.curve ∧ (examineStart s).cal = s.cal ∧
    (examineStart s).lamp = s.lamp ∧ (examineStart s).carriage = s.carriage ∧
    (examineStart s).encoder = s.encoder ∧ (examineStart s).scan = s.scan ∧ (examineStart s).store = s.store ∧
    (examineStart s).slips = s.slips := by
  simp only [examineStart]
  (repeat' split) <;> simp

@[simp] theorem rollCallEnd_keeps (s : State) :
    (rollCallEnd s).now = s.now ∧ (rollCallEnd s).pending = s.pending ∧ (rollCallEnd s).settings = s.settings ∧
    (rollCallEnd s).clock = s.clock ∧ (rollCallEnd s).directory = s.directory ∧ (rollCallEnd s).panel = s.panel ∧
    (rollCallEnd s).drum = s.drum ∧ (rollCallEnd s).motor = s.motor ∧ (rollCallEnd s).scanPart = s.scanPart ∧
    (rollCallEnd s).curve = s.curve ∧ (rollCallEnd s).cal = s.cal ∧ (rollCallEnd s).lamp = s.lamp ∧
    (rollCallEnd s).carriage = s.carriage ∧ (rollCallEnd s).encoder = s.encoder ∧ (rollCallEnd s).scan = s.scan ∧
    (rollCallEnd s).store = s.store ∧ (rollCallEnd s).slips = s.slips := by
  simp only [rollCallEnd]
  (repeat' split) <;> simp

@[simp] theorem rollCallStep_keeps (out : Option ReplyTone) (r : RunRecord) (o : Order) (s : State) :
    (rollCallStep out r o s).now = s.now ∧ (rollCallStep out r o s).pending = s.pending ∧
    (rollCallStep out r o s).settings = s.settings ∧ (rollCallStep out r o s).clock = s.clock ∧
    (rollCallStep out r o s).directory = s.directory ∧ (rollCallStep out r o s).panel = s.panel ∧
    (rollCallStep out r o s).drum = s.drum ∧ (rollCallStep out r o s).motor = s.motor ∧
    (rollCallStep out r o s).scanPart = s.scanPart ∧ (rollCallStep out r o s).curve = s.curve ∧
    (rollCallStep out r o s).cal = s.cal ∧ (rollCallStep out r o s).lamp = s.lamp ∧
    (rollCallStep out r o s).carriage = s.carriage ∧ (rollCallStep out r o s).encoder = s.encoder ∧
    (rollCallStep out r o s).scan = s.scan ∧ (rollCallStep out r o s).store = s.store ∧
    (rollCallStep out r o s).slips = s.slips := by
  simp only [rollCallStep]
  (repeat' split) <;> simp

@[simp] theorem pollNext_keeps (s : State) :
    (pollNext s).now = s.now ∧ (pollNext s).pending = s.pending ∧ (pollNext s).link = s.link ∧
    (pollNext s).settings = s.settings ∧ (pollNext s).clock = s.clock ∧ (pollNext s).manager = s.manager ∧
    (pollNext s).directory = s.directory ∧ (pollNext s).panel = s.panel ∧ (pollNext s).drum = s.drum ∧
    (pollNext s).motor = s.motor ∧ (pollNext s).scanPart = s.scanPart ∧ (pollNext s).curve = s.curve ∧
    (pollNext s).cal = s.cal ∧ (pollNext s).lamp = s.lamp ∧ (pollNext s).carriage = s.carriage ∧
    (pollNext s).encoder = s.encoder ∧ (pollNext s).scan = s.scan ∧ (pollNext s).store = s.store ∧
    (pollNext s).run = s.run ∧ (pollNext s).slips = s.slips := by
  simp only [pollNext]
  (repeat' split) <;> simp

@[simp] theorem confirmStep_keeps (out : Option ReplyTone) (r : RunRecord) (o : Order) (s : State) :
    (confirmStep out r o s).now = s.now ∧ (confirmStep out r o s).pending = s.pending ∧
    (confirmStep out r o s).link = s.link ∧ (confirmStep out r o s).settings = s.settings ∧
    (confirmStep out r o s).clock = s.clock ∧ (confirmStep out r o s).directory = s.directory ∧
    (confirmStep out r o s).panel = s.panel ∧ (confirmStep out r o s).drum = s.drum ∧
    (confirmStep out r o s).motor = s.motor ∧ (confirmStep out r o s).scanPart = s.scanPart ∧
    (confirmStep out r o s).curve = s.curve ∧ (confirmStep out r o s).cal = s.cal ∧
    (confirmStep out r o s).lamp = s.lamp ∧ (confirmStep out r o s).carriage = s.carriage ∧
    (confirmStep out r o s).encoder = s.encoder ∧ (confirmStep out r o s).scan = s.scan ∧
    (confirmStep out r o s).store = s.store ∧ (confirmStep out r o s).run = s.run ∧
    (confirmStep out r o s).slips = s.slips := by
  simp only [confirmStep]
  (repeat' split) <;> simp

@[simp] theorem listenOutcome_keeps (out : Option ReplyTone) (s : State) :
    (listenOutcome out s).now = s.now ∧ (listenOutcome out s).pending = s.pending ∧
    (listenOutcome out s).settings = s.settings ∧ (listenOutcome out s).clock = s.clock ∧
    (listenOutcome out s).directory = s.directory ∧ (listenOutcome out s).panel = s.panel ∧
    (listenOutcome out s).drum = s.drum ∧ (listenOutcome out s).motor = s.motor ∧
    (listenOutcome out s).scanPart = s.scanPart ∧ (listenOutcome out s).curve = s.curve ∧
    (listenOutcome out s).cal = s.cal ∧ (listenOutcome out s).lamp = s.lamp ∧
    (listenOutcome out s).carriage = s.carriage ∧ (listenOutcome out s).encoder = s.encoder ∧
    (listenOutcome out s).scan = s.scan ∧ (listenOutcome out s).store = s.store ∧
    (listenOutcome out s).slips = s.slips := by
  simp only [listenOutcome, withRun]
  (repeat' split) <;> simp

@[simp] theorem noDialToneReport_keeps (s : State) :
    (noDialToneReport s).now = s.now ∧ (noDialToneReport s).pending = s.pending ∧
    (noDialToneReport s).settings = s.settings ∧ (noDialToneReport s).clock = s.clock ∧
    (noDialToneReport s).directory = s.directory ∧ (noDialToneReport s).panel = s.panel ∧
    (noDialToneReport s).drum = s.drum ∧ (noDialToneReport s).motor = s.motor ∧
    (noDialToneReport s).scanPart = s.scanPart ∧ (noDialToneReport s).curve = s.curve ∧
    (noDialToneReport s).cal = s.cal ∧ (noDialToneReport s).lamp = s.lamp ∧
    (noDialToneReport s).carriage = s.carriage ∧ (noDialToneReport s).encoder = s.encoder ∧
    (noDialToneReport s).scan = s.scan ∧ (noDialToneReport s).store = s.store ∧ (noDialToneReport s).slips = s.slips := by
  simp only [noDialToneReport, withRun]
  (repeat' split) <;> simp

@[simp] theorem phasingLineReport_keeps (n : Nat) (s : State) :
    (phasingLineReport n s).now = s.now ∧ (phasingLineReport n s).pending = s.pending ∧
    (phasingLineReport n s).link = s.link ∧ (phasingLineReport n s).settings = s.settings ∧
    (phasingLineReport n s).clock = s.clock ∧ (phasingLineReport n s).manager = s.manager ∧
    (phasingLineReport n s).directory = s.directory ∧ (phasingLineReport n s).panel = s.panel ∧
    (phasingLineReport n s).drum = s.drum ∧ (phasingLineReport n s).motor = s.motor ∧
    (phasingLineReport n s).scanPart = s.scanPart ∧ (phasingLineReport n s).curve = s.curve ∧
    (phasingLineReport n s).cal = s.cal ∧ (phasingLineReport n s).lamp = s.lamp ∧
    (phasingLineReport n s).carriage = s.carriage ∧ (phasingLineReport n s).encoder = s.encoder ∧
    (phasingLineReport n s).store = s.store ∧ (phasingLineReport n s).line = s.line ∧
    (phasingLineReport n s).slips = s.slips := by
  simp only [phasingLineReport, withRun]
  (repeat' split) <;> simp

@[simp] theorem phasingEndedReport_keeps (s : State) :
    (phasingEndedReport s).now = s.now ∧ (phasingEndedReport s).pending = s.pending ∧
    (phasingEndedReport s).settings = s.settings ∧ (phasingEndedReport s).clock = s.clock ∧
    (phasingEndedReport s).directory = s.directory ∧ (phasingEndedReport s).panel = s.panel ∧
    (phasingEndedReport s).drum = s.drum ∧ (phasingEndedReport s).motor = s.motor ∧
    (phasingEndedReport s).scanPart = s.scanPart ∧ (phasingEndedReport s).curve = s.curve ∧
    (phasingEndedReport s).cal = s.cal ∧ (phasingEndedReport s).lamp = s.lamp ∧
    (phasingEndedReport s).carriage = s.carriage ∧ (phasingEndedReport s).encoder = s.encoder ∧
    (phasingEndedReport s).scan = s.scan ∧ (phasingEndedReport s).store = s.store ∧
    (phasingEndedReport s).line = s.line ∧ (phasingEndedReport s).run = s.run ∧
    (phasingEndedReport s).slips = s.slips := by
  simp only [phasingEndedReport, withRun]
  (repeat' split) <;> simp

@[simp] theorem endOfPictureReport_keeps (s : State) :
    (endOfPictureReport s).now = s.now ∧ (endOfPictureReport s).pending = s.pending ∧
    (endOfPictureReport s).settings = s.settings ∧ (endOfPictureReport s).clock = s.clock ∧
    (endOfPictureReport s).directory = s.directory ∧ (endOfPictureReport s).panel = s.panel ∧
    (endOfPictureReport s).motor = s.motor ∧ (endOfPictureReport s).scanPart = s.scanPart ∧
    (endOfPictureReport s).curve = s.curve ∧ (endOfPictureReport s).cal = s.cal ∧
    (endOfPictureReport s).lamp = s.lamp ∧ (endOfPictureReport s).carriage = s.carriage ∧
    (endOfPictureReport s).encoder = s.encoder ∧ (endOfPictureReport s).scan = s.scan ∧
    (endOfPictureReport s).line = s.line ∧ (endOfPictureReport s).run = s.run ∧
    (endOfPictureReport s).slips = s.slips := by
  simp only [endOfPictureReport, withRun]
  (repeat' split) <;> simp

@[simp] theorem stopToneEndedReport_keeps (s : State) :
    (stopToneEndedReport s).now = s.now ∧ (stopToneEndedReport s).pending = s.pending ∧
    (stopToneEndedReport s).settings = s.settings ∧ (stopToneEndedReport s).clock = s.clock ∧
    (stopToneEndedReport s).directory = s.directory ∧ (stopToneEndedReport s).panel = s.panel ∧
    (stopToneEndedReport s).drum = s.drum ∧ (stopToneEndedReport s).motor = s.motor ∧
    (stopToneEndedReport s).scanPart = s.scanPart ∧ (stopToneEndedReport s).curve = s.curve ∧
    (stopToneEndedReport s).cal = s.cal ∧ (stopToneEndedReport s).lamp = s.lamp ∧
    (stopToneEndedReport s).carriage = s.carriage ∧ (stopToneEndedReport s).encoder = s.encoder ∧
    (stopToneEndedReport s).scan = s.scan ∧ (stopToneEndedReport s).store = s.store ∧
    (stopToneEndedReport s).slips = s.slips := by
  simp only [stopToneEndedReport]
  (repeat' split) <;> simp

@[simp] theorem deferExpired_keeps (s : State) :
    (deferExpired s).now = s.now ∧ (deferExpired s).pending = s.pending ∧ (deferExpired s).link = s.link ∧
    (deferExpired s).settings = s.settings ∧ (deferExpired s).clock = s.clock ∧
    (deferExpired s).directory = s.directory ∧ (deferExpired s).panel = s.panel ∧
    (deferExpired s).motor = s.motor ∧ (deferExpired s).scanPart = s.scanPart ∧ (deferExpired s).curve = s.curve ∧
    (deferExpired s).cal = s.cal ∧ (deferExpired s).lamp = s.lamp ∧ (deferExpired s).encoder = s.encoder ∧
    (deferExpired s).slips = s.slips := by
  simp only [deferExpired]
  simp

@[simp] theorem drumReportToRun_keeps (s : State) :
    (drumReportToRun s).now = s.now ∧ (drumReportToRun s).pending = s.pending ∧
    (drumReportToRun s).settings = s.settings ∧ (drumReportToRun s).clock = s.clock ∧
    (drumReportToRun s).directory = s.directory ∧ (drumReportToRun s).panel = s.panel ∧
    (drumReportToRun s).drum = s.drum ∧ (drumReportToRun s).motor = s.motor ∧
    (drumReportToRun s).scanPart = s.scanPart ∧ (drumReportToRun s).curve = s.curve ∧
    (drumReportToRun s).cal = s.cal ∧ (drumReportToRun s).lamp = s.lamp ∧
    (drumReportToRun s).carriage = s.carriage ∧ (drumReportToRun s).encoder = s.encoder ∧
    (drumReportToRun s).scan = s.scan ∧ (drumReportToRun s).store = s.store ∧ (drumReportToRun s).slips = s.slips := by
  simp only [drumReportToRun]
  simp

@[simp] theorem noLockToRun_keeps (s : State) :
    (noLockToRun s).now = s.now ∧ (noLockToRun s).pending = s.pending ∧ (noLockToRun s).link = s.link ∧
    (noLockToRun s).settings = s.settings ∧ (noLockToRun s).clock = s.clock ∧
    (noLockToRun s).directory = s.directory ∧ (noLockToRun s).panel = s.panel ∧ (noLockToRun s).motor = s.motor ∧
    (noLockToRun s).scanPart = s.scanPart ∧ (noLockToRun s).curve = s.curve ∧ (noLockToRun s).cal = s.cal ∧
    (noLockToRun s).lamp = s.lamp ∧ (noLockToRun s).encoder = s.encoder ∧ (noLockToRun s).slips = s.slips := by
  simp only [noLockToRun, withRun]
  (repeat' split) <;> simp

@[simp] theorem revolutionToRun_keeps (b : Bool) (s : State) :
    (revolutionToRun b s).now = s.now ∧ (revolutionToRun b s).pending = s.pending ∧
    (revolutionToRun b s).link = s.link ∧ (revolutionToRun b s).settings = s.settings ∧
    (revolutionToRun b s).clock = s.clock ∧ (revolutionToRun b s).directory = s.directory ∧
    (revolutionToRun b s).panel = s.panel ∧ (revolutionToRun b s).motor = s.motor ∧
    (revolutionToRun b s).scanPart = s.scanPart ∧ (revolutionToRun b s).curve = s.curve ∧
    (revolutionToRun b s).cal = s.cal ∧ (revolutionToRun b s).lamp = s.lamp ∧
    (revolutionToRun b s).encoder = s.encoder ∧ (revolutionToRun b s).slips = s.slips := by
  simp only [revolutionToRun]
  (repeat' split) <;> simp

@[simp] theorem countRescan_keeps (s : State) :
    (countRescan s).now = s.now ∧ (countRescan s).pending = s.pending ∧ (countRescan s).link = s.link ∧
    (countRescan s).settings = s.settings ∧ (countRescan s).clock = s.clock ∧
    (countRescan s).directory = s.directory ∧ (countRescan s).panel = s.panel ∧ (countRescan s).drum = s.drum ∧
    (countRescan s).motor = s.motor ∧ (countRescan s).scanPart = s.scanPart ∧ (countRescan s).curve = s.curve ∧
    (countRescan s).cal = s.cal ∧ (countRescan s).lamp = s.lamp ∧ (countRescan s).carriage = s.carriage ∧
    (countRescan s).encoder = s.encoder ∧ (countRescan s).scan = s.scan ∧ (countRescan s).store = s.store ∧
    (countRescan s).line = s.line ∧ (countRescan s).run = s.run ∧ (countRescan s).slips = s.slips := by
  simp only [countRescan, withRun]
  (repeat' split) <;> simp

end Sys2Proof.Machine
end

