-- ==== Sys2Proof/Laws/FramesDrum.lean ====
section
/-! SUPPORT. What each operation of Machine/Drum.lean leaves as it was: one lemma for each operation. -/

namespace Sys2Proof.Machine

@[simp] theorem drumEvent_keeps (c : DrumCause) (s : State) :
    (drumEvent c s).now = s.now ∧ (drumEvent c s).pending = s.pending ∧ (drumEvent c s).settings = s.settings ∧
    (drumEvent c s).clock = s.clock ∧ (drumEvent c s).manager = s.manager ∧
    (drumEvent c s).directory = s.directory ∧ (drumEvent c s).panel = s.panel ∧ (drumEvent c s).drum = s.drum ∧
    (drumEvent c s).motor = s.motor ∧ (drumEvent c s).scanPart = s.scanPart ∧ (drumEvent c s).curve = s.curve ∧
    (drumEvent c s).cal = s.cal ∧ (drumEvent c s).lamp = s.lamp ∧ (drumEvent c s).carriage = s.carriage ∧
    (drumEvent c s).encoder = s.encoder ∧ (drumEvent c s).scan = s.scan ∧ (drumEvent c s).store = s.store ∧
    (drumEvent c s).line = s.line ∧ (drumEvent c s).run = s.run ∧ (drumEvent c s).slips = s.slips := by
  simp only [drumEvent]
  simp

@[simp] theorem reportDrum_keeps (s : State) :
    (reportDrum s).now = s.now ∧ (reportDrum s).pending = s.pending ∧ (reportDrum s).settings = s.settings ∧
    (reportDrum s).clock = s.clock ∧ (reportDrum s).directory = s.directory ∧ (reportDrum s).panel = s.panel ∧
    (reportDrum s).motor = s.motor ∧ (reportDrum s).scanPart = s.scanPart ∧ (reportDrum s).curve = s.curve ∧
    (reportDrum s).encoder = s.encoder ∧ (reportDrum s).scan = s.scan ∧ (reportDrum s).store = s.store ∧
    (reportDrum s).slips = s.slips := by
  simp only [reportDrum]
  simp

@[simp] theorem drumChanged_keeps (s : State) :
    (drumChanged s).now = s.now ∧ (drumChanged s).pending = s.pending ∧ (drumChanged s).settings = s.settings ∧
    (drumChanged s).clock = s.clock ∧ (drumChanged s).directory = s.directory ∧ (drumChanged s).panel = s.panel ∧
    (drumChanged s).motor = s.motor ∧ (drumChanged s).scanPart = s.scanPart ∧ (drumChanged s).curve = s.curve ∧
    (drumChanged s).encoder = s.encoder ∧ (drumChanged s).scan = s.scan ∧ (drumChanged s).store = s.store ∧
    (drumChanged s).slips = s.slips := by
  simp only [drumChanged]
  simp

@[simp] theorem speedRequest_keeps (rpm : Nat) (s : State) :
    (speedRequest rpm s).now = s.now ∧ (speedRequest rpm s).pending = s.pending ∧
    (speedRequest rpm s).settings = s.settings ∧ (speedRequest rpm s).clock = s.clock ∧
    (speedRequest rpm s).directory = s.directory ∧ (speedRequest rpm s).panel = s.panel ∧
    (speedRequest rpm s).motor = s.motor ∧ (speedRequest rpm s).scanPart = s.scanPart ∧
    (speedRequest rpm s).curve = s.curve ∧ (speedRequest rpm s).encoder = s.encoder ∧
    (speedRequest rpm s).scan = s.scan ∧ (speedRequest rpm s).store = s.store ∧ (speedRequest rpm s).slips = s.slips := by
  simp only [speedRequest]
  (repeat' split) <;> simp

@[simp] theorem enterSpinningDown_keeps (s : State) :
    (enterSpinningDown s).now = s.now ∧ (enterSpinningDown s).pending = s.pending ∧
    (enterSpinningDown s).settings = s.settings ∧ (enterSpinningDown s).clock = s.clock ∧
    (enterSpinningDown s).directory = s.directory ∧ (enterSpinningDown s).panel = s.panel ∧
    (enterSpinningDown s).motor = s.motor ∧ (enterSpinningDown s).scanPart = s.scanPart ∧
    (enterSpinningDown s).curve = s.curve ∧ (enterSpinningDown s).encoder = s.encoder ∧
    (enterSpinningDown s).scan = s.scan ∧ (enterSpinningDown s).store = s.store ∧
    (enterSpinningDown s).slips = s.slips := by
  simp only [enterSpinningDown]
  simp

@[simp] theorem stopRequest_keeps (b : Bool) (s : State) :
    (stopRequest b s).now = s.now ∧ (stopRequest b s).pending = s.pending ∧
    (stopRequest b s).settings = s.settings ∧ (stopRequest b s).clock = s.clock ∧
    (stopRequest b s).directory = s.directory ∧ (stopRequest b s).panel = s.panel ∧
    (stopRequest b s).motor = s.motor ∧ (stopRequest b s).scanPart = s.scanPart ∧
    (stopRequest b s).curve = s.curve ∧ (stopRequest b s).encoder = s.encoder ∧ (stopRequest b s).scan = s.scan ∧
    (stopRequest b s).store = s.store ∧ (stopRequest b s).slips = s.slips := by
  simp only [stopRequest]
  (repeat' split) <;> simp

@[simp] theorem motorComplete_keeps (p q : Nat) (s : State) :
    (motorComplete p q s).now = s.now ∧ (motorComplete p q s).pending = s.pending ∧
    (motorComplete p q s).settings = s.settings ∧ (motorComplete p q s).clock = s.clock ∧
    (motorComplete p q s).directory = s.directory ∧ (motorComplete p q s).panel = s.panel ∧
    (motorComplete p q s).scanPart = s.scanPart ∧ (motorComplete p q s).curve = s.curve ∧
    (motorComplete p q s).encoder = s.encoder ∧ (motorComplete p q s).scan = s.scan ∧
    (motorComplete p q s).store = s.store ∧ (motorComplete p q s).slips = s.slips := by
  simp only [motorComplete]
  (repeat' split) <;> simp

@[simp] theorem motorPeriod_keeps (p : Nat) (s : State) :
    (motorPeriod p s).now = s.now ∧ (motorPeriod p s).pending = s.pending ∧
    (motorPeriod p s).settings = s.settings ∧ (motorPeriod p s).clock = s.clock ∧
    (motorPeriod p s).directory = s.directory ∧ (motorPeriod p s).panel = s.panel ∧
    (motorPeriod p s).scanPart = s.scanPart ∧ (motorPeriod p s).curve = s.curve ∧
    (motorPeriod p s).encoder = s.encoder ∧ (motorPeriod p s).scan = s.scan ∧ (motorPeriod p s).store = s.store ∧
    (motorPeriod p s).slips = s.slips := by
  simp only [motorPeriod]
  (repeat' split) <;> simp

@[simp] theorem noLockFound_keeps (s : State) :
    (noLockFound s).now = s.now ∧ (noLockFound s).pending = s.pending ∧ (noLockFound s).settings = s.settings ∧
    (noLockFound s).clock = s.clock ∧ (noLockFound s).directory = s.directory ∧ (noLockFound s).panel = s.panel ∧
    (noLockFound s).motor = s.motor ∧ (noLockFound s).scanPart = s.scanPart ∧ (noLockFound s).curve = s.curve ∧
    (noLockFound s).encoder = s.encoder ∧ (noLockFound s).slips = s.slips := by
  simp only [noLockFound]
  simp

@[simp] theorem stallFound_keeps (s : State) :
    (stallFound s).now = s.now ∧ (stallFound s).pending = s.pending ∧ (stallFound s).settings = s.settings ∧
    (stallFound s).clock = s.clock ∧ (stallFound s).directory = s.directory ∧ (stallFound s).panel = s.panel ∧
    (stallFound s).motor = s.motor ∧ (stallFound s).scanPart = s.scanPart ∧ (stallFound s).curve = s.curve ∧
    (stallFound s).encoder = s.encoder ∧ (stallFound s).slips = s.slips := by
  simp only [stallFound]
  simp

@[simp] theorem regulate_keeps (P : Nat) (s : State) :
    (regulate P s).now = s.now ∧ (regulate P s).pending = s.pending ∧ (regulate P s).settings = s.settings ∧
    (regulate P s).clock = s.clock ∧ (regulate P s).directory = s.directory ∧ (regulate P s).panel = s.panel ∧
    (regulate P s).motor = s.motor ∧ (regulate P s).scanPart = s.scanPart ∧ (regulate P s).curve = s.curve ∧
    (regulate P s).encoder = s.encoder ∧ (regulate P s).scan = s.scan ∧ (regulate P s).store = s.store ∧
    (regulate P s).slips = s.slips := by
  simp only [regulate]
  (repeat' split) <;> simp

end Sys2Proof.Machine
end

