-- ==== Sys2Proof/Laws/FramesSlips.lean ====
section
/-! SUPPORT. What each operation of Machine/Slips.lean leaves as it was: one lemma for each operation. -/

namespace Sys2Proof.Machine

@[simp] theorem startSlip_keeps (s : State) :
    (startSlip s).now = s.now ∧ (startSlip s).pending = s.pending ∧ (startSlip s).link = s.link ∧
    (startSlip s).settings = s.settings ∧ (startSlip s).clock = s.clock ∧ (startSlip s).manager = s.manager ∧
    (startSlip s).directory = s.directory ∧ (startSlip s).panel = s.panel ∧ (startSlip s).drum = s.drum ∧
    (startSlip s).motor = s.motor ∧ (startSlip s).scanPart = s.scanPart ∧ (startSlip s).curve = s.curve ∧
    (startSlip s).cal = s.cal ∧ (startSlip s).lamp = s.lamp ∧ (startSlip s).carriage = s.carriage ∧
    (startSlip s).encoder = s.encoder ∧ (startSlip s).scan = s.scan ∧ (startSlip s).store = s.store ∧
    (startSlip s).line = s.line ∧ (startSlip s).run = s.run := by
  simp only [startSlip]
  (repeat' split) <;> simp

@[simp] theorem joinSlip_keeps (sl : Slip) (s : State) :
    (joinSlip sl s).now = s.now ∧ (joinSlip sl s).pending = s.pending ∧ (joinSlip sl s).link = s.link ∧
    (joinSlip sl s).settings = s.settings ∧ (joinSlip sl s).clock = s.clock ∧ (joinSlip sl s).manager = s.manager ∧
    (joinSlip sl s).directory = s.directory ∧ (joinSlip sl s).panel = s.panel ∧ (joinSlip sl s).drum = s.drum ∧
    (joinSlip sl s).motor = s.motor ∧ (joinSlip sl s).scanPart = s.scanPart ∧ (joinSlip sl s).curve = s.curve ∧
    (joinSlip sl s).cal = s.cal ∧ (joinSlip sl s).lamp = s.lamp ∧ (joinSlip sl s).carriage = s.carriage ∧
    (joinSlip sl s).encoder = s.encoder ∧ (joinSlip sl s).scan = s.scan ∧ (joinSlip sl s).store = s.store ∧
    (joinSlip sl s).line = s.line ∧ (joinSlip sl s).run = s.run := by
  simp only [joinSlip]
  simp

@[simp] theorem leaveTable_keeps (o : Order) (s : State) :
    (leaveTable o s).now = s.now ∧ (leaveTable o s).pending = s.pending ∧ (leaveTable o s).settings = s.settings ∧
    (leaveTable o s).clock = s.clock ∧ (leaveTable o s).directory = s.directory ∧
    (leaveTable o s).panel = s.panel ∧ (leaveTable o s).drum = s.drum ∧ (leaveTable o s).motor = s.motor ∧
    (leaveTable o s).scanPart = s.scanPart ∧ (leaveTable o s).curve = s.curve ∧ (leaveTable o s).cal = s.cal ∧
    (leaveTable o s).lamp = s.lamp ∧ (leaveTable o s).carriage = s.carriage ∧
    (leaveTable o s).encoder = s.encoder ∧ (leaveTable o s).scan = s.scan ∧ (leaveTable o s).store = s.store ∧
    (leaveTable o s).line = s.line ∧ (leaveTable o s).run = s.run ∧ (leaveTable o s).slips = s.slips := by
  simp only [leaveTable]
  simp

@[simp] theorem retireUpTo_keeps (n : Nat) (s : State) :
    (retireUpTo n s).now = s.now ∧ (retireUpTo n s).pending = s.pending ∧ (retireUpTo n s).settings = s.settings ∧
    (retireUpTo n s).clock = s.clock ∧ (retireUpTo n s).directory = s.directory ∧
    (retireUpTo n s).panel = s.panel ∧ (retireUpTo n s).drum = s.drum ∧ (retireUpTo n s).motor = s.motor ∧
    (retireUpTo n s).scanPart = s.scanPart ∧ (retireUpTo n s).curve = s.curve ∧ (retireUpTo n s).cal = s.cal ∧
    (retireUpTo n s).lamp = s.lamp ∧ (retireUpTo n s).carriage = s.carriage ∧
    (retireUpTo n s).encoder = s.encoder ∧ (retireUpTo n s).scan = s.scan ∧ (retireUpTo n s).store = s.store ∧
    (retireUpTo n s).line = s.line ∧ (retireUpTo n s).run = s.run := by
  induction n generalizing s with
  | zero => simp [retireUpTo]
  | succ n ih =>
    simp only [retireUpTo]
    (repeat' split) <;> simp [ih]

@[simp] theorem retire_keeps (s : State) :
    (retire s).now = s.now ∧ (retire s).pending = s.pending ∧ (retire s).settings = s.settings ∧
    (retire s).clock = s.clock ∧ (retire s).directory = s.directory ∧ (retire s).panel = s.panel ∧
    (retire s).drum = s.drum ∧ (retire s).motor = s.motor ∧ (retire s).scanPart = s.scanPart ∧
    (retire s).curve = s.curve ∧ (retire s).cal = s.cal ∧ (retire s).lamp = s.lamp ∧
    (retire s).carriage = s.carriage ∧ (retire s).encoder = s.encoder ∧ (retire s).scan = s.scan ∧
    (retire s).store = s.store ∧ (retire s).line = s.line ∧ (retire s).run = s.run := by
  simp only [retire]
  simp

end Sys2Proof.Machine
end

