-- ==== Sys2Proof/Laws/FramesOrders.lean ====
section
/-! SUPPORT. What each operation of Machine/Orders.lean leaves as it was: one lemma for each operation. -/

namespace Sys2Proof.Machine

@[simp] theorem runStart_keeps (o : Order) (s : State) :
    (runStart o s).now = s.now ∧ (runStart o s).pending = s.pending ∧ (runStart o s).settings = s.settings ∧
    (runStart o s).clock = s.clock ∧ (runStart o s).directory = s.directory ∧ (runStart o s).panel = s.panel ∧
    (runStart o s).motor = s.motor ∧ (runStart o s).scanPart = s.scanPart ∧ (runStart o s).curve = s.curve ∧
    (runStart o s).encoder = s.encoder ∧ (runStart o s).slips = s.slips := by
  simp only [runStart]
  (repeat' split) <;> simp

@[simp] theorem selectOrder_keeps (o : Order) (s : State) :
    (selectOrder o s).now = s.now ∧ (selectOrder o s).pending = s.pending ∧
    (selectOrder o s).settings = s.settings ∧ (selectOrder o s).clock = s.clock ∧
    (selectOrder o s).directory = s.directory ∧ (selectOrder o s).panel = s.panel ∧
    (selectOrder o s).motor = s.motor ∧ (selectOrder o s).scanPart = s.scanPart ∧
    (selectOrder o s).curve = s.curve ∧ (selectOrder o s).encoder = s.encoder ∧ (selectOrder o s).slips = s.slips := by
  simp only [selectOrder]
  simp

@[simp] theorem select_keeps (s : State) :
    (select s).now = s.now ∧ (select s).pending = s.pending ∧ (select s).settings = s.settings ∧
    (select s).clock = s.clock ∧ (select s).directory = s.directory ∧ (select s).panel = s.panel ∧
    (select s).motor = s.motor ∧ (select s).scanPart = s.scanPart ∧ (select s).curve = s.curve ∧
    (select s).encoder = s.encoder ∧ (select s).slips = s.slips := by
  simp only [select]
  (repeat' split) <;> simp

@[simp] theorem selectAfterCal_keeps (b : State) (s : State) :
    (selectAfterCal b s).now = s.now ∧ (selectAfterCal b s).pending = s.pending ∧
    (selectAfterCal b s).settings = s.settings ∧ (selectAfterCal b s).clock = s.clock ∧
    (selectAfterCal b s).directory = s.directory ∧ (selectAfterCal b s).panel = s.panel ∧
    (selectAfterCal b s).motor = s.motor ∧ (selectAfterCal b s).scanPart = s.scanPart ∧
    (selectAfterCal b s).curve = s.curve ∧ (selectAfterCal b s).encoder = s.encoder ∧
    (selectAfterCal b s).slips = s.slips := by
  simp only [selectAfterCal]
  (repeat' split) <;> simp

@[simp] theorem mountStart_keeps (s : State) :
    (mountStart s).now = s.now ∧ (mountStart s).pending = s.pending ∧ (mountStart s).settings = s.settings ∧
    (mountStart s).clock = s.clock ∧ (mountStart s).directory = s.directory ∧ (mountStart s).motor = s.motor ∧
    (mountStart s).scanPart = s.scanPart ∧ (mountStart s).curve = s.curve ∧ (mountStart s).encoder = s.encoder ∧
    (mountStart s).slips = s.slips := by
  simp only [mountStart]
  simp

@[simp] theorem mountGone_keeps (M n : Nat) (s : State) :
    (mountGone M s n).now = s.now ∧ (mountGone M s n).pending = s.pending ∧
    (mountGone M s n).settings = s.settings ∧ (mountGone M s n).clock = s.clock ∧
    (mountGone M s n).directory = s.directory ∧ (mountGone M s n).panel = s.panel ∧
    (mountGone M s n).drum = s.drum ∧ (mountGone M s n).motor = s.motor ∧ (mountGone M s n).scanPart = s.scanPart ∧
    (mountGone M s n).curve = s.curve ∧ (mountGone M s n).cal = s.cal ∧ (mountGone M s n).lamp = s.lamp ∧
    (mountGone M s n).carriage = s.carriage ∧ (mountGone M s n).encoder = s.encoder ∧
    (mountGone M s n).scan = s.scan ∧ (mountGone M s n).store = s.store ∧ (mountGone M s n).line = s.line ∧
    (mountGone M s n).run = s.run := by
  simp only [mountGone]
  (repeat' split) <;> simp

@[simp] theorem mountGone_foldl_keeps (M : Nat) (ns : List Nat) (s : State) :
    (ns.foldl (mountGone M) s).now = s.now ∧
    (ns.foldl (mountGone M) s).pending = s.pending ∧
    (ns.foldl (mountGone M) s).settings = s.settings ∧
    (ns.foldl (mountGone M) s).clock = s.clock ∧
    (ns.foldl (mountGone M) s).directory = s.directory ∧
    (ns.foldl (mountGone M) s).panel = s.panel ∧
    (ns.foldl (mountGone M) s).drum = s.drum ∧
    (ns.foldl (mountGone M) s).motor = s.motor ∧
    (ns.foldl (mountGone M) s).scanPart = s.scanPart ∧
    (ns.foldl (mountGone M) s).curve = s.curve ∧
    (ns.foldl (mountGone M) s).cal = s.cal ∧
    (ns.foldl (mountGone M) s).lamp = s.lamp ∧
    (ns.foldl (mountGone M) s).carriage = s.carriage ∧
    (ns.foldl (mountGone M) s).encoder = s.encoder ∧
    (ns.foldl (mountGone M) s).scan = s.scan ∧
    (ns.foldl (mountGone M) s).store = s.store ∧
    (ns.foldl (mountGone M) s).line = s.line ∧
    (ns.foldl (mountGone M) s).run = s.run := by
  induction ns generalizing s with
  | nil => simp
  | cons n ns ih => simp [ih]

@[simp] theorem mountEnd_keeps (s : State) :
    (mountEnd s).now = s.now ∧ (mountEnd s).pending = s.pending ∧ (mountEnd s).settings = s.settings ∧
    (mountEnd s).clock = s.clock ∧ (mountEnd s).directory = s.directory ∧ (mountEnd s).drum = s.drum ∧
    (mountEnd s).motor = s.motor ∧ (mountEnd s).scanPart = s.scanPart ∧ (mountEnd s).curve = s.curve ∧
    (mountEnd s).cal = s.cal ∧ (mountEnd s).carriage = s.carriage ∧ (mountEnd s).encoder = s.encoder ∧
    (mountEnd s).scan = s.scan ∧ (mountEnd s).store = s.store ∧ (mountEnd s).line = s.line := by
  simp only [mountEnd]
  (repeat' split) <;> simp

@[simp] theorem finishAssembly_keeps (n : Nat) (s : State) :
    (finishAssembly n s).2.now = s.now ∧ (finishAssembly n s).2.pending = s.pending ∧
    (finishAssembly n s).2.settings = s.settings ∧ (finishAssembly n s).2.clock = s.clock ∧
    (finishAssembly n s).2.directory = s.directory ∧ (finishAssembly n s).2.panel = s.panel ∧
    (finishAssembly n s).2.motor = s.motor ∧ (finishAssembly n s).2.scanPart = s.scanPart ∧
    (finishAssembly n s).2.curve = s.curve ∧ (finishAssembly n s).2.encoder = s.encoder ∧
    (finishAssembly n s).2.slips = s.slips := by
  simp only [finishAssembly]
  (repeat' split) <;> simp

@[simp] theorem serveOrderBegin_keeps (p : List Byte) (s : State) :
    (serveOrderBegin p s).2.now = s.now ∧ (serveOrderBegin p s).2.pending = s.pending ∧
    (serveOrderBegin p s).2.settings = s.settings ∧ (serveOrderBegin p s).2.clock = s.clock ∧
    (serveOrderBegin p s).2.directory = s.directory ∧ (serveOrderBegin p s).2.panel = s.panel ∧
    (serveOrderBegin p s).2.motor = s.motor ∧ (serveOrderBegin p s).2.scanPart = s.scanPart ∧
    (serveOrderBegin p s).2.curve = s.curve ∧ (serveOrderBegin p s).2.encoder = s.encoder ∧
    (serveOrderBegin p s).2.slips = s.slips := by
  simp only [serveOrderBegin]
  (repeat' split) <;> simp

@[simp] theorem serveOrderPart_keeps (p : List Byte) (s : State) :
    (serveOrderPart p s).2.now = s.now ∧ (serveOrderPart p s).2.pending = s.pending ∧
    (serveOrderPart p s).2.settings = s.settings ∧ (serveOrderPart p s).2.clock = s.clock ∧
    (serveOrderPart p s).2.directory = s.directory ∧ (serveOrderPart p s).2.panel = s.panel ∧
    (serveOrderPart p s).2.motor = s.motor ∧ (serveOrderPart p s).2.scanPart = s.scanPart ∧
    (serveOrderPart p s).2.curve = s.curve ∧ (serveOrderPart p s).2.encoder = s.encoder ∧
    (serveOrderPart p s).2.slips = s.slips := by
  simp only [serveOrderPart]
  (repeat' split) <;> simp

@[simp] theorem serveOrderCancel_keeps (p : List Byte) (s : State) :
    (serveOrderCancel p s).2.now = s.now ∧ (serveOrderCancel p s).2.pending = s.pending ∧
    (serveOrderCancel p s).2.settings = s.settings ∧ (serveOrderCancel p s).2.clock = s.clock ∧
    (serveOrderCancel p s).2.directory = s.directory ∧ (serveOrderCancel p s).2.panel = s.panel ∧
    (serveOrderCancel p s).2.motor = s.motor ∧ (serveOrderCancel p s).2.scanPart = s.scanPart ∧
    (serveOrderCancel p s).2.curve = s.curve ∧ (serveOrderCancel p s).2.cal = s.cal ∧
    (serveOrderCancel p s).2.encoder = s.encoder := by
  simp only [serveOrderCancel]
  (repeat' split) <;> simp

@[simp] theorem serveOrderInquire_keeps (p : List Byte) (s : State) :
    (serveOrderInquire p s).2.now = s.now ∧ (serveOrderInquire p s).2.pending = s.pending ∧
    (serveOrderInquire p s).2.link = s.link ∧ (serveOrderInquire p s).2.settings = s.settings ∧
    (serveOrderInquire p s).2.clock = s.clock ∧ (serveOrderInquire p s).2.directory = s.directory ∧
    (serveOrderInquire p s).2.panel = s.panel ∧ (serveOrderInquire p s).2.drum = s.drum ∧
    (serveOrderInquire p s).2.motor = s.motor ∧ (serveOrderInquire p s).2.scanPart = s.scanPart ∧
    (serveOrderInquire p s).2.curve = s.curve ∧ (serveOrderInquire p s).2.cal = s.cal ∧
    (serveOrderInquire p s).2.lamp = s.lamp ∧ (serveOrderInquire p s).2.carriage = s.carriage ∧
    (serveOrderInquire p s).2.encoder = s.encoder ∧ (serveOrderInquire p s).2.scan = s.scan ∧
    (serveOrderInquire p s).2.store = s.store ∧ (serveOrderInquire p s).2.line = s.line ∧
    (serveOrderInquire p s).2.run = s.run ∧ (serveOrderInquire p s).2.slips = s.slips := by
  simp only [serveOrderInquire]
  (repeat' split) <;> simp

@[simp] theorem serveOrderList_keeps (p : List Byte) (s : State) :
    (serveOrderList p s).2.now = s.now ∧ (serveOrderList p s).2.pending = s.pending ∧
    (serveOrderList p s).2.link = s.link ∧ (serveOrderList p s).2.settings = s.settings ∧
    (serveOrderList p s).2.clock = s.clock ∧ (serveOrderList p s).2.manager = s.manager ∧
    (serveOrderList p s).2.directory = s.directory ∧ (serveOrderList p s).2.panel = s.panel ∧
    (serveOrderList p s).2.drum = s.drum ∧ (serveOrderList p s).2.motor = s.motor ∧
    (serveOrderList p s).2.scanPart = s.scanPart ∧ (serveOrderList p s).2.curve = s.curve ∧
    (serveOrderList p s).2.cal = s.cal ∧ (serveOrderList p s).2.lamp = s.lamp ∧
    (serveOrderList p s).2.carriage = s.carriage ∧ (serveOrderList p s).2.encoder = s.encoder ∧
    (serveOrderList p s).2.scan = s.scan ∧ (serveOrderList p s).2.store = s.store ∧
    (serveOrderList p s).2.line = s.line ∧ (serveOrderList p s).2.run = s.run ∧
    (serveOrderList p s).2.slips = s.slips := by
  simp only [serveOrderList]
  simp

@[simp] theorem serveQueueControl_keeps (p : List Byte) (s : State) :
    (serveQueueControl p s).2.now = s.now ∧ (serveQueueControl p s).2.pending = s.pending ∧
    (serveQueueControl p s).2.settings = s.settings ∧ (serveQueueControl p s).2.clock = s.clock ∧
    (serveQueueControl p s).2.directory = s.directory ∧ (serveQueueControl p s).2.panel = s.panel ∧
    (serveQueueControl p s).2.motor = s.motor ∧ (serveQueueControl p s).2.scanPart = s.scanPart ∧
    (serveQueueControl p s).2.curve = s.curve ∧ (serveQueueControl p s).2.encoder = s.encoder ∧
    (serveQueueControl p s).2.slips = s.slips := by
  simp only [serveQueueControl]
  (repeat' split) <;> simp

@[simp] theorem assemblyExpired_keeps (s : State) :
    (assemblyExpired s).now = s.now ∧ (assemblyExpired s).pending = s.pending ∧
    (assemblyExpired s).settings = s.settings ∧ (assemblyExpired s).clock = s.clock ∧
    (assemblyExpired s).directory = s.directory ∧ (assemblyExpired s).panel = s.panel ∧
    (assemblyExpired s).drum = s.drum ∧ (assemblyExpired s).motor = s.motor ∧
    (assemblyExpired s).scanPart = s.scanPart ∧ (assemblyExpired s).curve = s.curve ∧
    (assemblyExpired s).cal = s.cal ∧ (assemblyExpired s).lamp = s.lamp ∧
    (assemblyExpired s).carriage = s.carriage ∧ (assemblyExpired s).encoder = s.encoder ∧
    (assemblyExpired s).scan = s.scan ∧ (assemblyExpired s).store = s.store ∧ (assemblyExpired s).line = s.line ∧
    (assemblyExpired s).run = s.run ∧ (assemblyExpired s).slips = s.slips := by
  simp only [assemblyExpired]
  (repeat' split) <;> simp

@[simp] theorem releasedReport_keeps (s : State) :
    (releasedReport s).now = s.now ∧ (releasedReport s).pending = s.pending ∧
    (releasedReport s).settings = s.settings ∧ (releasedReport s).clock = s.clock ∧
    (releasedReport s).directory = s.directory ∧ (releasedReport s).panel = s.panel ∧
    (releasedReport s).motor = s.motor ∧ (releasedReport s).scanPart = s.scanPart ∧
    (releasedReport s).curve = s.curve ∧ (releasedReport s).encoder = s.encoder := by
  simp only [releasedReport]
  (repeat' split) <;> simp

end Sys2Proof.Machine
end

