-- ==== Sys2Proof/Laws/FramesCalRequests.lean ====
section
/-! SUPPORT. What each operation of Machine/CalRequests.lean leaves as it was: one lemma for each operation. -/

namespace Sys2Proof.Machine

@[simp] theorem serveCalLoad_keeps (p : List Byte) (s : State) :
    (serveCalLoad p s).2.now = s.now ∧ (serveCalLoad p s).2.pending = s.pending ∧
    (serveCalLoad p s).2.link = s.link ∧ (serveCalLoad p s).2.settings = s.settings ∧
    (serveCalLoad p s).2.clock = s.clock ∧ (serveCalLoad p s).2.manager = s.manager ∧
    (serveCalLoad p s).2.directory = s.directory ∧ (serveCalLoad p s).2.panel = s.panel ∧
    (serveCalLoad p s).2.drum = s.drum ∧ (serveCalLoad p s).2.curve = s.curve ∧ (serveCalLoad p s).2.cal = s.cal ∧
    (serveCalLoad p s).2.lamp = s.lamp ∧ (serveCalLoad p s).2.carriage = s.carriage ∧
    (serveCalLoad p s).2.encoder = s.encoder ∧ (serveCalLoad p s).2.scan = s.scan ∧
    (serveCalLoad p s).2.store = s.store ∧ (serveCalLoad p s).2.line = s.line ∧ (serveCalLoad p s).2.run = s.run ∧
    (serveCalLoad p s).2.slips = s.slips := by
  simp only [serveCalLoad]
  (repeat' split) <;> simp [CalFields.install]

@[simp] theorem serveCurveLoad_keeps (p : List Byte) (s : State) :
    (serveCurveLoad p s).2.now = s.now ∧ (serveCurveLoad p s).2.pending = s.pending ∧
    (serveCurveLoad p s).2.link = s.link ∧ (serveCurveLoad p s).2.settings = s.settings ∧
    (serveCurveLoad p s).2.clock = s.clock ∧ (serveCurveLoad p s).2.manager = s.manager ∧
    (serveCurveLoad p s).2.directory = s.directory ∧ (serveCurveLoad p s).2.panel = s.panel ∧
    (serveCurveLoad p s).2.drum = s.drum ∧ (serveCurveLoad p s).2.motor = s.motor ∧
    (serveCurveLoad p s).2.scanPart = s.scanPart ∧ (serveCurveLoad p s).2.cal = s.cal ∧
    (serveCurveLoad p s).2.lamp = s.lamp ∧ (serveCurveLoad p s).2.carriage = s.carriage ∧
    (serveCurveLoad p s).2.encoder = s.encoder ∧ (serveCurveLoad p s).2.scan = s.scan ∧
    (serveCurveLoad p s).2.store = s.store ∧ (serveCurveLoad p s).2.line = s.line ∧
    (serveCurveLoad p s).2.run = s.run ∧ (serveCurveLoad p s).2.slips = s.slips := by
  simp only [serveCurveLoad]
  (repeat' split) <;> simp

@[simp] theorem serveCalRead_keeps (p : List Byte) (s : State) :
    (serveCalRead p s).2.now = s.now ∧ (serveCalRead p s).2.pending = s.pending ∧
    (serveCalRead p s).2.link = s.link ∧ (serveCalRead p s).2.settings = s.settings ∧
    (serveCalRead p s).2.clock = s.clock ∧ (serveCalRead p s).2.manager = s.manager ∧
    (serveCalRead p s).2.directory = s.directory ∧ (serveCalRead p s).2.panel = s.panel ∧
    (serveCalRead p s).2.drum = s.drum ∧ (serveCalRead p s).2.motor = s.motor ∧
    (serveCalRead p s).2.scanPart = s.scanPart ∧ (serveCalRead p s).2.curve = s.curve ∧
    (serveCalRead p s).2.cal = s.cal ∧ (serveCalRead p s).2.lamp = s.lamp ∧
    (serveCalRead p s).2.carriage = s.carriage ∧ (serveCalRead p s).2.encoder = s.encoder ∧
    (serveCalRead p s).2.scan = s.scan ∧ (serveCalRead p s).2.store = s.store ∧
    (serveCalRead p s).2.line = s.line ∧ (serveCalRead p s).2.run = s.run ∧ (serveCalRead p s).2.slips = s.slips := by
  simp only [serveCalRead]
  (repeat' split) <;> simp

@[simp] theorem calTakeDrum_keeps (b : Bool) (s : State) :
    (calTakeDrum b s).now = s.now ∧ (calTakeDrum b s).pending = s.pending ∧
    (calTakeDrum b s).settings = s.settings ∧ (calTakeDrum b s).clock = s.clock ∧
    (calTakeDrum b s).directory = s.directory ∧ (calTakeDrum b s).panel = s.panel ∧
    (calTakeDrum b s).motor = s.motor ∧ (calTakeDrum b s).scanPart = s.scanPart ∧
    (calTakeDrum b s).curve = s.curve ∧ (calTakeDrum b s).encoder = s.encoder ∧ (calTakeDrum b s).scan = s.scan ∧
    (calTakeDrum b s).store = s.store ∧ (calTakeDrum b s).slips = s.slips := by
  simp only [calTakeDrum]
  (repeat' split) <;> simp

@[simp] theorem beginMotor_keeps (s : State) :
    (beginMotor s).now = s.now ∧ (beginMotor s).pending = s.pending ∧ (beginMotor s).settings = s.settings ∧
    (beginMotor s).clock = s.clock ∧ (beginMotor s).directory = s.directory ∧ (beginMotor s).panel = s.panel ∧
    (beginMotor s).motor = s.motor ∧ (beginMotor s).scanPart = s.scanPart ∧ (beginMotor s).curve = s.curve ∧
    (beginMotor s).encoder = s.encoder ∧ (beginMotor s).scan = s.scan ∧ (beginMotor s).store = s.store ∧
    (beginMotor s).slips = s.slips := by
  simp only [beginMotor]
  simp

@[simp] theorem beginDark_keeps (s : State) :
    (beginDark s).now = s.now ∧ (beginDark s).pending = s.pending ∧ (beginDark s).settings = s.settings ∧
    (beginDark s).clock = s.clock ∧ (beginDark s).directory = s.directory ∧ (beginDark s).panel = s.panel ∧
    (beginDark s).motor = s.motor ∧ (beginDark s).scanPart = s.scanPart ∧ (beginDark s).curve = s.curve ∧
    (beginDark s).encoder = s.encoder ∧ (beginDark s).scan = s.scan ∧ (beginDark s).store = s.store ∧
    (beginDark s).slips = s.slips := by
  simp only [beginDark]
  simp

@[simp] theorem beginWhite_keeps (s : State) :
    (beginWhite s).now = s.now ∧ (beginWhite s).pending = s.pending ∧ (beginWhite s).settings = s.settings ∧
    (beginWhite s).clock = s.clock ∧ (beginWhite s).directory = s.directory ∧ (beginWhite s).panel = s.panel ∧
    (beginWhite s).motor = s.motor ∧ (beginWhite s).scanPart = s.scanPart ∧ (beginWhite s).curve = s.curve ∧
    (beginWhite s).encoder = s.encoder ∧ (beginWhite s).scan = s.scan ∧ (beginWhite s).store = s.store ∧
    (beginWhite s).slips = s.slips := by
  simp only [beginWhite]
  simp

@[simp] theorem beginSteps_keeps (n : Nat) (l : List TabletStep) (s : State) :
    (beginSteps n l s).now = s.now ∧ (beginSteps n l s).pending = s.pending ∧
    (beginSteps n l s).settings = s.settings ∧ (beginSteps n l s).clock = s.clock ∧
    (beginSteps n l s).directory = s.directory ∧ (beginSteps n l s).panel = s.panel ∧
    (beginSteps n l s).motor = s.motor ∧ (beginSteps n l s).scanPart = s.scanPart ∧
    (beginSteps n l s).curve = s.curve ∧ (beginSteps n l s).encoder = s.encoder ∧
    (beginSteps n l s).scan = s.scan ∧ (beginSteps n l s).store = s.store ∧ (beginSteps n l s).slips = s.slips := by
  simp only [beginSteps]
  split <;> simp

@[simp] theorem serveCalRun_keeps (p : List Byte) (s : State) :
    (serveCalRun p s).2.now = s.now ∧ (serveCalRun p s).2.pending = s.pending ∧
    (serveCalRun p s).2.settings = s.settings ∧ (serveCalRun p s).2.clock = s.clock ∧
    (serveCalRun p s).2.directory = s.directory ∧ (serveCalRun p s).2.panel = s.panel ∧
    (serveCalRun p s).2.motor = s.motor ∧ (serveCalRun p s).2.scanPart = s.scanPart ∧
    (serveCalRun p s).2.curve = s.curve ∧ (serveCalRun p s).2.encoder = s.encoder ∧
    (serveCalRun p s).2.slips = s.slips := by
  simp only [serveCalRun, serveCalKind]
  (repeat' split) <;> simp

@[simp] theorem serveDrumSpin_keeps (p : List Byte) (s : State) :
    (serveDrumSpin p s).2.now = s.now ∧ (serveDrumSpin p s).2.pending = s.pending ∧
    (serveDrumSpin p s).2.settings = s.settings ∧ (serveDrumSpin p s).2.clock = s.clock ∧
    (serveDrumSpin p s).2.directory = s.directory ∧ (serveDrumSpin p s).2.panel = s.panel ∧
    (serveDrumSpin p s).2.motor = s.motor ∧ (serveDrumSpin p s).2.scanPart = s.scanPart ∧
    (serveDrumSpin p s).2.curve = s.curve ∧ (serveDrumSpin p s).2.encoder = s.encoder ∧
    (serveDrumSpin p s).2.scan = s.scan ∧ (serveDrumSpin p s).2.store = s.store ∧
    (serveDrumSpin p s).2.slips = s.slips := by
  simp only [serveDrumSpin]
  (repeat' split) <;> simp

end Sys2Proof.Machine
end

