-- ==== Sys2Proof/Laws/FramesDirectory.lean ====
section
/-! SUPPORT. What each operation of Machine/Directory.lean leaves as it was: one lemma for each operation. -/

namespace Sys2Proof.Machine

@[simp] theorem serveStationLoad_keeps (p : List Byte) (s : State) :
    (serveStationLoad p s).2.now = s.now ∧ (serveStationLoad p s).2.pending = s.pending ∧
    (serveStationLoad p s).2.link = s.link ∧ (serveStationLoad p s).2.settings = s.settings ∧
    (serveStationLoad p s).2.clock = s.clock ∧ (serveStationLoad p s).2.manager = s.manager ∧
    (serveStationLoad p s).2.panel = s.panel ∧ (serveStationLoad p s).2.drum = s.drum ∧
    (serveStationLoad p s).2.motor = s.motor ∧ (serveStationLoad p s).2.scanPart = s.scanPart ∧
    (serveStationLoad p s).2.curve = s.curve ∧ (serveStationLoad p s).2.cal = s.cal ∧
    (serveStationLoad p s).2.lamp = s.lamp ∧ (serveStationLoad p s).2.carriage = s.carriage ∧
    (serveStationLoad p s).2.encoder = s.encoder ∧ (serveStationLoad p s).2.scan = s.scan ∧
    (serveStationLoad p s).2.store = s.store ∧ (serveStationLoad p s).2.line = s.line ∧
    (serveStationLoad p s).2.run = s.run ∧ (serveStationLoad p s).2.slips = s.slips := by
  simp only [serveStationLoad]
  (repeat' split) <;> simp

@[simp] theorem serveStationRead_keeps (p : List Byte) (s : State) :
    (serveStationRead p s).2.now = s.now ∧ (serveStationRead p s).2.pending = s.pending ∧
    (serveStationRead p s).2.link = s.link ∧ (serveStationRead p s).2.settings = s.settings ∧
    (serveStationRead p s).2.clock = s.clock ∧ (serveStationRead p s).2.manager = s.manager ∧
    (serveStationRead p s).2.directory = s.directory ∧ (serveStationRead p s).2.panel = s.panel ∧
    (serveStationRead p s).2.drum = s.drum ∧ (serveStationRead p s).2.motor = s.motor ∧
    (serveStationRead p s).2.scanPart = s.scanPart ∧ (serveStationRead p s).2.curve = s.curve ∧
    (serveStationRead p s).2.cal = s.cal ∧ (serveStationRead p s).2.lamp = s.lamp ∧
    (serveStationRead p s).2.carriage = s.carriage ∧ (serveStationRead p s).2.encoder = s.encoder ∧
    (serveStationRead p s).2.scan = s.scan ∧ (serveStationRead p s).2.store = s.store ∧
    (serveStationRead p s).2.line = s.line ∧ (serveStationRead p s).2.run = s.run ∧
    (serveStationRead p s).2.slips = s.slips := by
  simp only [serveStationRead]
  (repeat' split) <;> simp

end Sys2Proof.Machine
end

