-- ==== Sys2Proof/Laws/FramesSlipUnit.lean ====
section
/-! SUPPORT. What each operation of Machine/SlipUnit.lean leaves as it was: one lemma for each operation. -/

namespace Sys2Proof.Machine

@[simp] theorem slipEvent_keeps (c : SlipCause) (n : Nat) (b : Bool) (s : State) :
    (slipEvent c n b s).now = s.now ∧ (slipEvent c n b s).pending = s.pending ∧
    (slipEvent c n b s).settings = s.settings ∧ (slipEvent c n b s).clock = s.clock ∧
    (slipEvent c n b s).manager = s.manager ∧ (slipEvent c n b s).directory = s.directory ∧
    (slipEvent c n b s).panel = s.panel ∧ (slipEvent c n b s).drum = s.drum ∧ (slipEvent c n b s).motor = s.motor ∧
    (slipEvent c n b s).scanPart = s.scanPart ∧ (slipEvent c n b s).curve = s.curve ∧
    (slipEvent c n b s).cal = s.cal ∧ (slipEvent c n b s).lamp = s.lamp ∧
    (slipEvent c n b s).carriage = s.carriage ∧ (slipEvent c n b s).encoder = s.encoder ∧
    (slipEvent c n b s).scan = s.scan ∧ (slipEvent c n b s).store = s.store ∧ (slipEvent c n b s).line = s.line ∧
    (slipEvent c n b s).run = s.run ∧ (slipEvent c n b s).slips = s.slips := by
  simp only [slipEvent]
  simp

@[simp] theorem paperEvent_keeps (c : SlipCause) (s : State) :
    (paperEvent c s).now = s.now ∧ (paperEvent c s).pending = s.pending ∧ (paperEvent c s).settings = s.settings ∧
    (paperEvent c s).clock = s.clock ∧ (paperEvent c s).manager = s.manager ∧
    (paperEvent c s).directory = s.directory ∧ (paperEvent c s).panel = s.panel ∧ (paperEvent c s).drum = s.drum ∧
    (paperEvent c s).motor = s.motor ∧ (paperEvent c s).scanPart = s.scanPart ∧ (paperEvent c s).curve = s.curve ∧
    (paperEvent c s).cal = s.cal ∧ (paperEvent c s).lamp = s.lamp ∧ (paperEvent c s).carriage = s.carriage ∧
    (paperEvent c s).encoder = s.encoder ∧ (paperEvent c s).scan = s.scan ∧ (paperEvent c s).store = s.store ∧
    (paperEvent c s).line = s.line ∧ (paperEvent c s).run = s.run ∧ (paperEvent c s).slips = s.slips := by
  simp only [paperEvent]
  (repeat' split) <;> simp

@[simp] theorem printerFree_keeps (s : State) :
    (printerFree s).now = s.now ∧ (printerFree s).pending = s.pending ∧ (printerFree s).link = s.link ∧
    (printerFree s).settings = s.settings ∧ (printerFree s).clock = s.clock ∧ (printerFree s).manager = s.manager ∧
    (printerFree s).directory = s.directory ∧ (printerFree s).panel = s.panel ∧ (printerFree s).drum = s.drum ∧
    (printerFree s).motor = s.motor ∧ (printerFree s).scanPart = s.scanPart ∧ (printerFree s).curve = s.curve ∧
    (printerFree s).cal = s.cal ∧ (printerFree s).lamp = s.lamp ∧ (printerFree s).carriage = s.carriage ∧
    (printerFree s).encoder = s.encoder ∧ (printerFree s).scan = s.scan ∧ (printerFree s).store = s.store ∧
    (printerFree s).line = s.line ∧ (printerFree s).run = s.run := by
  simp only [printerFree]
  simp

@[simp] theorem printedEvent_keeps (sl : Slip) (s : State) :
    (printedEvent sl s).now = s.now ∧ (printedEvent sl s).pending = s.pending ∧
    (printedEvent sl s).settings = s.settings ∧ (printedEvent sl s).clock = s.clock ∧
    (printedEvent sl s).manager = s.manager ∧ (printedEvent sl s).directory = s.directory ∧
    (printedEvent sl s).panel = s.panel ∧ (printedEvent sl s).drum = s.drum ∧ (printedEvent sl s).motor = s.motor ∧
    (printedEvent sl s).scanPart = s.scanPart ∧ (printedEvent sl s).curve = s.curve ∧
    (printedEvent sl s).cal = s.cal ∧ (printedEvent sl s).lamp = s.lamp ∧ (printedEvent sl s).carriage = s.carriage ∧
    (printedEvent sl s).encoder = s.encoder ∧ (printedEvent sl s).scan = s.scan ∧
    (printedEvent sl s).store = s.store ∧ (printedEvent sl s).line = s.line ∧ (printedEvent sl s).run = s.run ∧
    (printedEvent sl s).slips = s.slips := by
  simp only [printedEvent]
  simp

@[simp] theorem slipPrinted_keeps (sl : Slip) (s : State) :
    (slipPrinted sl s).now = s.now ∧ (slipPrinted sl s).pending = s.pending ∧
    (slipPrinted sl s).settings = s.settings ∧ (slipPrinted sl s).clock = s.clock ∧
    (slipPrinted sl s).directory = s.directory ∧ (slipPrinted sl s).panel = s.panel ∧
    (slipPrinted sl s).drum = s.drum ∧ (slipPrinted sl s).motor = s.motor ∧
    (slipPrinted sl s).scanPart = s.scanPart ∧ (slipPrinted sl s).curve = s.curve ∧
    (slipPrinted sl s).cal = s.cal ∧ (slipPrinted sl s).lamp = s.lamp ∧ (slipPrinted sl s).carriage = s.carriage ∧
    (slipPrinted sl s).encoder = s.encoder ∧ (slipPrinted sl s).scan = s.scan ∧
    (slipPrinted sl s).store = s.store ∧ (slipPrinted sl s).line = s.line ∧ (slipPrinted sl s).run = s.run := by
  simp only [slipPrinted]
  simp

@[simp] theorem printedRow_keeps (b : Bool) (n : Nat) (sl : Slip) (s : State) :
    (printedRow b n sl s).now = s.now ∧ (printedRow b n sl s).pending = s.pending ∧
    (printedRow b n sl s).settings = s.settings ∧ (printedRow b n sl s).clock = s.clock ∧
    (printedRow b n sl s).directory = s.directory ∧ (printedRow b n sl s).panel = s.panel ∧
    (printedRow b n sl s).drum = s.drum ∧ (printedRow b n sl s).motor = s.motor ∧
    (printedRow b n sl s).scanPart = s.scanPart ∧ (printedRow b n sl s).curve = s.curve ∧
    (printedRow b n sl s).cal = s.cal ∧ (printedRow b n sl s).lamp = s.lamp ∧
    (printedRow b n sl s).carriage = s.carriage ∧ (printedRow b n sl s).encoder = s.encoder ∧
    (printedRow b n sl s).scan = s.scan ∧ (printedRow b n sl s).store = s.store ∧
    (printedRow b n sl s).line = s.line ∧ (printedRow b n sl s).run = s.run := by
  simp only [printedRow]
  (repeat' split) <;> simp

@[simp] theorem fedRow_keeps (p : FeedPurpose) (n : Nat) (s : State) :
    (fedRow p n s).now = s.now ∧ (fedRow p n s).pending = s.pending ∧ (fedRow p n s).link = s.link ∧
    (fedRow p n s).settings = s.settings ∧ (fedRow p n s).clock = s.clock ∧ (fedRow p n s).manager = s.manager ∧
    (fedRow p n s).directory = s.directory ∧ (fedRow p n s).panel = s.panel ∧ (fedRow p n s).drum = s.drum ∧
    (fedRow p n s).motor = s.motor ∧ (fedRow p n s).scanPart = s.scanPart ∧ (fedRow p n s).curve = s.curve ∧
    (fedRow p n s).cal = s.cal ∧ (fedRow p n s).lamp = s.lamp ∧ (fedRow p n s).carriage = s.carriage ∧
    (fedRow p n s).encoder = s.encoder ∧ (fedRow p n s).scan = s.scan ∧ (fedRow p n s).store = s.store ∧
    (fedRow p n s).line = s.line ∧ (fedRow p n s).run = s.run := by
  simp only [fedRow]
  (repeat' split) <;> simp

@[simp] theorem rowStep_keeps (s : State) :
    (rowStep s).now = s.now ∧ (rowStep s).pending = s.pending ∧ (rowStep s).settings = s.settings ∧
    (rowStep s).clock = s.clock ∧ (rowStep s).directory = s.directory ∧ (rowStep s).panel = s.panel ∧
    (rowStep s).drum = s.drum ∧ (rowStep s).motor = s.motor ∧ (rowStep s).scanPart = s.scanPart ∧
    (rowStep s).curve = s.curve ∧ (rowStep s).cal = s.cal ∧ (rowStep s).lamp = s.lamp ∧
    (rowStep s).carriage = s.carriage ∧ (rowStep s).encoder = s.encoder ∧ (rowStep s).scan = s.scan ∧
    (rowStep s).store = s.store ∧ (rowStep s).line = s.line ∧ (rowStep s).run = s.run := by
  simp only [rowStep]
  (repeat' split) <;> simp

@[simp] theorem paperReturns_keeps (s : State) :
    (paperReturns s).now = s.now ∧ (paperReturns s).pending = s.pending ∧ (paperReturns s).link = s.link ∧
    (paperReturns s).settings = s.settings ∧ (paperReturns s).clock = s.clock ∧
    (paperReturns s).manager = s.manager ∧ (paperReturns s).directory = s.directory ∧
    (paperReturns s).panel = s.panel ∧ (paperReturns s).drum = s.drum ∧ (paperReturns s).motor = s.motor ∧
    (paperReturns s).scanPart = s.scanPart ∧ (paperReturns s).curve = s.curve ∧ (paperReturns s).cal = s.cal ∧
    (paperReturns s).lamp = s.lamp ∧ (paperReturns s).carriage = s.carriage ∧
    (paperReturns s).encoder = s.encoder ∧ (paperReturns s).scan = s.scan ∧ (paperReturns s).store = s.store ∧
    (paperReturns s).line = s.line ∧ (paperReturns s).run = s.run := by
  simp only [paperReturns]
  (repeat' split) <;> simp

@[simp] theorem serveSlipMode_keeps (n : Nat) (s : State) :
    (serveSlipMode n s).2.now = s.now ∧ (serveSlipMode n s).2.pending = s.pending ∧
    (serveSlipMode n s).2.clock = s.clock ∧ (serveSlipMode n s).2.directory = s.directory ∧
    (serveSlipMode n s).2.panel = s.panel ∧ (serveSlipMode n s).2.drum = s.drum ∧
    (serveSlipMode n s).2.motor = s.motor ∧ (serveSlipMode n s).2.scanPart = s.scanPart ∧
    (serveSlipMode n s).2.curve = s.curve ∧ (serveSlipMode n s).2.cal = s.cal ∧
    (serveSlipMode n s).2.lamp = s.lamp ∧ (serveSlipMode n s).2.carriage = s.carriage ∧
    (serveSlipMode n s).2.encoder = s.encoder ∧ (serveSlipMode n s).2.scan = s.scan ∧
    (serveSlipMode n s).2.store = s.store ∧ (serveSlipMode n s).2.line = s.line ∧ (serveSlipMode n s).2.run = s.run := by
  simp only [serveSlipMode]
  (repeat' split) <;> simp

@[simp] theorem serveSlipFeed_keeps (n : Nat) (s : State) :
    (serveSlipFeed n s).2.now = s.now ∧ (serveSlipFeed n s).2.pending = s.pending ∧
    (serveSlipFeed n s).2.link = s.link ∧ (serveSlipFeed n s).2.settings = s.settings ∧
    (serveSlipFeed n s).2.clock = s.clock ∧ (serveSlipFeed n s).2.manager = s.manager ∧
    (serveSlipFeed n s).2.directory = s.directory ∧ (serveSlipFeed n s).2.panel = s.panel ∧
    (serveSlipFeed n s).2.drum = s.drum ∧ (serveSlipFeed n s).2.motor = s.motor ∧
    (serveSlipFeed n s).2.scanPart = s.scanPart ∧ (serveSlipFeed n s).2.curve = s.curve ∧
    (serveSlipFeed n s).2.cal = s.cal ∧ (serveSlipFeed n s).2.lamp = s.lamp ∧
    (serveSlipFeed n s).2.carriage = s.carriage ∧ (serveSlipFeed n s).2.encoder = s.encoder ∧
    (serveSlipFeed n s).2.scan = s.scan ∧ (serveSlipFeed n s).2.store = s.store ∧
    (serveSlipFeed n s).2.line = s.line ∧ (serveSlipFeed n s).2.run = s.run := by
  simp only [serveSlipFeed]
  (repeat' split) <;> simp

@[simp] theorem serveSlipReprint_keeps (s : State) :
    (serveSlipReprint s).2.now = s.now ∧ (serveSlipReprint s).2.pending = s.pending ∧
    (serveSlipReprint s).2.link = s.link ∧ (serveSlipReprint s).2.settings = s.settings ∧
    (serveSlipReprint s).2.clock = s.clock ∧ (serveSlipReprint s).2.manager = s.manager ∧
    (serveSlipReprint s).2.directory = s.directory ∧ (serveSlipReprint s).2.panel = s.panel ∧
    (serveSlipReprint s).2.drum = s.drum ∧ (serveSlipReprint s).2.motor = s.motor ∧
    (serveSlipReprint s).2.scanPart = s.scanPart ∧ (serveSlipReprint s).2.curve = s.curve ∧
    (serveSlipReprint s).2.cal = s.cal ∧ (serveSlipReprint s).2.lamp = s.lamp ∧
    (serveSlipReprint s).2.carriage = s.carriage ∧ (serveSlipReprint s).2.encoder = s.encoder ∧
    (serveSlipReprint s).2.scan = s.scan ∧ (serveSlipReprint s).2.store = s.store ∧
    (serveSlipReprint s).2.line = s.line ∧ (serveSlipReprint s).2.run = s.run := by
  simp only [serveSlipReprint]
  (repeat' split) <;> simp

@[simp] theorem serveSlipControl_keeps (p : List Byte) (s : State) :
    (serveSlipControl p s).2.now = s.now ∧ (serveSlipControl p s).2.pending = s.pending ∧
    (serveSlipControl p s).2.clock = s.clock ∧ (serveSlipControl p s).2.directory = s.directory ∧
    (serveSlipControl p s).2.panel = s.panel ∧ (serveSlipControl p s).2.drum = s.drum ∧
    (serveSlipControl p s).2.motor = s.motor ∧ (serveSlipControl p s).2.scanPart = s.scanPart ∧
    (serveSlipControl p s).2.curve = s.curve ∧ (serveSlipControl p s).2.cal = s.cal ∧
    (serveSlipControl p s).2.lamp = s.lamp ∧ (serveSlipControl p s).2.carriage = s.carriage ∧
    (serveSlipControl p s).2.encoder = s.encoder ∧ (serveSlipControl p s).2.scan = s.scan ∧
    (serveSlipControl p s).2.store = s.store ∧ (serveSlipControl p s).2.line = s.line ∧
    (serveSlipControl p s).2.run = s.run := by
  simp only [serveSlipControl]
  (repeat' split) <;> simp

end Sys2Proof.Machine
end

