-- ==== Sys2Proof/Laws/FramesLink.lean ====
section
/-! SUPPORT. What each operation of Machine/Link.lean leaves as it was: one lemma for each operation. -/

namespace Sys2Proof.Machine

@[simp] theorem carryOutRestart_keeps (b : Bool) (s : State) :
    (carryOutRestart b s).now = s.now ∧ (carryOutRestart b s).pending = s.pending ∧
    (carryOutRestart b s).settings = s.settings ∧ (carryOutRestart b s).clock = s.clock ∧
    (carryOutRestart b s).directory = s.directory ∧ (carryOutRestart b s).panel = s.panel ∧
    (carryOutRestart b s).motor = s.motor ∧ (carryOutRestart b s).scanPart = s.scanPart ∧
    (carryOutRestart b s).curve = s.curve ∧ (carryOutRestart b s).encoder = s.encoder := by
  simp only [carryOutRestart]
  simp

@[simp] theorem serveStatus_keeps (p : List Byte) (s : State) :
    (serveStatus p s).2.now = s.now ∧ (serveStatus p s).2.pending = s.pending ∧
    (serveStatus p s).2.settings = s.settings ∧ (serveStatus p s).2.clock = s.clock ∧
    (serveStatus p s).2.manager = s.manager ∧ (serveStatus p s).2.directory = s.directory ∧
    (serveStatus p s).2.panel = s.panel ∧ (serveStatus p s).2.drum = s.drum ∧ (serveStatus p s).2.motor = s.motor ∧
    (serveStatus p s).2.scanPart = s.scanPart ∧ (serveStatus p s).2.curve = s.curve ∧
    (serveStatus p s).2.cal = s.cal ∧ (serveStatus p s).2.lamp = s.lamp ∧
    (serveStatus p s).2.carriage = s.carriage ∧ (serveStatus p s).2.encoder = s.encoder ∧
    (serveStatus p s).2.scan = s.scan ∧ (serveStatus p s).2.store = s.store ∧ (serveStatus p s).2.line = s.line ∧
    (serveStatus p s).2.run = s.run ∧ (serveStatus p s).2.slips = s.slips := by
  simp only [serveStatus]
  simp

@[simp] theorem serveSettingsSet_keeps (p : List Byte) (s : State) :
    (serveSettingsSet p s).2.now = s.now ∧ (serveSettingsSet p s).2.pending = s.pending ∧
    (serveSettingsSet p s).2.clock = s.clock ∧ (serveSettingsSet p s).2.directory = s.directory ∧
    (serveSettingsSet p s).2.panel = s.panel ∧ (serveSettingsSet p s).2.drum = s.drum ∧
    (serveSettingsSet p s).2.motor = s.motor ∧ (serveSettingsSet p s).2.scanPart = s.scanPart ∧
    (serveSettingsSet p s).2.curve = s.curve ∧ (serveSettingsSet p s).2.cal = s.cal ∧
    (serveSettingsSet p s).2.lamp = s.lamp ∧ (serveSettingsSet p s).2.carriage = s.carriage ∧
    (serveSettingsSet p s).2.encoder = s.encoder ∧ (serveSettingsSet p s).2.scan = s.scan ∧
    (serveSettingsSet p s).2.store = s.store ∧ (serveSettingsSet p s).2.line = s.line ∧
    (serveSettingsSet p s).2.run = s.run := by
  simp only [serveSettingsSet]
  (repeat' split) <;> simp

@[simp] theorem serveSettingsGet_keeps (p : List Byte) (s : State) :
    (serveSettingsGet p s).2.now = s.now ∧ (serveSettingsGet p s).2.pending = s.pending ∧
    (serveSettingsGet p s).2.link = s.link ∧ (serveSettingsGet p s).2.settings = s.settings ∧
    (serveSettingsGet p s).2.clock = s.clock ∧ (serveSettingsGet p s).2.manager = s.manager ∧
    (serveSettingsGet p s).2.directory = s.directory ∧ (serveSettingsGet p s).2.panel = s.panel ∧
    (serveSettingsGet p s).2.drum = s.drum ∧ (serveSettingsGet p s).2.motor = s.motor ∧
    (serveSettingsGet p s).2.scanPart = s.scanPart ∧ (serveSettingsGet p s).2.curve = s.curve ∧
    (serveSettingsGet p s).2.cal = s.cal ∧ (serveSettingsGet p s).2.lamp = s.lamp ∧
    (serveSettingsGet p s).2.carriage = s.carriage ∧ (serveSettingsGet p s).2.encoder = s.encoder ∧
    (serveSettingsGet p s).2.scan = s.scan ∧ (serveSettingsGet p s).2.store = s.store ∧
    (serveSettingsGet p s).2.line = s.line ∧ (serveSettingsGet p s).2.run = s.run ∧
    (serveSettingsGet p s).2.slips = s.slips := by
  simp only [serveSettingsGet]
  simp

@[simp] theorem serveClockSet_keeps (p : List Byte) (s : State) :
    (serveClockSet p s).2.now = s.now ∧ (serveClockSet p s).2.pending = s.pending ∧
    (serveClockSet p s).2.link = s.link ∧ (serveClockSet p s).2.settings = s.settings ∧
    (serveClockSet p s).2.manager = s.manager ∧ (serveClockSet p s).2.directory = s.directory ∧
    (serveClockSet p s).2.panel = s.panel ∧ (serveClockSet p s).2.drum = s.drum ∧
    (serveClockSet p s).2.motor = s.motor ∧ (serveClockSet p s).2.scanPart = s.scanPart ∧
    (serveClockSet p s).2.curve = s.curve ∧ (serveClockSet p s).2.cal = s.cal ∧
    (serveClockSet p s).2.lamp = s.lamp ∧ (serveClockSet p s).2.carriage = s.carriage ∧
    (serveClockSet p s).2.encoder = s.encoder ∧ (serveClockSet p s).2.scan = s.scan ∧
    (serveClockSet p s).2.store = s.store ∧ (serveClockSet p s).2.line = s.line ∧
    (serveClockSet p s).2.run = s.run ∧ (serveClockSet p s).2.slips = s.slips := by
  simp only [serveClockSet]
  (repeat' split) <;> simp

@[simp] theorem serveRestart_keeps (p : List Byte) (s : State) :
    (serveRestart p s).2.now = s.now ∧ (serveRestart p s).2.pending = s.pending ∧
    (serveRestart p s).2.settings = s.settings ∧ (serveRestart p s).2.clock = s.clock ∧
    (serveRestart p s).2.directory = s.directory ∧ (serveRestart p s).2.panel = s.panel ∧
    (serveRestart p s).2.motor = s.motor ∧ (serveRestart p s).2.scanPart = s.scanPart ∧
    (serveRestart p s).2.curve = s.curve ∧ (serveRestart p s).2.encoder = s.encoder := by
  simp only [serveRestart]
  (repeat' split) <;> simp

@[simp] theorem serveKind_keeps (k : Nat) (p : List Byte) (s : State) :
    (serveKind k p s).2.now = s.now ∧ (serveKind k p s).2.pending = s.pending ∧
    (serveKind k p s).2.panel = s.panel ∧ (serveKind k p s).2.encoder = s.encoder := by
  simp only [serveKind, answered]
  split <;> simp

@[simp] theorem answer_keeps (r : Request) (s : State) :
    (answer r s).2.now = s.now ∧ (answer r s).2.pending = s.pending ∧ (answer r s).2.panel = s.panel ∧
    (answer r s).2.encoder = s.encoder := by
  simp only [answer]
  (repeat' split) <;> simp

@[simp] theorem placeReply_keeps (r : Request) (a : Reply) (s : State) :
    (placeReply r a s).now = s.now ∧ (placeReply r a s).pending = s.pending ∧
    (placeReply r a s).settings = s.settings ∧ (placeReply r a s).clock = s.clock ∧
    (placeReply r a s).manager = s.manager ∧ (placeReply r a s).directory = s.directory ∧
    (placeReply r a s).panel = s.panel ∧ (placeReply r a s).drum = s.drum ∧ (placeReply r a s).motor = s.motor ∧
    (placeReply r a s).scanPart = s.scanPart ∧ (placeReply r a s).curve = s.curve ∧
    (placeReply r a s).cal = s.cal ∧ (placeReply r a s).lamp = s.lamp ∧ (placeReply r a s).carriage = s.carriage ∧
    (placeReply r a s).encoder = s.encoder ∧ (placeReply r a s).scan = s.scan ∧
    (placeReply r a s).store = s.store ∧ (placeReply r a s).line = s.line ∧ (placeReply r a s).run = s.run ∧
    (placeReply r a s).slips = s.slips := by
  simp only [placeReply]
  simp

@[simp] theorem serveFront_keeps (s : State) :
    (serveFront s).now = s.now ∧ (serveFront s).pending = s.pending ∧ (serveFront s).panel = s.panel ∧
    (serveFront s).encoder = s.encoder := by
  unfold serveFront
  split
  · simp
  · rename_i r _ _
    split
    · simp
    · have k := answer_keeps r s
      split <;> rename_i h <;> rw [h] at k <;> simpa using k

@[simp] theorem offerFrame_keeps (r : Request) (s : State) :
    (offerFrame r s).now = s.now ∧ (offerFrame r s).pending = s.pending ∧ (offerFrame r s).panel = s.panel ∧
    (offerFrame r s).encoder = s.encoder := by
  simp only [offerFrame]
  (repeat' split) <;> simp

@[simp] theorem arrive_keeps (k t : Byte) (p : List Byte) (s : State) :
    (arrive k t p s).now = s.now ∧ (arrive k t p s).pending = s.pending ∧ (arrive k t p s).panel = s.panel ∧
    (arrive k t p s).encoder = s.encoder := by
  simp only [arrive]
  (repeat' split) <;> simp

@[simp] theorem frameDone_keeps (s : State) :
    (frameDone s).now = s.now ∧ (frameDone s).pending = s.pending ∧ (frameDone s).panel = s.panel ∧
    (frameDone s).encoder = s.encoder := by
  simp only [frameDone]
  (repeat' split) <;> simp

@[simp] theorem receiveByte_keeps (b : Byte) (s : State) :
    (receiveByte b s).now = s.now ∧ (receiveByte b s).pending = s.pending ∧ (receiveByte b s).panel = s.panel ∧
    (receiveByte b s).encoder = s.encoder := by
  simp only [receiveByte]
  (repeat' split) <;> simp

@[simp] theorem gapExpired_keeps (s : State) :
    (gapExpired s).now = s.now ∧ (gapExpired s).pending = s.pending ∧ (gapExpired s).settings = s.settings ∧
    (gapExpired s).clock = s.clock ∧ (gapExpired s).manager = s.manager ∧ (gapExpired s).directory = s.directory ∧
    (gapExpired s).panel = s.panel ∧ (gapExpired s).drum = s.drum ∧ (gapExpired s).motor = s.motor ∧
    (gapExpired s).scanPart = s.scanPart ∧ (gapExpired s).curve = s.curve ∧ (gapExpired s).cal = s.cal ∧
    (gapExpired s).lamp = s.lamp ∧ (gapExpired s).carriage = s.carriage ∧ (gapExpired s).encoder = s.encoder ∧
    (gapExpired s).scan = s.scan ∧ (gapExpired s).store = s.store ∧ (gapExpired s).line = s.line ∧
    (gapExpired s).run = s.run ∧ (gapExpired s).slips = s.slips := by
  simp only [gapExpired]
  simp

@[simp] theorem finishRestart_keeps (s : State) :
    (finishRestart s).now = s.now ∧ (finishRestart s).pending = s.pending ∧
    (finishRestart s).settings = s.settings ∧ (finishRestart s).clock = s.clock ∧
    (finishRestart s).manager = s.manager ∧ (finishRestart s).directory = s.directory ∧
    (finishRestart s).panel = s.panel ∧ (finishRestart s).drum = s.drum ∧ (finishRestart s).motor = s.motor ∧
    (finishRestart s).scanPart = s.scanPart ∧ (finishRestart s).curve = s.curve ∧ (finishRestart s).cal = s.cal ∧
    (finishRestart s).lamp = s.lamp ∧ (finishRestart s).carriage = s.carriage ∧
    (finishRestart s).encoder = s.encoder ∧ (finishRestart s).scan = s.scan ∧ (finishRestart s).store = s.store ∧
    (finishRestart s).line = s.line ∧ (finishRestart s).run = s.run ∧ (finishRestart s).slips = s.slips := by
  simp only [finishRestart]
  (repeat' split) <;> simp

@[simp] theorem releaseCleared_keeps (s : State) :
    (releaseCleared s).now = s.now ∧ (releaseCleared s).pending = s.pending ∧
    (releaseCleared s).settings = s.settings ∧ (releaseCleared s).clock = s.clock ∧
    (releaseCleared s).directory = s.directory ∧ (releaseCleared s).panel = s.panel ∧
    (releaseCleared s).motor = s.motor ∧ (releaseCleared s).scanPart = s.scanPart ∧
    (releaseCleared s).curve = s.curve ∧ (releaseCleared s).encoder = s.encoder := by
  simp only [releaseCleared]
  (repeat' split) <;> simp

end Sys2Proof.Machine
end

