-- ==== Sys2Proof/Laws/FramesScan.lean ====
section
/-! SUPPORT. What each operation of Machine/Scan.lean leaves as it was: one lemma for each operation. -/

namespace Sys2Proof.Machine

@[simp] theorem lineAccepted_keeps (sc : ScanRecord) (s : State) :
    (lineAccepted sc s).now = s.now ∧ (lineAccepted sc s).pending = s.pending ∧ (lineAccepted sc s).link = s.link ∧
    (lineAccepted sc s).settings = s.settings ∧ (lineAccepted sc s).clock = s.clock ∧
    (lineAccepted sc s).manager = s.manager ∧ (lineAccepted sc s).directory = s.directory ∧
    (lineAccepted sc s).panel = s.panel ∧ (lineAccepted sc s).drum = s.drum ∧ (lineAccepted sc s).motor = s.motor ∧
    (lineAccepted sc s).scanPart = s.scanPart ∧ (lineAccepted sc s).curve = s.curve ∧
    (lineAccepted sc s).cal = s.cal ∧ (lineAccepted sc s).lamp = s.lamp ∧ (lineAccepted sc s).encoder = s.encoder ∧
    (lineAccepted sc s).store = s.store ∧ (lineAccepted sc s).line = s.line ∧ (lineAccepted sc s).slips = s.slips := by
  simp only [lineAccepted]
  simp

@[simp] theorem scanDone_keeps (s : State) :
    (scanDone s).now = s.now ∧ (scanDone s).pending = s.pending ∧ (scanDone s).link = s.link ∧
    (scanDone s).settings = s.settings ∧ (scanDone s).clock = s.clock ∧ (scanDone s).manager = s.manager ∧
    (scanDone s).directory = s.directory ∧ (scanDone s).panel = s.panel ∧ (scanDone s).drum = s.drum ∧
    (scanDone s).motor = s.motor ∧ (scanDone s).scanPart = s.scanPart ∧ (scanDone s).curve = s.curve ∧
    (scanDone s).cal = s.cal ∧ (scanDone s).lamp = s.lamp ∧ (scanDone s).encoder = s.encoder ∧
    (scanDone s).store = s.store ∧ (scanDone s).line = s.line ∧ (scanDone s).slips = s.slips := by
  simp only [scanDone]
  simp

@[simp] theorem offerLine_keeps (l : PictureLine) (sc : ScanRecord) (s : State) :
    (offerLine l sc s).now = s.now ∧ (offerLine l sc s).pending = s.pending ∧ (offerLine l sc s).link = s.link ∧
    (offerLine l sc s).settings = s.settings ∧ (offerLine l sc s).clock = s.clock ∧
    (offerLine l sc s).directory = s.directory ∧ (offerLine l sc s).panel = s.panel ∧
    (offerLine l sc s).drum = s.drum ∧ (offerLine l sc s).motor = s.motor ∧
    (offerLine l sc s).scanPart = s.scanPart ∧ (offerLine l sc s).curve = s.curve ∧
    (offerLine l sc s).cal = s.cal ∧ (offerLine l sc s).lamp = s.lamp ∧ (offerLine l sc s).encoder = s.encoder ∧
    (offerLine l sc s).line = s.line ∧ (offerLine l sc s).slips = s.slips := by
  simp only [offerLine]
  (repeat' split) <;> simp

@[simp] theorem lampFault_keeps (s : State) :
    (lampFault s).now = s.now ∧ (lampFault s).pending = s.pending ∧ (lampFault s).link = s.link ∧
    (lampFault s).settings = s.settings ∧ (lampFault s).clock = s.clock ∧ (lampFault s).directory = s.directory ∧
    (lampFault s).panel = s.panel ∧ (lampFault s).motor = s.motor ∧ (lampFault s).scanPart = s.scanPart ∧
    (lampFault s).curve = s.curve ∧ (lampFault s).cal = s.cal ∧ (lampFault s).lamp = s.lamp ∧
    (lampFault s).encoder = s.encoder ∧ (lampFault s).slips = s.slips := by
  simp only [lampFault]
  simp

@[simp] theorem completeLine_keeps (b : Bool) (sc : ScanRecord) (s : State) :
    (completeLine b sc s).now = s.now ∧ (completeLine b sc s).pending = s.pending ∧
    (completeLine b sc s).link = s.link ∧ (completeLine b sc s).settings = s.settings ∧
    (completeLine b sc s).clock = s.clock ∧ (completeLine b sc s).directory = s.directory ∧
    (completeLine b sc s).panel = s.panel ∧ (completeLine b sc s).motor = s.motor ∧
    (completeLine b sc s).scanPart = s.scanPart ∧ (completeLine b sc s).curve = s.curve ∧
    (completeLine b sc s).cal = s.cal ∧ (completeLine b sc s).lamp = s.lamp ∧
    (completeLine b sc s).encoder = s.encoder ∧ (completeLine b sc s).slips = s.slips := by
  simp only [completeLine]
  (repeat' split) <;> simp

@[simp] theorem beginRevolution_keeps (n : Nat) (s : State) :
    (beginRevolution n s).now = s.now ∧ (beginRevolution n s).pending = s.pending ∧
    (beginRevolution n s).link = s.link ∧ (beginRevolution n s).settings = s.settings ∧
    (beginRevolution n s).clock = s.clock ∧ (beginRevolution n s).manager = s.manager ∧
    (beginRevolution n s).directory = s.directory ∧ (beginRevolution n s).panel = s.panel ∧
    (beginRevolution n s).drum = s.drum ∧ (beginRevolution n s).motor = s.motor ∧
    (beginRevolution n s).scanPart = s.scanPart ∧ (beginRevolution n s).curve = s.curve ∧
    (beginRevolution n s).cal = s.cal ∧ (beginRevolution n s).lamp = s.lamp ∧
    (beginRevolution n s).carriage = s.carriage ∧ (beginRevolution n s).encoder = s.encoder ∧
    (beginRevolution n s).store = s.store ∧ (beginRevolution n s).line = s.line ∧
    (beginRevolution n s).run = s.run ∧ (beginRevolution n s).slips = s.slips := by
  simp only [beginRevolution]
  (repeat' split) <;> simp

@[simp] theorem revolutionToScan_keeps (b : Bool) (n : Nat) (s : State) :
    (revolutionToScan b n s).now = s.now ∧ (revolutionToScan b n s).pending = s.pending ∧
    (revolutionToScan b n s).link = s.link ∧ (revolutionToScan b n s).settings = s.settings ∧
    (revolutionToScan b n s).clock = s.clock ∧ (revolutionToScan b n s).directory = s.directory ∧
    (revolutionToScan b n s).panel = s.panel ∧ (revolutionToScan b n s).motor = s.motor ∧
    (revolutionToScan b n s).scanPart = s.scanPart ∧ (revolutionToScan b n s).curve = s.curve ∧
    (revolutionToScan b n s).cal = s.cal ∧ (revolutionToScan b n s).lamp = s.lamp ∧
    (revolutionToScan b n s).encoder = s.encoder ∧ (revolutionToScan b n s).slips = s.slips := by
  simp only [revolutionToScan]
  (repeat' split) <;> simp

@[simp] theorem revolutionReport_keeps (b : Bool) (n : Nat) (s : State) :
    (revolutionReport b n s).now = s.now ∧ (revolutionReport b n s).pending = s.pending ∧
    (revolutionReport b n s).link = s.link ∧ (revolutionReport b n s).settings = s.settings ∧
    (revolutionReport b n s).clock = s.clock ∧ (revolutionReport b n s).directory = s.directory ∧
    (revolutionReport b n s).panel = s.panel ∧ (revolutionReport b n s).motor = s.motor ∧
    (revolutionReport b n s).scanPart = s.scanPart ∧ (revolutionReport b n s).curve = s.curve ∧
    (revolutionReport b n s).cal = s.cal ∧ (revolutionReport b n s).lamp = s.lamp ∧
    (revolutionReport b n s).encoder = s.encoder ∧ (revolutionReport b n s).slips = s.slips := by
  simp only [revolutionReport]
  simp

@[simp] theorem indexPulse_keeps (n : Nat) (s : State) :
    (indexPulse n s).now = s.now ∧ (indexPulse n s).pending = s.pending ∧ (indexPulse n s).settings = s.settings ∧
    (indexPulse n s).clock = s.clock ∧ (indexPulse n s).directory = s.directory ∧
    (indexPulse n s).panel = s.panel ∧ (indexPulse n s).slips = s.slips := by
  simp only [indexPulse]
  (repeat' split) <;> simp

@[simp] theorem encoderEdge_keeps (e : Edge) (n : Nat) (s : State) :
    (encoderEdge e n s).now = s.now ∧ (encoderEdge e n s).pending = s.pending ∧ (encoderEdge e n s).link = s.link ∧
    (encoderEdge e n s).settings = s.settings ∧ (encoderEdge e n s).clock = s.clock ∧
    (encoderEdge e n s).manager = s.manager ∧ (encoderEdge e n s).directory = s.directory ∧
    (encoderEdge e n s).panel = s.panel ∧ (encoderEdge e n s).drum = s.drum ∧ (encoderEdge e n s).motor = s.motor ∧
    (encoderEdge e n s).scanPart = s.scanPart ∧ (encoderEdge e n s).curve = s.curve ∧
    (encoderEdge e n s).lamp = s.lamp ∧ (encoderEdge e n s).carriage = s.carriage ∧
    (encoderEdge e n s).store = s.store ∧ (encoderEdge e n s).line = s.line ∧ (encoderEdge e n s).run = s.run ∧
    (encoderEdge e n s).slips = s.slips := by
  simp only [encoderEdge]
  simp

end Sys2Proof.Machine
end

