-- ==== Sys2Proof/Laws/FramesCommands.lean ====
section
/-! SUPPORT. What each operation of Machine/Commands.lean leaves as it was: one lemma for each operation. -/

namespace Sys2Proof.Machine

@[simp] theorem settleEnd_keeps (s : State) :
    (settleEnd s).now = s.now ∧ (settleEnd s).pending = s.pending ∧ (settleEnd s).link = s.link ∧
    (settleEnd s).settings = s.settings ∧ (settleEnd s).clock = s.clock ∧ (settleEnd s).manager = s.manager ∧
    (settleEnd s).directory = s.directory ∧ (settleEnd s).panel = s.panel ∧ (settleEnd s).drum = s.drum ∧
    (settleEnd s).motor = s.motor ∧ (settleEnd s).scanPart = s.scanPart ∧ (settleEnd s).curve = s.curve ∧
    (settleEnd s).lamp = s.lamp ∧ (settleEnd s).carriage = s.carriage ∧ (settleEnd s).encoder = s.encoder ∧
    (settleEnd s).scan = s.scan ∧ (settleEnd s).store = s.store ∧ (settleEnd s).line = s.line ∧
    (settleEnd s).run = s.run ∧ (settleEnd s).slips = s.slips := by
  simp only [settleEnd]
  simp

@[simp] theorem panelEvent_keeps (i : PanelInput) (l : Option Nat) (s : State) :
    (panelEvent i l s).now = s.now ∧ (panelEvent i l s).pending = s.pending ∧
    (panelEvent i l s).settings = s.settings ∧ (panelEvent i l s).clock = s.clock ∧
    (panelEvent i l s).manager = s.manager ∧ (panelEvent i l s).directory = s.directory ∧
    (panelEvent i l s).panel = s.panel ∧ (panelEvent i l s).drum = s.drum ∧ (panelEvent i l s).motor = s.motor ∧
    (panelEvent i l s).scanPart = s.scanPart ∧ (panelEvent i l s).curve = s.curve ∧
    (panelEvent i l s).cal = s.cal ∧ (panelEvent i l s).lamp = s.lamp ∧ (panelEvent i l s).carriage = s.carriage ∧
    (panelEvent i l s).encoder = s.encoder ∧ (panelEvent i l s).scan = s.scan ∧
    (panelEvent i l s).store = s.store ∧ (panelEvent i l s).line = s.line ∧ (panelEvent i l s).run = s.run ∧
    (panelEvent i l s).slips = s.slips := by
  simp only [panelEvent]
  simp

@[simp] theorem doorInterlock_keeps (s : State) :
    (doorInterlock s).now = s.now ∧ (doorInterlock s).pending = s.pending ∧
    (doorInterlock s).settings = s.settings ∧ (doorInterlock s).clock = s.clock ∧
    (doorInterlock s).directory = s.directory ∧ (doorInterlock s).motor = s.motor ∧
    (doorInterlock s).scanPart = s.scanPart ∧ (doorInterlock s).curve = s.curve ∧
    (doorInterlock s).encoder = s.encoder := by
  simp only [doorInterlock]
  (repeat' split) <;> simp

@[simp] theorem openDoor_keeps (s : State) :
    (openDoor s).now = s.now ∧ (openDoor s).pending = s.pending ∧ (openDoor s).settings = s.settings ∧
    (openDoor s).clock = s.clock ∧ (openDoor s).directory = s.directory ∧ (openDoor s).motor = s.motor ∧
    (openDoor s).scanPart = s.scanPart ∧ (openDoor s).curve = s.curve ∧ (openDoor s).encoder = s.encoder := by
  simp only [openDoor]
  simp

@[simp] theorem examineMount_keeps (s : State) :
    (examineMount s).now = s.now ∧ (examineMount s).pending = s.pending ∧ (examineMount s).settings = s.settings ∧
    (examineMount s).clock = s.clock ∧ (examineMount s).directory = s.directory ∧
    (examineMount s).motor = s.motor ∧ (examineMount s).scanPart = s.scanPart ∧ (examineMount s).curve = s.curve ∧
    (examineMount s).encoder = s.encoder ∧ (examineMount s).slips = s.slips := by
  simp only [examineMount]
  (repeat' split) <;> simp

@[simp] theorem releaseClamp_keeps (s : State) :
    (releaseClamp s).now = s.now ∧ (releaseClamp s).pending = s.pending ∧ (releaseClamp s).settings = s.settings ∧
    (releaseClamp s).clock = s.clock ∧ (releaseClamp s).directory = s.directory ∧
    (releaseClamp s).motor = s.motor ∧ (releaseClamp s).scanPart = s.scanPart ∧ (releaseClamp s).curve = s.curve ∧
    (releaseClamp s).encoder = s.encoder := by
  simp only [releaseClamp]
  (repeat' split) <;> simp

@[simp] theorem quietExpired_keeps (s : State) :
    (quietExpired s).now = s.now ∧ (quietExpired s).pending = s.pending ∧ (quietExpired s).settings = s.settings ∧
    (quietExpired s).clock = s.clock ∧ (quietExpired s).directory = s.directory ∧
    (quietExpired s).panel = s.panel ∧ (quietExpired s).motor = s.motor ∧ (quietExpired s).scanPart = s.scanPart ∧
    (quietExpired s).curve = s.curve ∧ (quietExpired s).encoder = s.encoder ∧ (quietExpired s).scan = s.scan ∧
    (quietExpired s).store = s.store ∧ (quietExpired s).slips = s.slips := by
  simp only [quietExpired]
  simp

@[simp] theorem spinHoldExpired_keeps (s : State) :
    (spinHoldExpired s).now = s.now ∧ (spinHoldExpired s).pending = s.pending ∧
    (spinHoldExpired s).settings = s.settings ∧ (spinHoldExpired s).clock = s.clock ∧
    (spinHoldExpired s).directory = s.directory ∧ (spinHoldExpired s).panel = s.panel ∧
    (spinHoldExpired s).motor = s.motor ∧ (spinHoldExpired s).scanPart = s.scanPart ∧
    (spinHoldExpired s).curve = s.curve ∧ (spinHoldExpired s).encoder = s.encoder ∧
    (spinHoldExpired s).scan = s.scan ∧ (spinHoldExpired s).store = s.store ∧ (spinHoldExpired s).slips = s.slips := by
  simp only [spinHoldExpired]
  (repeat' split) <;> simp

@[simp] theorem warmUpDone_keeps (s : State) :
    (warmUpDone s).now = s.now ∧ (warmUpDone s).pending = s.pending ∧ (warmUpDone s).settings = s.settings ∧
    (warmUpDone s).clock = s.clock ∧ (warmUpDone s).directory = s.directory ∧ (warmUpDone s).panel = s.panel ∧
    (warmUpDone s).drum = s.drum ∧ (warmUpDone s).motor = s.motor ∧ (warmUpDone s).scanPart = s.scanPart ∧
    (warmUpDone s).curve = s.curve ∧ (warmUpDone s).carriage = s.carriage ∧ (warmUpDone s).encoder = s.encoder ∧
    (warmUpDone s).scan = s.scan ∧ (warmUpDone s).store = s.store ∧ (warmUpDone s).slips = s.slips := by
  simp only [warmUpDone]
  simp

@[simp] theorem carriageFailed_keeps (s : State) :
    (carriageFailed s).now = s.now ∧ (carriageFailed s).pending = s.pending ∧
    (carriageFailed s).settings = s.settings ∧ (carriageFailed s).clock = s.clock ∧
    (carriageFailed s).directory = s.directory ∧ (carriageFailed s).panel = s.panel ∧
    (carriageFailed s).motor = s.motor ∧ (carriageFailed s).scanPart = s.scanPart ∧
    (carriageFailed s).curve = s.curve ∧ (carriageFailed s).encoder = s.encoder ∧ (carriageFailed s).slips = s.slips := by
  simp only [carriageFailed]
  simp

@[simp] theorem homeStep_keeps (s : State) :
    (homeStep s).now = s.now ∧ (homeStep s).pending = s.pending ∧ (homeStep s).settings = s.settings ∧
    (homeStep s).clock = s.clock ∧ (homeStep s).directory = s.directory ∧ (homeStep s).panel = s.panel ∧
    (homeStep s).motor = s.motor ∧ (homeStep s).scanPart = s.scanPart ∧ (homeStep s).curve = s.curve ∧
    (homeStep s).encoder = s.encoder ∧ (homeStep s).slips = s.slips := by
  simp only [homeStep]
  (repeat' split) <;> simp

@[simp] theorem carriageStep_keeps (s : State) :
    (carriageStep s).now = s.now ∧ (carriageStep s).pending = s.pending ∧ (carriageStep s).settings = s.settings ∧
    (carriageStep s).clock = s.clock ∧ (carriageStep s).directory = s.directory ∧
    (carriageStep s).panel = s.panel ∧ (carriageStep s).motor = s.motor ∧ (carriageStep s).scanPart = s.scanPart ∧
    (carriageStep s).curve = s.curve ∧ (carriageStep s).encoder = s.encoder ∧ (carriageStep s).slips = s.slips := by
  simp only [carriageStep]
  (repeat' split) <;> simp

@[simp] theorem homeReached_keeps (s : State) :
    (homeReached s).now = s.now ∧ (homeReached s).pending = s.pending ∧ (homeReached s).settings = s.settings ∧
    (homeReached s).clock = s.clock ∧ (homeReached s).directory = s.directory ∧ (homeReached s).panel = s.panel ∧
    (homeReached s).drum = s.drum ∧ (homeReached s).motor = s.motor ∧ (homeReached s).scanPart = s.scanPart ∧
    (homeReached s).curve = s.curve ∧ (homeReached s).lamp = s.lamp ∧ (homeReached s).encoder = s.encoder ∧
    (homeReached s).scan = s.scan ∧ (homeReached s).store = s.store ∧ (homeReached s).slips = s.slips := by
  simp only [homeReached]
  (repeat' split) <;> simp

@[simp] theorem pictureLine_keeps (n : Nat) (s : State) :
    (pictureLine n s).now = s.now ∧ (pictureLine n s).pending = s.pending ∧ (pictureLine n s).link = s.link ∧
    (pictureLine n s).settings = s.settings ∧ (pictureLine n s).clock = s.clock ∧
    (pictureLine n s).directory = s.directory ∧ (pictureLine n s).panel = s.panel ∧
    (pictureLine n s).motor = s.motor ∧ (pictureLine n s).scanPart = s.scanPart ∧
    (pictureLine n s).curve = s.curve ∧ (pictureLine n s).cal = s.cal ∧ (pictureLine n s).lamp = s.lamp ∧
    (pictureLine n s).carriage = s.carriage ∧ (pictureLine n s).encoder = s.encoder ∧
    (pictureLine n s).scan = s.scan ∧ (pictureLine n s).run = s.run ∧ (pictureLine n s).slips = s.slips := by
  simp only [pictureLine]
  simp

@[simp] theorem phasingBoundary_keeps (t : LineTimer) (g : Figures) (s : State) :
    (phasingBoundary t g s).now = s.now ∧ (phasingBoundary t g s).pending = s.pending ∧
    (phasingBoundary t g s).settings = s.settings ∧ (phasingBoundary t g s).clock = s.clock ∧
    (phasingBoundary t g s).directory = s.directory ∧ (phasingBoundary t g s).panel = s.panel ∧
    (phasingBoundary t g s).motor = s.motor ∧ (phasingBoundary t g s).scanPart = s.scanPart ∧
    (phasingBoundary t g s).curve = s.curve ∧ (phasingBoundary t g s).cal = s.cal ∧
    (phasingBoundary t g s).lamp = s.lamp ∧ (phasingBoundary t g s).carriage = s.carriage ∧
    (phasingBoundary t g s).encoder = s.encoder ∧ (phasingBoundary t g s).slips = s.slips := by
  simp only [phasingBoundary]
  (repeat' split) <;> simp

@[simp] theorem pictureBoundary_keeps (g : Figures) (s : State) :
    (pictureBoundary g s).now = s.now ∧ (pictureBoundary g s).pending = s.pending ∧
    (pictureBoundary g s).settings = s.settings ∧ (pictureBoundary g s).clock = s.clock ∧
    (pictureBoundary g s).directory = s.directory ∧ (pictureBoundary g s).panel = s.panel ∧
    (pictureBoundary g s).motor = s.motor ∧ (pictureBoundary g s).scanPart = s.scanPart ∧
    (pictureBoundary g s).curve = s.curve ∧ (pictureBoundary g s).cal = s.cal ∧
    (pictureBoundary g s).lamp = s.lamp ∧ (pictureBoundary g s).carriage = s.carriage ∧
    (pictureBoundary g s).encoder = s.encoder ∧ (pictureBoundary g s).scan = s.scan ∧
    (pictureBoundary g s).run = s.run ∧ (pictureBoundary g s).slips = s.slips := by
  simp only [pictureBoundary]
  (repeat' split) <;> simp

@[simp] theorem lineBoundary_keeps (s : State) :
    (lineBoundary s).now = s.now ∧ (lineBoundary s).pending = s.pending ∧ (lineBoundary s).settings = s.settings ∧
    (lineBoundary s).clock = s.clock ∧ (lineBoundary s).directory = s.directory ∧
    (lineBoundary s).panel = s.panel ∧ (lineBoundary s).motor = s.motor ∧ (lineBoundary s).scanPart = s.scanPart ∧
    (lineBoundary s).curve = s.curve ∧ (lineBoundary s).cal = s.cal ∧ (lineBoundary s).lamp = s.lamp ∧
    (lineBoundary s).carriage = s.carriage ∧ (lineBoundary s).encoder = s.encoder ∧ (lineBoundary s).slips = s.slips := by
  simp only [lineBoundary]
  (repeat' split) <;> simp

@[simp] theorem guardOver_keeps (s : State) :
    (guardOver s).now = s.now ∧ (guardOver s).pending = s.pending ∧ (guardOver s).settings = s.settings ∧
    (guardOver s).clock = s.clock ∧ (guardOver s).directory = s.directory ∧ (guardOver s).panel = s.panel ∧
    (guardOver s).drum = s.drum ∧ (guardOver s).motor = s.motor ∧ (guardOver s).scanPart = s.scanPart ∧
    (guardOver s).curve = s.curve ∧ (guardOver s).cal = s.cal ∧ (guardOver s).lamp = s.lamp ∧
    (guardOver s).carriage = s.carriage ∧ (guardOver s).encoder = s.encoder ∧ (guardOver s).scan = s.scan ∧
    (guardOver s).store = s.store ∧ (guardOver s).slips = s.slips := by
  simp only [guardOver]
  (repeat' split) <;> simp

@[simp] theorem listenEnds_keeps (out : Option ReplyTone) (s : State) :
    (listenEnds out s).now = s.now ∧ (listenEnds out s).pending = s.pending ∧
    (listenEnds out s).settings = s.settings ∧ (listenEnds out s).clock = s.clock ∧
    (listenEnds out s).directory = s.directory ∧ (listenEnds out s).panel = s.panel ∧
    (listenEnds out s).drum = s.drum ∧ (listenEnds out s).motor = s.motor ∧
    (listenEnds out s).scanPart = s.scanPart ∧ (listenEnds out s).curve = s.curve ∧
    (listenEnds out s).cal = s.cal ∧ (listenEnds out s).lamp = s.lamp ∧ (listenEnds out s).carriage = s.carriage ∧
    (listenEnds out s).encoder = s.encoder ∧ (listenEnds out s).scan = s.scan ∧
    (listenEnds out s).store = s.store ∧ (listenEnds out s).slips = s.slips := by
  simp only [listenEnds]
  simp

@[simp] theorem lineLost_keeps (s : State) :
    (lineLost s).now = s.now ∧ (lineLost s).pending = s.pending ∧ (lineLost s).settings = s.settings ∧
    (lineLost s).clock = s.clock ∧ (lineLost s).directory = s.directory ∧ (lineLost s).panel = s.panel ∧
    (lineLost s).motor = s.motor ∧ (lineLost s).scanPart = s.scanPart ∧ (lineLost s).curve = s.curve ∧
    (lineLost s).cal = s.cal ∧ (lineLost s).lamp = s.lamp ∧ (lineLost s).encoder = s.encoder ∧
    (lineLost s).slips = s.slips := by
  simp only [lineLost]
  simp

end Sys2Proof.Machine
end

