-- ==== Sys2Proof/WellFormed.lean ====
section
/-! DEFINITION. Well-formed commands: what the outside can send. Ill-formed terms still have a meaning (a payload above 60
bytes is a broken frame), but no sender can make them. -/

namespace Sys2Proof

open Machine (knownKind)

/-- A frame's payload holds 0..60 bytes (R191). -/
def payloadOk (p : List Byte) : Bool := decide (p.length ≤ 60)

/-- The rest of a payload whose first byte the row names. -/
def restOk (p : List Byte) : Bool := decide (p.length ≤ 59)

/-- The command is one that the outside can send: payloads fit a frame (R191), an UNKNOWN_KIND names no request kind of the
catalogue (R193), and every other operand is a value of its type. -/
def Instr.wellFormed : Instr → Bool
  | .unknownKind _ _ kind payload => payloadOk payload && !knownKind kind
  | .status _ _ p => payloadOk p
  | .settingsSet _ _ p => payloadOk p
  | .settingsGet _ _ p => payloadOk p
  | .clockSet _ _ p => payloadOk p
  | .stationLoad _ _ p => payloadOk p
  | .stationRead _ _ p => payloadOk p
  | .calLoad _ _ p => payloadOk p
  | .calRead _ _ p => payloadOk p
  | .curveLoad _ _ p => payloadOk p
  | .calRunMotor _ _ r => restOk r
  | .calRunDark _ _ r => restOk r
  | .calRunWhite _ _ r => restOk r
  | .calRunSteps _ _ r => restOk r
  | .orderBegin _ _ p => payloadOk p
  | .orderPart _ _ p => payloadOk p
  | .orderCancel _ _ p => payloadOk p
  | .orderInquire _ _ p => payloadOk p
  | .orderList _ _ p => payloadOk p
  | .queueControlHalt _ _ r => restOk r
  | .queueControlResume _ _ r => restOk r
  | .drumSpin _ _ p => payloadOk p
  | .slipControlMode _ _ r => restOk r
  | .slipControlFeed _ _ r => restOk r
  | .slipControlReprint _ _ r => restOk r
  | .restart _ _ p => payloadOk p
  | .powerOn _ => true
  | .linkByteReceived _ _ => true
  | .gapTimerExpiry _ => true
  | .frameSent _ => true
  | .assemblyTimeout _ => true
  | .doorOpen _ => true
  | .doorClose _ => true
  | .clampEngage _ => true
  | .clampRelease _ => true
  | .stopKey _ => true
  | .indexPulse _ _ => true
  | .spinUpLimitExpiry _ => true
  | .stall _ => true
  | .quietTimerExpiry _ => true
  | .spinHoldExpiry _ => true
  | .motorSettleEnd _ => true
  | .darkLampSettled _ => true
  | .warmUpExpiry _ => true
  | .lampIdleExpiry _ => true
  | .carriageStep _ => true
  | .homeSwitchClose _ => true
  | .homeSearchLimit _ => true
  | .lineBoundary _ => true
  | .startToneEnd _ => true
  | .stopToneEnd _ => true
  | .releaseCleared _ => true
  | .loopCurrentLost _ => true
  | .loopCurrentReturn _ => true
  | .lineLoss _ => true
  | .guardExpiry _ => true
  | .callEnd _ => true
  | .replyQualified _ _ => true
  | .replyEnd _ => true
  | .replyOverlong _ => true
  | .replyWindowExpiry _ => true
  | .dialToneFound _ => true
  | .noDialTone _ => true
  | .dialDigitsEnd _ => true
  | .holdBurst _ => true
  | .holdBurstEnd _ => true
  | .deferLimitExpiry _ => true
  | .paperOut _ => true
  | .paperBack _ => true
  | .rowStepEnd _ => true
  | .timeOfDayTick _ => true
  | .encoderCount _ _ _ => true

end Sys2Proof
end

