-- ==== Sys2Proof/Laws/PerInstr.lean ====
section
/-! SUPPORT. One lemma for each command about it as syntax: which terms are well-formed, by the frame they stand for. -/

namespace Sys2Proof.Laws.Fields

open Machine (knownKind)

/-- A row that stands for no frame is always well-formed; a request row is exactly when its payload fits a frame (R191) and
its kind byte is one of the catalogue, or for UNKNOWN_KIND is none of them (R193). -/
def Statement (i : Instr) : Prop :=
  match i.frame with
  | none => i.wellFormed = true
  | some (_, f) =>
    i.wellFormed = true ↔
      f.payload.length ≤ 60 ∧ knownKind f.kind = !(i matches .unknownKind _ _ _ _)

/-- A payload that the row carries whole. -/
theorem whole (p : List Byte) (b c : Bool) (h : b = c) : payloadOk p = true ↔ p.length ≤ 60 ∧ b = c := by
  simp [payloadOk, h]

/-- A payload whose first byte the row names. -/
theorem afterFirst (x : Byte) (r : List Byte) (b c : Bool) (h : b = c) :
    restOk r = true ↔ (x :: r).length ≤ 60 ∧ b = c := by
  simp only [restOk, decide_eq_true_eq, List.length_cons, h, and_true]
  omega

theorem powerOn (levels : Levels) : Statement (.powerOn levels) := rfl

theorem linkByteReceived (dt : Nat) (byte : Byte) : Statement (.linkByteReceived dt byte) := rfl

theorem gapTimerExpiry (dt : Nat) : Statement (.gapTimerExpiry dt) := rfl

theorem frameSent (dt : Nat) : Statement (.frameSent dt) := rfl

theorem unknownKind (dt : Nat) (tag kind : Byte) (payload : List Byte) :
    Statement (.unknownKind dt tag kind payload) := by
  simp [Statement, Instr.frame, Instr.wellFormed, payloadOk]

theorem status (dt : Nat) (tag : Byte) (payload : List Byte) : Statement (.status dt tag payload) :=
  whole payload _ _ rfl

theorem settingsSet (dt : Nat) (tag : Byte) (payload : List Byte) : Statement (.settingsSet dt tag payload) :=
  whole payload _ _ rfl

theorem settingsGet (dt : Nat) (tag : Byte) (payload : List Byte) : Statement (.settingsGet dt tag payload) :=
  whole payload _ _ rfl

theorem clockSet (dt : Nat) (tag : Byte) (payload : List Byte) : Statement (.clockSet dt tag payload) :=
  whole payload _ _ rfl

theorem stationLoad (dt : Nat) (tag : Byte) (payload : List Byte) : Statement (.stationLoad dt tag payload) :=
  whole payload _ _ rfl

theorem stationRead (dt : Nat) (tag : Byte) (payload : List Byte) : Statement (.stationRead dt tag payload) :=
  whole payload _ _ rfl

theorem calLoad (dt : Nat) (tag : Byte) (payload : List Byte) : Statement (.calLoad dt tag payload) :=
  whole payload _ _ rfl

theorem calRead (dt : Nat) (tag : Byte) (payload : List Byte) : Statement (.calRead dt tag payload) :=
  whole payload _ _ rfl

theorem curveLoad (dt : Nat) (tag : Byte) (payload : List Byte) : Statement (.curveLoad dt tag payload) :=
  whole payload _ _ rfl

theorem calRunMotor (dt : Nat) (tag : Byte) (rest : List Byte) : Statement (.calRunMotor dt tag rest) :=
  afterFirst _ rest _ _ rfl

theorem calRunDark (dt : Nat) (tag : Byte) (rest : List Byte) : Statement (.calRunDark dt tag rest) :=
  afterFirst _ rest _ _ rfl

theorem calRunWhite (dt : Nat) (tag : Byte) (rest : List Byte) : Statement (.calRunWhite dt tag rest) :=
  afterFirst _ rest _ _ rfl

theorem calRunSteps (dt : Nat) (tag : Byte) (rest : List Byte) : Statement (.calRunSteps dt tag rest) :=
  afterFirst _ rest _ _ rfl

theorem orderBegin (dt : Nat) (tag : Byte) (payload : List Byte) : Statement (.orderBegin dt tag payload) :=
  whole payload _ _ rfl

theorem orderPart (dt : Nat) (tag : Byte) (payload : List Byte) : Statement (.orderPart dt tag payload) :=
  whole payload _ _ rfl

theorem orderCancel (dt : Nat) (tag : Byte) (payload : List Byte) : Statement (.orderCancel dt tag payload) :=
  whole payload _ _ rfl

theorem orderInquire (dt : Nat) (tag : Byte) (payload : List Byte) : Statement (.orderInquire dt tag payload) :=
  whole payload _ _ rfl

theorem orderList (dt : Nat) (tag : Byte) (payload : List Byte) : Statement (.orderList dt tag payload) :=
  whole payload _ _ rfl

theorem queueControlHalt (dt : Nat) (tag : Byte) (rest : List Byte) : Statement (.queueControlHalt dt tag rest) :=
  afterFirst _ rest _ _ rfl

theorem queueControlResume (dt : Nat) (tag : Byte) (rest : List Byte) : Statement (.queueControlResume dt tag rest) :=
  afterFirst _ rest _ _ rfl

theorem drumSpin (dt : Nat) (tag : Byte) (payload : List Byte) : Statement (.drumSpin dt tag payload) :=
  whole payload _ _ rfl

theorem slipControlMode (dt : Nat) (tag : Byte) (rest : List Byte) : Statement (.slipControlMode dt tag rest) :=
  afterFirst _ rest _ _ rfl

theorem slipControlFeed (dt : Nat) (tag : Byte) (rest : List Byte) : Statement (.slipControlFeed dt tag rest) :=
  afterFirst _ rest _ _ rfl

theorem slipControlReprint (dt : Nat) (tag : Byte) (rest : List Byte) : Statement (.slipControlReprint dt tag rest) :=
  afterFirst _ rest _ _ rfl

theorem restart (dt : Nat) (tag : Byte) (payload : List Byte) : Statement (.restart dt tag payload) :=
  whole payload _ _ rfl

theorem assemblyTimeout (dt : Nat) : Statement (.assemblyTimeout dt) := rfl

theorem doorOpen (dt : Nat) : Statement (.doorOpen dt) := rfl

theorem doorClose (dt : Nat) : Statement (.doorClose dt) := rfl

theorem clampEngage (dt : Nat) : Statement (.clampEngage dt) := rfl

theorem clampRelease (dt : Nat) : Statement (.clampRelease dt) := rfl

theorem stopKey (dt : Nat) : Statement (.stopKey dt) := rfl

theorem indexPulse (dt : Nat) (sample : Sample) : Statement (.indexPulse dt sample) := rfl

theorem spinUpLimitExpiry (dt : Nat) : Statement (.spinUpLimitExpiry dt) := rfl

theorem stall (dt : Nat) : Statement (.stall dt) := rfl

theorem quietTimerExpiry (dt : Nat) : Statement (.quietTimerExpiry dt) := rfl

theorem spinHoldExpiry (dt : Nat) : Statement (.spinHoldExpiry dt) := rfl

theorem motorSettleEnd (dt : Nat) : Statement (.motorSettleEnd dt) := rfl

theorem darkLampSettled (dt : Nat) : Statement (.darkLampSettled dt) := rfl

theorem warmUpExpiry (dt : Nat) : Statement (.warmUpExpiry dt) := rfl

theorem lampIdleExpiry (dt : Nat) : Statement (.lampIdleExpiry dt) := rfl

theorem carriageStep (dt : Nat) : Statement (.carriageStep dt) := rfl

theorem homeSwitchClose (dt : Nat) : Statement (.homeSwitchClose dt) := rfl

theorem homeSearchLimit (dt : Nat) : Statement (.homeSearchLimit dt) := rfl

theorem lineBoundary (dt : Nat) : Statement (.lineBoundary dt) := rfl

theorem startToneEnd (dt : Nat) : Statement (.startToneEnd dt) := rfl

theorem stopToneEnd (dt : Nat) : Statement (.stopToneEnd dt) := rfl

theorem releaseCleared (dt : Nat) : Statement (.releaseCleared dt) := rfl

theorem loopCurrentLost (dt : Nat) : Statement (.loopCurrentLost dt) := rfl

theorem loopCurrentReturn (dt : Nat) : Statement (.loopCurrentReturn dt) := rfl

theorem lineLoss (dt : Nat) : Statement (.lineLoss dt) := rfl

theorem guardExpiry (dt : Nat) : Statement (.guardExpiry dt) := rfl

theorem callEnd (dt : Nat) : Statement (.callEnd dt) := rfl

theorem replyQualified (dt : Nat) (tone : ReplyTone) : Statement (.replyQualified dt tone) := rfl

theorem replyEnd (dt : Nat) : Statement (.replyEnd dt) := rfl

theorem replyOverlong (dt : Nat) : Statement (.replyOverlong dt) := rfl

theorem replyWindowExpiry (dt : Nat) : Statement (.replyWindowExpiry dt) := rfl

theorem dialToneFound (dt : Nat) : Statement (.dialToneFound dt) := rfl

theorem noDialTone (dt : Nat) : Statement (.noDialTone dt) := rfl

theorem dialDigitsEnd (dt : Nat) : Statement (.dialDigitsEnd dt) := rfl

theorem holdBurst (dt : Nat) : Statement (.holdBurst dt) := rfl

theorem holdBurstEnd (dt : Nat) : Statement (.holdBurstEnd dt) := rfl

theorem deferLimitExpiry (dt : Nat) : Statement (.deferLimitExpiry dt) := rfl

theorem paperOut (dt : Nat) : Statement (.paperOut dt) := rfl

theorem paperBack (dt : Nat) : Statement (.paperBack dt) := rfl

theorem rowStepEnd (dt : Nat) : Statement (.rowStepEnd dt) := rfl

theorem timeOfDayTick (dt : Nat) : Statement (.timeOfDayTick dt) := rfl

theorem encoderCount (dt : Nat) (edge : Edge) (sample : Sample) : Statement (.encoderCount dt edge sample) := rfl

end Sys2Proof.Laws.Fields
end

