-- ==== Sys2Proof/Laws/Requests.lean ====
section
/-! SUPPORT. How a request is served: a request row is the arrival of its frame (R191 to R193), what a link with nothing in hand
does with it, and what placing notices and the reply does meanwhile (R194, R195). -/

namespace Sys2Proof.Machine

/-- A request row's meaning is the arrival of its frame. -/
theorem exec_frame {i : Instr} {dt : Nat} {f : Frame} (h : i.frame = some (dt, f)) (s : State) :
    exec i s = .next (arrive f.kind f.tag f.payload (advance dt s)) := by
  cases i <;> simp only [Instr.frame, Option.some.injEq, Prod.mk.injEq, reduceCtorEq] at h <;>
    obtain ⟨rfl, rfl⟩ := h <;> rfl

/-- The state in which a request is served that a free link has just taken in. -/
def State.serving (dt : Nat) (r : Request) (s : State) : State :=
  { s with now := s.now + dt, link := { s.link with holding := [r] } }

/-- A free link serves the request at once: its answer is placed as the reply. -/
theorem arrive_free {s : State} (hf : s.LinkFree) {p : List Byte} (hp : p.length ≤ 60) (dt : Nat) (k tag : Byte) :
    arrive k tag p (advance dt s) =
      match answer ⟨k, tag, p⟩ (s.serving dt ⟨k, tag, p⟩) with
      | (some a, t) => placeReply ⟨k, tag, p⟩ a t
      | (none, t) => t := by
  obtain ⟨h1, h2, h3, h4⟩ := hf
  have hs : (s.serving dt ⟨k, tag, p⟩).link.inService = false := by
    cases htx : s.link.tx with
    | none => simp [State.serving, Link.inService, h2, h3, htx]
    | some x => simp [State.serving, Link.inService, h2, h3, htx, h4 x htx]
  have ho : (advance dt s).onLink (fun l => { l with holding := l.holding ++ [⟨k, tag, p⟩] })
      = s.serving dt ⟨k, tag, p⟩ := by
    simp [advance, State.onLink, State.serving, h1]
  have hl : (advance dt s).link.holding.length < 2 := by simp [advance, h1]
  simp only [arrive, Nat.not_lt.2 hp, if_false, offerFrame, hl, if_true, ho]
  simp only [serveFront, hs]
  simp only [State.serving]
  rfl

/-- A request of a known kind and an agreeing length goes to its owner. -/
theorem answer_known {k : Byte} (hk : knownKind k = true) {p : List Byte} (hl : lengthAgrees k p = true) (tag : Byte)
    (s : State) : answer ⟨k, tag, p⟩ s = serveKind k.toNat p s := by
  simp [answer, hk, hl]

/-- The reply of a request in service, on a link that was free when it came. -/
theorem placeReply_serving {s t : State} (hf : s.LinkFree) (r : Request) (a : Reply) {l : Link}
    (hl : t.link = { l with holding := [r] }) (htx : l.tx = s.link.tx) (hslot : l.replySlot = s.link.replySlot) :
    placeReply r a t = { t with link := l.replying r (Reply.frame r a) t.now } := by
  obtain ⟨_, h2, _, _⟩ := hf
  cases hx : s.link.tx <;> simp [placeReply, State.onLink, hl, Link.kick, Link.replying, htx, hx, hslot, h2]

/-- While a request is in service a notice joins the queue or is lost; nothing is sent. -/
theorem place_serving {l : Link} (h : l.tx ≠ none ∨ l.replySlot = none ∧ l.holding ≠ []) (now : Nat) (n : Notice) :
    l.place now n = l.enqueue n := by
  unfold Link.place Link.enqueue
  cases htx : l.tx with
  | some x => split <;> simp [Link.kick]
  | none =>
    obtain ⟨h2, h3⟩ := h.resolve_left (by simp [htx])
    cases hh : l.holding with
    | nil => exact absurd hh h3
    | cons r rs => split <;> simp [Link.kick, h2]

/-- A request that its owner answers at once, on a free link: the state the owner leaves (`u`, the queue of notices among it,
with the time and the held request put in) is the state answered. -/
theorem exec_request {i : Instr} {dt : Nat} {f : Frame} {s : State} (hi : i.frame = some (dt, f)) (hf : s.LinkFree)
    (hp : f.payload.length ≤ 60) (hk : knownKind f.kind = true) (hl : lengthAgrees f.kind f.payload = true) (a : Reply)
    (u : State) (htx : u.link.tx = s.link.tx) (hslot : u.link.replySlot = s.link.replySlot)
    (h : serveKind f.kind.toNat f.payload (s.serving dt ⟨f.kind, f.tag, f.payload⟩) =
      (some a, u.serving dt ⟨f.kind, f.tag, f.payload⟩)) :
    exec i s = .next (u.answered dt ⟨f.kind, f.tag, f.payload⟩ a) := by
  rw [exec_frame hi, arrive_free hf hp, answer_known hk hl, h]
  simp only
  rw [placeReply_serving hf _ _ (l := u.link) rfl htx hslot]
  rfl

end Sys2Proof.Machine
end

