-- ==== Sys2Proof/Laws/Table.lean ====
section
/-! SUPPORT. When the shared examinations do nothing: selection with no order that waits, retirement with no order FINISHED,
a mount end with no order bound, a drum report with no run and no calibration run; and how the order table is searched
after an update. -/

namespace Sys2Proof.Machine

/-- An update that keeps the numbers keeps the order found. -/
theorem find_updated (t : List Order) (n : Nat) (f : Order → Order) (hf : ∀ x, (f x).number = x.number) {o : Order}
    (h : t.find? (fun x => x.number == n) = some o) :
    (t.map fun x => if x.number = n then f x else x).find? (fun x => x.number == n) = some (f o) := by
  induction t with
  | nil => simp at h
  | cons a t ih =>
    by_cases ha : a.number = n
    · simp [ha] at h
      subst h
      simp [ha, hf]
    · rw [List.find?_cons_of_neg (by simpa using ha)] at h
      rw [List.map_cons, if_neg ha, List.find?_cons_of_neg (by simpa using ha)]
      exact ih h

theorem findOrder_number {s : State} {n : Nat} {o : Order} (h : s.findOrder n = some o) : o.number = n := by
  have := List.find?_some h
  simpa using this

theorem findOrder_updateOrder {s : State} {n : Nat} {o : Order} (f : Order → Order) (hf : ∀ x, (f x).number = x.number)
    (h : s.findOrder n = some o) : (updateOrder n f s).findOrder n = some (f o) :=
  find_updated s.manager.table n f hf h

/-- With no order that waits on the present mount there is none to select. -/
theorem candidate_none {s : State} (h : ∀ o ∈ s.manager.table, s.waitsOnMount o = false) : s.candidate = none := by
  have h1 : s.manager.table.find? (fun o => s.waitsOnMount o && o.urgent) = none :=
    List.find?_eq_none.2 fun x hx => by simp [h x hx]
  have h2 : s.manager.table.find? s.waitsOnMount = none :=
    List.find?_eq_none.2 fun x hx => by simp [h x hx]
  simp [State.candidate, h1, h2]

theorem select_none {s : State} (h : ∀ o ∈ s.manager.table, s.waitsOnMount o = false) : select s = s := by
  unfold select
  rw [candidate_none h]
  simp

/-- No order QUEUED, none to select. -/
theorem select_noneQueued {s : State} (h : ∀ o ∈ s.manager.table, o.state ≠ .queued) : select s = s :=
  select_none fun o ho => by simp [State.waitsOnMount, h o ho]

/-- No order FINISHED, none to retire. -/
theorem retire_noneFinished {s : State} (h : ∀ o ∈ s.manager.table, o.state ≠ .finished) : retire s = s := by
  have hf : s.oldestFinished = none := by
    simp only [State.oldestFinished]
    exact List.find?_eq_none.2 fun x hx => by simp [h x hx]
  unfold retire
  cases s.manager.table.length <;> simp [retireUpTo, hf]

/-- No QUEUED order bound to mount `M`: the mount's end finishes none. -/
theorem mountGone_none {M : Nat} {s : State} (h : ∀ o ∈ s.manager.table, o.state = .queued → o.mount ≠ M) (n : Nat) :
    mountGone M s n = s := by
  unfold mountGone
  cases hf : s.findOrder n with
  | none => rfl
  | some o =>
    simp only [ite_eq_right_iff, and_imp]
    exact fun a b => absurd b (h o (List.mem_of_find?_eq_some hf) a)

theorem foldl_mountGone_none {M : Nat} {s : State} (h : ∀ o ∈ s.manager.table, o.state = .queued → o.mount ≠ M)
    (l : List Nat) : l.foldl (mountGone M) s = s := by
  induction l with
  | nil => rfl
  | cons a l ih => simp [mountGone_none h, ih]

/-- A drum report reaches no run. -/
theorem drumReportToRun_none {s : State} (h : s.run = none) : drumReportToRun s = s := by
  have e : ({ s with run := none } : State) = s := by rw [← h]
  simp [drumReportToRun, State.onRun, h, examineStart, e]

/-- A change of the drum's state with no run and no calibration run is its DRUM_EVENT. -/
theorem drumChanged_idle {s : State} (h : s.run = none) (hc : s.cal = none) : drumChanged s = drumEvent .state s := by
  have h3 : (drumEvent .state s).cal = none := hc
  have hr : (drumEvent .state s).run = none := h
  unfold drumChanged reportDrum
  rw [drumReportToRun_none hr]
  unfold drumReportToCal
  rw [h3]

end Sys2Proof.Machine
end

