-- ==== Sys2Proof/Tests/Slice0.lean ====
section
/-! SUPPORT. Tests: the well-formedness smoke test, the manual's worked examples (every expected figure is the manual's), and
for each statement of Certificates/Slice0/Obligations.lean the states and operands that meet its hypotheses, at the
boundaries of its clauses. -/

set_option Elab.async false

namespace Sys2Proof.Tests

open Machine

/-- The motor part of 03_drum_spin.md's first example. -/
def motor1 : MotorPart := ⟨40000, 130000, 48, 8, true⟩
/-- ROUTINE, 90 rpm, S = 1,024, pitch 4, length 100, FM, POSITIVE, 10 phasing lines, 2 attempts, 1 destination. -/
def header1 : Header := ⟨7, 0, 1, 90, 1024, 4, 100, 0, 0, 10, 2, 1, 0⟩
/-- Order `n` in state `st`, ROUTINE at 90 rpm, bound to mount 1, one destination (station 3). -/
def order1 (n : Nat) (st : OrderState) (d : DestResult) : Order :=
  { newOrder n header1 [3#8] with state := st, mount := 1, lines := 25, dests := [⟨3, d⟩] }

/-- The state after reset with the order table `t`. -/
def withTable (t : List Order) : State := { State.reset with manager := { State.reset.manager with table := t } }

/-- An enabled station for 60 and 90 rpm, FM. -/
def station (name : String) (a : Address) : StationEntry :=
  .enabled ⟨name.toList, a, true, true, false, true, false⟩

/-! ## Well-formedness -/
theorem test_wellFormed_refuses_long_payload :
    (Instr.status 0 0#8 (List.replicate 61 0#8)).wellFormed = false
      ∧ (Instr.status 0 0#8 (List.replicate 60 0#8)).wellFormed = true := by decide

theorem test_wellFormed_refuses_long_rest :
    (Instr.calRunSteps 0 0#8 (List.replicate 60 0#8)).wellFormed = false
      ∧ (Instr.calRunSteps 0 0#8 (List.replicate 59 0#8)).wellFormed = true := by decide

theorem test_wellFormed_refuses_known_kind :
    (Instr.unknownKind 0 0#8 0x13#8 []).wellFormed = false ∧ (Instr.unknownKind 0 0#8 0x14#8 []).wellFormed = true
      ∧ (Instr.unknownKind 0 0#8 0x00#8 []).wellFormed = true := by decide

/-! ## The worked examples of the manual -/

/-- 11_host_link_and_messages.md, "three requests in a burst". -/
theorem test_status_frame :
    Frame.bytes ⟨0x01#8, 0#8, []⟩ = [0xA5#8, 0x00#8, 0x01#8, 0x00#8, 0xFF#8, 0xAD#8] := by decide +kernel

/-- 03_drum_spin.md, "feed-forward and feasibility". -/
theorem test_feedForward :
    feedForward motor1 60 = 1733 ∧ feedForward motor1 90 = 2533
      ∧ feedForward motor1 120 = 3333 := by decide

theorem test_feasible :
    feedForward ⟨40000, 70000, 48, 8, true⟩ 90 = 5200 ∧ feasible ⟨40000, 70000, 48, 8, true⟩ 60 = true
      ∧ feasible ⟨40000, 70000, 48, 8, true⟩ 90 = false ∧ feedForward ⟨70000, 160000, 48, 8, true⟩ 60 = 933 := by decide

theorem test_speedOf : speedOf 1500000 = 40000 ∧ speedOf 461538 = 130000 := by decide

/-- The drum SPINNING_UP toward 90 rpm. -/
def spun (trim : Trim) (integral : Int) : Drum :=
  { State.reset.drum with
    state := .spinningUp, target := 90, dff := some 2533, drive := 2533, integral := integral, trim := trim }

/-- 03_drum_spin.md, "spin-up, trim and drift at 90 rpm": pulses 2 to 4, then pulse 8. -/
theorem test_loop_pulses :
    (Drum.loopStep motor1 State.reset.settings 667000 0 (spun .none 0)).drive = 2629
      ∧ (Drum.loopStep motor1 State.reset.settings 667000 0 (spun .none 0)).integral = 3
      ∧ (Drum.loopStep motor1 State.reset.settings 666700 0 (spun .none 3)).drive = 2545
      ∧ (Drum.loopStep motor1 State.reset.settings 666650 0 (spun .none 3)).drive = 2532
      ∧ (Drum.loopStep motor1 State.reset.settings 666720 0 (spun .slower 3)).drive = 2547 := by
  decide

theorem test_trim_and_lock :
    targetPeriod State.reset.settings (spun .slower 0) = 666680 ∧ lockError 666720 666667 = 79
      ∧ lockError 666700 666667 = 49 ∧ loopError 666650 666667 = -25 ∧ loopError 666667 666680 = -19 := by decide

/-- The curve of 06_picture_arithmetic.md, "one sample through the chain". -/
def curve1 : List Nat :=
  [0, 180, 380, 600, 830, 1070, 1320, 1580, 1840, 2110, 2400, 2700, 3000, 3300, 3600, 3880, 4095]

/-- 06_picture_arithmetic.md, "one sample through the chain" and "the limits". -/
theorem test_pixel :
    normalise (darkSubtract 2600 180) 4659 = 2753 ∧ pixel 180 4659 false curve1 2600 = 2626
      ∧ pixel 180 4659 true curve1 2600 = 1131 ∧ pixel 180 4849 false curve1 2600 = 2757
      ∧ pixel 180 4659 false curve1 150 = 0 ∧ pixel 180 4659 false curve1 4000 = 4094 := by decide

theorem test_carrier :
    [2626, 1131, 4094, 0, 2, 3, 2047, 2048, 4092, 4095].map (fmHz State.reset.settings)
        = [2013, 1721, 2300, 1500, 1500, 1501, 1900, 1900, 2299, 2300]
      ∧ [2626, 0, 2048, 4092, 4095].map (amStep State.reset.settings) = [163, 24, 132, 240, 240] := by decide

theorem test_falling_segment :
    curveValue [0, 0, 0, 0, 0, 0, 2000, 1700, 0, 0, 0, 0, 0, 0, 0, 0, 0] 1640 = 1878
      ∧ curveValue [0, 0, 0, 0, 0, 0, 2000, 1700, 0, 0, 0, 0, 0, 0, 0, 0, 0] 1791 = 1701 := by decide

/-- 04_calibration.md, R64 and its two examples. -/
theorem test_gain : [4095, 3600, 2048, 512, 3459].map gainFor = [4096, 4659, 8190, 32760, 4849] := by decide

theorem test_tablet :
    tabletCurve [(300, 0), (900, 700), (1800, 1900), (2900, 3100), (3800, 4000)]
      = [0, 0, 247, 546, 865, 1207, 1548, 1889, 2171, 2450, 2729, 3008, 3272, 3528, 3784, 4000, 4000] := by decide

theorem test_tablet_reversed :
    tabletKnot [(300, 4000), (900, 3100), (1800, 1900), (2900, 700), (3800, 0)] 1024 = 2935 := by decide

theorem test_notMonotonic : firstNotRising 2 [300, 900, 1800, 1810, 3800] = some 4 := by decide

/-- 06_picture_arithmetic.md, "a phasing line at 90 rpm". -/
theorem test_phasing_line :
    lineTime 90 = 666667 ∧ valueStart 666667 1024 32 = 20833 ∧ valueStart 666667 1024 64 = 41666
      ∧ positionAt 666667 1024 20832 = 31 ∧ positionAt 666667 1024 20833 = 32 := by decide

/-- The slip of order 84 (10_receipt_slips.md, "the slip of order 84"). -/
def order84 : Order :=
  { order1 84 .finished .clean with
    result := some .partialResult
    dests := [⟨3, .clean⟩, ⟨5, .busy⟩]
    counts := ⟨25, 0, 0, 0, 1⟩
    accepted := some 50485
    started := some 50530
    ended := some 50584
    queue := .ended 450
    prepare := .ended 110
    defer := .ended 25
    picture := .ended 410
    confirm := .ended 23 }

def bureau : State :=
  { State.reset with
    directory := (State.reset.directory.set 2 (station "HARBOR POST" (.loop 417))).set 4
      (station "VALE COURIER" (.loop 2230))
    clock := some ⟨50584, "1987-03-14".toList, false, 0⟩ }

theorem test_slip_of_order_84 :
    (composeSlip order84 bureau).text = [
      "PTC-41       NO 84".toList, "1987-03-14  14:03:04".toList, "PARTIAL".toList, "HARBOR POST  CLEAN".toList,
      "VALE COURIER BUSY".toList, "LINES 25/25".toList, "REPEATS 0 RESCANS 0".toList, "FLAGGED 1 EXTRA 0".toList,
      "QUEUE 45.0".toList, "PREP 11.0 (2.5)".toList, "PICT 41.0 CONF 2.3".toList, "END".toList] := by decide +kernel

theorem test_slip_rows :
    slipRows false (composeSlip order84 bureau) = 288 := by decide +kernel

theorem test_selective_call : ([0, 1, 2, 3].map (callDigit 417)) = [0, 4, 1, 7] ∧ callSignal 417 399999 = .tone 800
  ∧ callSignal 417 400000 = .silence ∧ callSignal 417 460000 = .tone 400 ∧ callSignal 417 640000 = .tone 520
  ∧ callSignal 417 1000000 = .tone 610 ∧ callSignal 417 1120000 = .silence := by decide

theorem test_dialling : dialSignal [.digit 9, .star] 0 = .dtmf 852 1477 ∧ dialSignal [.digit 9, .star] 80000 = .silence
  ∧ dialSignal [.digit 9, .star] 160000 = .dtmf 941 1209 := by decide

/-- No row of the opcode table gives bits, so no word spells a command. -/
theorem test_no_word_spells_a_command :
    decodeTableWord 16 0x00A5 = none ∧ State.reset.withFetchWord 16 0x00A5 = State.reset :=
  ⟨rfl, rfl⟩

/-- 11_host_link_and_messages.md, "three requests in a burst": the STATUS reply is sent at once, as a frame of 62 bytes. -/
theorem test_status_reply_is_sent_at_once :
    (match exec (.status 1042 0#8 []) State.reset with
      | .next t => t.link.tx.map fun x => (x.isReply, x.frame.kind, x.frame.bytes.length)
      | _ => none) = some (true, 0x81#8, 62) := by decide +kernel

/-! ## Witnesses: states and operands that meet the hypotheses of each statement -/

theorem linkFree {s : State} (h : s.link = State.reset.link) : s.LinkFree := by
  simp [State.LinkFree, h, State.reset]

def withLink (l : Link) : State := { State.reset with now := 1000000, link := l }

/-- A held STATUS request, its reply being sent since moment 0. -/
def busy : Link :=
  { State.reset.link with holding := [⟨0x01#8, 5#8, []⟩], tx := some ⟨⟨0x01#8, 5#8, [0#8]⟩, true, 0⟩ }

def notice1 : Notice := .slip .paperBack 0 false 0 .present 0

/-- A notice being sent since moment 0; nothing held. -/
def telling : Link := { State.reset.link with tx := some ⟨notice1.frame, false, 0⟩ }

theorem witness_StepRunsFront :
    ({ State.reset with pending := [.stopKey 3, .doorOpen 0] } : State).pending = .stopKey 3 :: [.doorOpen 0]
      ∧ State.reset.pending = [] := by decide

theorem witness_RequestRowIsItsFrame :
    (Instr.status 6 0#8 []).frame = some (6, ⟨0x01#8, 0#8, []⟩) ∧ State.reset.link.receiver = .hunt
      ∧ State.reset.link.gapTimer = none
      ∧ ([(1, 0xA5#8), (1, 0#8), (1, 1#8), (1, 0#8), (1, 0xFF#8), (1, 0xAD#8)] : List (Nat × Byte)).map Prod.snd
          = Frame.bytes ⟨0x01#8, 0#8, []⟩
      ∧ (([(1, 0xA5#8), (1, 0#8), (1, 1#8), (1, 0#8), (1, 0xFF#8), (1, 0xAD#8)] : List (Nat × Byte)).map
          Prod.fst).sum = 6 := by
  decide +kernel

theorem witness_RequestRowIsItsFrame_longest (k : Byte) :
    (Instr.unknownKind 0 0#8 k (List.replicate 60 0#8)).frame = some (0, ⟨k, 0#8, List.replicate 60 0#8⟩)
      ∧ (List.replicate 60 (0#8 : Byte)).length ≤ 60 := ⟨rfl, by decide⟩

theorem witness_ReceiverActsOnBytes :
    let l := State.reset.link
    (l.receiver = .hunt ∧ (0xA4#8 : Byte) ≠ 0xA5#8)
      ∧ (({ l with receiver := .awaitLength } : Link).receiver = .awaitLength ∧ (60#8 : Byte).toNat ≤ 60
        ∧ 60 < (61#8 : Byte).toNat)
      ∧ ({ l with receiver := .inFrame [0#8] 4 } : Link).receiver = .inFrame [0#8] (2 + 2)
      ∧ ({ l with receiver := .inFrame [1#8, 0#8] 2 } : Link).receiver = .inFrame [1#8, 0#8] (0 + 2)
      ∧ (({ l with receiver := .inFrame [0#8, 1#8, 0#8, 0xFF#8] 1 } : Link).receiver
          = .inFrame ([0#8, 1#8, 0#8] ++ [0xFF#8]) 1 ∧ crcBytes [0#8, 1#8, 0#8] ≠ [0xFF#8, 0xAC#8])
      ∧ ({ l with gapTimer := some 1010000 } : Link).gapTimer = some 1010000 ∧ 1010000 ≤ (withLink l).now + 10000 := by
  decide +kernel

theorem witness_HoldingBufferTakesTwo :
    (Instr.status 0 9#8 []).frame = some (0, ⟨0x01#8, 9#8, []⟩)
      ∧ ({ busy with holding := [⟨0x01#8, 5#8, []⟩, ⟨0x0F#8, 6#8, []⟩] } : Link).holding.length = 2
      ∧ busy.holding = [⟨0x01#8, 5#8, []⟩] ∧ busy.tx = some ⟨⟨0x01#8, 5#8, [0#8]⟩, true, 0⟩
      ∧ ({ busy with tx := none, replySlot := some ⟨0x81#8, 5#8, [0#8]⟩ } : Link).replySlot.isSome
      ∧ ({ busy with tx := none, restart := some true } : Link).restart.isSome := by decide

theorem witness_RequestsAreChecked :
    (withLink State.reset.link).LinkFree ∧ (Instr.unknownKind 0 0#8 0x00#8 []).frame = some (0, ⟨0x00#8, 0#8, []⟩)
      ∧ 0x13 < (0x14#8 : Byte).toNat
      ∧ (Instr.status 0 0#8 [1#8]).frame = some (0, ⟨0x01#8, 0#8, [1#8]⟩) ∧ 1 ≤ (0x01#8 : Byte).toNat
      ∧ lengthAgrees 0x01#8 [1#8] = false ∧ (Instr.restart 0 0#8 []).frame = some (0, ⟨0x13#8, 0#8, []⟩)
      ∧ (0x13#8 : Byte).toNat ≤ 0x13 ∧ lengthAgrees 0x13#8 [] = false :=
  ⟨linkFree rfl, by decide⟩

/-- A notice can be on its way while the link has no request in hand. -/
theorem witness_linkFree_while_a_notice_is_sent : (withLink telling).LinkFree := by
  simp [State.LinkFree, withLink, telling, State.reset]

theorem witness_TransmitterChoosesNext :
    telling.tx = some ⟨notice1.frame, false, 0⟩
      ∧ (let time := (notice1.frame.payload.length + 6) * 10000000 / 57600
        time = 2256 ∧ 2255 < 0 + time ∧ 0 + time ≤ 2256)
      ∧ ({ telling with replySlot := some ⟨0x81#8, 5#8, [0#8]⟩ } : Link).replySlot = some ⟨0x81#8, 5#8, [0#8]⟩
      ∧ (telling.replySlot = none ∧ telling.holding = [])
      ∧ (busy.replySlot = none ∧ busy.restart = none ∧ busy.holding = [⟨0x01#8, 5#8, []⟩])
      ∧ (let l := { telling with restart := some false, holding := [⟨0x13#8, 5#8, [0#8]⟩] }
        l.replySlot = none ∧ l.restart.isSome ∧ l.holding = ⟨0x13#8, 5#8, [0#8]⟩ :: []) := by decide

theorem witness_NextRequestIsServed :
    (Instr.orderList 0 6#8 []).frame = some (0, ⟨0x0F#8, 6#8, []⟩)
      ∧ (let l := { busy with holding := [⟨0x01#8, 5#8, []⟩, ⟨0x0F#8, 6#8, []⟩] }
        l.tx = some ⟨⟨0x01#8, 5#8, [0#8]⟩, true, 0⟩ ∧ 0 + Frame.time ⟨0x01#8, 5#8, [0#8]⟩ ≤ (withLink l).now + 0
          ∧ l.replySlot = none ∧ l.restart = none) := by decide

theorem witness_NoticeQueueHolds24 :
    (State.reset.link.tx = none ∧ State.reset.link.replySlot = none ∧ State.reset.link.holding = []
        ∧ State.reset.link.notices = [])
      ∧ (telling.tx ≠ none ∧ ({ telling with notices := List.replicate 23 notice1 } : Link).notices.length < 24)
      ∧ ({ telling with notices := List.replicate 24 notice1 } : Link).notices.length = 24
      ∧ (({ busy with tx := none } : Link).replySlot = none ∧ busy.holding ≠ []) := by decide

theorem witness_StatusReportsAndClears :
    State.reset.LinkFree ∧ State.reset.clock = none ∧ ("1987-03-14".toList).length = 10
      ∧ ({ State.reset with clock := some ⟨0, "1987-03-14".toList, true, 0⟩ } : State).clock
        = some ⟨0, "1987-03-14".toList, true, 0⟩ :=
  ⟨linkFree rfl, by decide⟩

/-- An order PREPARING stands in the table. -/
def running1 : State := withTable [order1 84 .preparing .pending]

def settingsBad1 : List Byte := u16 1199 ++ (State.reset.settings.bytes).drop 2

theorem witness_SettingsSetReplacesTheRecord :
    running1.LinkFree ∧ State.reset.LinkFree
      ∧ running1.runningOrder = some (order1 84 .preparing .pending) ∧ State.reset.runningOrder = none
      ∧ settingsBad1.length = 29 ∧ (SettingsFields.ofPayload settingsBad1).inRange 1 = false
      ∧ (let f := SettingsFields.ofPayload (State.reset.settings.bytes.set 17 0x1F#8)
        f.inRange 12 = false ∧ ∀ j, 1 ≤ j → j < 12 → f.inRange j = true)
      ∧ (let f := SettingsFields.ofPayload State.reset.settings.bytes
        (∀ i, 1 ≤ i → i ≤ 12 → f.inRange i = true) ∧ f.slipMode = 1) := by
  refine ⟨linkFree rfl, linkFree rfl, by decide, by decide, by decide, by decide, ⟨by decide, ?_⟩, ?_, by decide⟩
  · intro j h1 h2
    interval_cases j <;> decide
  · intro j h1 h2
    interval_cases j <;> decide

theorem witness_SettingsRoundTrip :
    State.reset.settings.InRange
      ∧ Settings.InRange ⟨1400, 1800, 255 - 32, 255, 500, 250, 600, 3600, 10, false, false, List.replicate 12 '~'⟩ := by
  simp [Settings.InRange, State.reset]

/-- Order 84 FINISHED and order 85 QUEUED. -/
def finished1 : State := withTable [order1 84 .finished .clean, order1 85 .queued .pending]

theorem numberInv_finished1 : finished1.NumberInv := by
  unfold State.NumberInv
  decide

theorem witness_SlipModeOffRetires :
    finished1.LinkFree ∧ finished1.NumberInv ∧ finished1.settings.slipMode = true ∧ finished1.runningOrder = none
      ∧ ({ State.reset.settings with slipMode := false } : Settings).slipMode = false ∧ 1 < (2#8 : Byte).toNat
      ∧ (let p := ({ State.reset.settings with slipMode := false } : Settings).bytes
        p.length = 29 ∧ (∀ i, 1 ≤ i → i ≤ 12 → (SettingsFields.ofPayload p).inRange i = true)
          ∧ (SettingsFields.ofPayload p).slipMode = 0) := by
  refine ⟨linkFree rfl, numberInv_finished1, by decide, by decide, by decide, by decide, by decide, ?_, by decide⟩
  intro j h1 h2
  interval_cases j <;> decide

theorem witness_ClockIsSetAndSteps :
    State.reset.LinkFree
      ∧ (let p := u32 86400 ++ textBytes "1987-03-14".toList
        p.length = 14 ∧ 86399 < longAt p 0)
      ∧ (let p := u32 86399 ++ (0x7F#8 :: textBytes "987-03-14".toList)
        p.length = 14 ∧ longAt p 0 ≤ 86399 ∧ ∃ b ∈ p.drop 4, b.toNat < 0x20 ∨ 0x7E < b.toNat)
      ∧ (let p := u32 86399 ++ (0x20#8 :: textBytes "987-03-1~".toList)
        p.length = 14 ∧ longAt p 0 ≤ 86399 ∧ ∀ b ∈ p.drop 4, 0x20 ≤ b.toNat ∧ b.toNat ≤ 0x7E)
      ∧ (∃ c : Clock, ({ State.reset with clock := some ⟨86398, [], false, 1000000⟩ } : State).clock = some c
          ∧ c.tickAt ≤ State.reset.now + 1000000 ∧ c.tod < 86399)
      ∧ (∃ c : Clock, ({ State.reset with clock := some ⟨86399, [], false, 1000000⟩ } : State).clock = some c
          ∧ c.tickAt ≤ State.reset.now + 1000000 ∧ c.tod = 86399) :=
  ⟨linkFree rfl, by decide, by decide, by decide, ⟨_, rfl, by decide⟩, ⟨_, rfl, by decide⟩⟩

/-- The fields of a STATION_LOAD for station 9 with a call code (02_station_directory.md, "a code change"). -/
def load9 (code : Nat) : List Byte :=
  entryBytes 9 (.enabled ⟨"EAST LEDGER".toList, .loop code, false, true, false, true, false⟩)

/-- Station 3 has code 0417, and order 84, QUEUED, names station 3; order 62 names station 9. -/
def directory1 : State :=
  { withTable [order1 84 .queued .pending, { order1 62 .queued .pending with dests := [⟨9, .pending⟩] }] with
    directory := (State.reset.directory.set 2 (station "HARBOR POST" (.loop 417))).set 8 (station "EAST LEDGER" (.loop 950)) }

theorem witness_StationLoadAndRead :
    directory1.LinkFree ∧ (load9 417).length = 21 + byteAt (load9 417) 18 ∧ 19 ≤ (load9 417).length
      ∧ (StationFields.ofPayload (load9 417)).fault directory1.directory = some 9
      ∧ (StationFields.ofPayload (load9 418)).fault directory1.directory = none
      ∧ directory1.manager.table.find? (Order.names (StationFields.ofPayload (load9 418)).number)
          = some { order1 62 .queued .pending with dests := [⟨9, .pending⟩] }
      ∧ (∀ o ∈ State.reset.manager.table, Order.names (StationFields.ofPayload (load9 418)).number o = false)
      ∧ ((0#8 : Byte).toNat = 0 ∧ 32 < (33#8 : Byte).toNat ∧ 1 ≤ (1#8 : Byte).toNat ∧ (32#8 : Byte).toNat ≤ 32) :=
  ⟨linkFree rfl, by decide +kernel⟩

theorem witness_StationEntryRoundTrip :
    let st : Station := ⟨List.replicate 12 '~', .loop 9999, true, false, false, false, true⟩
    let ds : List DialSymbol := List.replicate 20 .hash
    (1 ≤ 32 ∧ 1 ≤ st.name.length ∧ st.name.length ≤ 12 ∧ (∀ c ∈ st.name, 0x20 ≤ c.toNat ∧ c.toNat ≤ 0x7E))
      ∧ 9999 ≤ 9999 ∧ (1 ≤ ds.length ∧ ds.length ≤ 20) ∧ (st.rpm60 || st.rpm90 || st.rpm120) = true
      ∧ (st.fm || st.am) = true := by simp

/-! ### Calibration and drum requests -/

/-- A CAL_LOAD of both parts: s1 40,000, s2 130,000, Kp 48, Ki 8, o 180, W_raw 3,780, g 4,659. -/
def calLoad1 (selector s2 : Nat) : List Byte :=
  u8 selector ++ u32 40000 ++ u32 s2 ++ u16 48 ++ u16 8 ++ u16 180 ++ u16 3780 ++ u16 4659

def curveLoad1 (t3 t4 : Nat) : List Byte := [0, 180, 380, t3, t4, 1070, 1320, 1580, 1840, 2110, 2400, 2700, 3000, 3300,
  3600, 3880, 4095].flatMap u16

def phasing1 : State := withTable [order1 84 .phasing .ready]

theorem witness_CalibrationLoadsAndReads :
    phasing1.LinkFree ∧ State.reset.LinkFree
      ∧ (let sending (s : State) :=
          s.manager.table.find? fun o => o.state == .phasing || o.state == .sending || o.state == .ending
        sending phasing1 = some (order1 84 .phasing .ready) ∧ sending State.reset = none)
      ∧ ((calLoad1 3 130000).length = 19 ∧ 2 < (CalFields.ofPayload (calLoad1 3 130000)).selector)
      ∧ (let f := CalFields.ofPayload (calLoad1 2 59999)
        f.selector ≤ 2 ∧ f.fault.isSome)
      ∧ (∀ k ∈ [0, 1, 2], (CalFields.ofPayload (calLoad1 k 130000)).selector ≤ 2
          ∧ (CalFields.ofPayload (calLoad1 k 130000)).fault = none)
      ∧ (CalFields.ofPayload (calLoad1 0 60000)).fault = none
      ∧ (let p := curveLoad1 4095 4096
        p.length = 34 ∧ 4095 < wordAt p (2 * 4) ∧ ∀ j, j < 4 → wordAt p (2 * j) ≤ 4095)
      ∧ (let p := curveLoad1 4095 0
        p.length = 34 ∧ ∀ j, j < 17 → wordAt p (2 * j) ≤ 4095)
      ∧ 2 < (3#8 : Byte).toNat :=
  ⟨linkFree rfl, linkFree rfl, by decide +kernel⟩

/-- The part with a motor part valid and its drum in a state, turning at 60 rpm when it turns. -/
def drumAt (st : DrumState) : State :=
  { State.reset with motor := motor1, drum := { State.reset.drum with state := st, target := 60, dff := some 1733 } }

/-- A STEPS payload: position 1,200 and three steps, the second from `first` to 349. -/
def steps1 (first : Nat) : List Byte :=
  3#8 :: (u16 1200 ++ u8 3 ++ u32 (64 * 4194304 + 199 * 4096) ++ u32 (first * 4194304 + 349 * 4096 + 700)
    ++ u32 (400 * 4194304 + 1023 * 4096 + 4095))

def measuring1 : CalRun := newCalRun .motor [] 0 0

theorem witness_CalRunChecks :
    (∀ p ∈ [[0#8], [1#8], [2#8], steps1 250], lengthAgrees 0x0A#8 p = true ∧ p.length ≤ 60 ∧ byteAt p 0 ≤ 3)
      ∧ (Instr.calRunSteps 5 0#8 (steps1 250).tail).frame = some (5, ⟨0x0A#8, 0#8, steps1 250⟩)
      ∧ (Instr.calRunMotor 5 0#8 []).frame = some (5, ⟨0x0A#8, 0#8, [0#8]⟩)
      ∧ State.reset.LinkFree ∧ running1.LinkFree
      ∧ (byteAt (steps1 350) 0 = 3 ∧ (stepsFault (steps1 350)).isSome ∧ lengthAgrees 0x0A#8 (steps1 350) = true)
      ∧ stepsFault (steps1 250) = none
      ∧ running1.runningOrder = some (order1 84 .preparing .pending)
      ∧ (State.reset.runningOrder = none ∧ State.reset.cal = none ∧ State.reset.panel.door = .closed
        ∧ State.reset.drum.state ≠ .fault ∧ State.reset.motor.valid = false ∧ byteAt [1#8] 0 ≠ 0)
      ∧ ({ State.reset with cal := some measuring1 } : State).cal.isSome
      ∧ ({ State.reset.panel with door := .opened } : Panel).door = .opened ∧ (drumAt .fault).drum.state = .fault :=
  ⟨by decide, by decide, by decide, linkFree rfl, linkFree rfl, by decide +kernel⟩

/-- A valid motor part for which 60 rpm is not feasible: its D1 turns at 120 rpm. -/
def fastMotor : MotorPart := ⟨120000, 140000, 48, 8, true⟩

/-- R69 steps 8 to 11: 60 rpm not feasible for each kind of run that asks for it; then, for STEPS, the carriage in FAULT,
no mount present, the scan part not valid. -/
theorem witness_CalRunChecks_lastSteps :
    let ask (m : MotorPart) (d : DrumState) (c : CarriageState) (present : Bool) : State :=
      { drumAt d with
        motor := m
        carriage := { State.reset.carriage with state := c }
        panel := { State.reset.panel with door := .closed, mountPresent := present } }
    (∀ s ∈ [ask fastMotor .stopped .fault false, ask motor1 .stopped .fault false, ask motor1 .locked .home false,
        ask motor1 .drift .home true], s.runningOrder = none ∧ s.cal = none ∧ s.panel.door = .closed
          ∧ s.drum.state ≠ .fault ∧ s.motor.valid = true ∧ s.scanPart.valid = false)
      ∧ (ask fastMotor .stopped .fault false).LinkFree
      ∧ feasible fastMotor 60 = false ∧ feasible motor1 60 = true
      ∧ ((ask fastMotor .drift .home true).drum.state ≠ .spinningUp
        ∧ (ask fastMotor .drift .home true).drum.state ≠ .locked)
      ∧ ((ask motor1 .stopped .fault false).carriage.state = .fault
        ∧ (ask motor1 .locked .home false).carriage.state ≠ .fault
        ∧ (ask motor1 .locked .home false).panel.mountPresent = false
        ∧ (ask motor1 .drift .home true).panel.mountPresent = true) :=
  ⟨by decide, linkFree rfl, by decide⟩

theorem witness_MotorAndDarkRunsBegin :
    (∀ st ∈ [DrumState.stopped, .locked, .drift, .spinningDown], (drumAt st).run = none
        ∧ (drumAt st).runningOrder = none ∧ (drumAt st).cal = none ∧ (drumAt st).panel.door = .closed
        ∧ (drumAt st).drum.state ≠ .fault ∧ (drumAt st).motor.valid = true ∧ (drumAt st).drum.noLock = false)
      ∧ (drumAt .locked).LinkFree ∧ (drumAt .stopped).LinkFree ∧ feasible motor1 60 = true
      ∧ (let l := { State.reset.lamp with offTime := some 5 }
        l.state = .off ∧ ∀ t, l.offTime = some t → t + 1000000 ≤ 5 + 1000000)
      ∧ ¬∀ t, (({ State.reset.lamp with offTime := some 6 } : Lamp).offTime = some t → t + 1000000 ≤ 5 + 1000000) := by
  refine ⟨by decide, linkFree rfl, linkFree rfl, by decide, ⟨by decide, ?_⟩, ?_⟩
  · rintro t ⟨⟩
    exact le_rfl
  · intro h
    exact absurd (h 6 rfl) (by decide)

/-- Ready to measure a tablet: mount present, scan part valid, lamp READY, drum LOCKED at 60 rpm, carriage HOME. -/
def tablet1 (c : CarriageState) : State :=
  { drumAt .locked with
    panel := ⟨.closed, .engaged, 1, true⟩
    scanPart := ⟨180, 3780, 4659, true, true, true⟩
    lamp := { State.reset.lamp with state := .ready }
    carriage := { State.reset.carriage with state := c, position := some 0, stepAt := none } }

theorem witness_WhiteAndStepsRunsBegin :
    (∀ s ∈ [drumAt .stopped, drumAt .spinningDown, tablet1 .home, tablet1 .returning, tablet1 .homing], s.run = none
        ∧ s.runningOrder = none ∧ s.cal = none ∧ s.panel.door = .closed ∧ s.motor.valid = true ∧ s.lamp.calReq = false
        ∧ feasible s.motor 60 = true)
      ∧ (tablet1 .home).LinkFree ∧ (drumAt .stopped).LinkFree
      ∧ ((drumAt .stopped).lamp.state = .off ∧ (drumAt .stopped).lamp.darkHold = false)
      ∧ (let s := tablet1 .home
        s.lamp.state = .ready ∧ s.drum.state = .locked ∧ s.drum.noLock = false ∧ s.drum.target = 60
          ∧ s.panel.mountPresent = true ∧ s.scanPart.valid = true ∧ s.carriage.state = .home
          ∧ s.carriage.position = some 0)
      ∧ (lengthAgrees 0x0A#8 (steps1 250) = true ∧ (steps1 250).tail.length ≤ 59 ∧ stepsFault (steps1 250) = none
        ∧ 2 ≤ wordAt (steps1 250) 1)
      ∧ (let p := (steps1 250).set 1 0#8 |>.set 2 2#8
        stepsFault p = none ∧ wordAt p 1 = 2)
      ∧ (let p := (steps1 250).set 1 0#8 |>.set 2 0#8
        lengthAgrees 0x0A#8 p = true ∧ stepsFault p = none ∧ wordAt p 1 = 0)
      ∧ ({ (tablet1 .home).drum with target := 90 } : Drum).target ≠ 60 :=
  ⟨by decide, linkFree rfl, linkFree rfl, by decide +kernel⟩

theorem witness_DrumSpinTurnsAndStops :
    (drumAt .locked).LinkFree ∧ running1.LinkFree ∧ (drumAt .locked).run = none
      ∧ (∀ rpm : Nat, rpm ∈ [1, 59, 61, 121, 255] → rpm ≠ 0 ∧ ¬(rpm = 60 ∨ rpm = 90 ∨ rpm = 120))
      ∧ (running1.runningOrder = some (order1 84 .preparing .pending) ∧ running1.run = none)
      ∧ ((60#8 : Byte).toNat = 60 ∧ (90#8 : Byte).toNat = 90 ∧ (120#8 : Byte).toNat = 120 ∧ (0#8 : Byte).toNat = 0)
      ∧ (State.reset.runningOrder = none ∧ ({ State.reset with cal := some measuring1 } : State).cal.isSome
        ∧ State.reset.cal = none ∧ State.reset.motor.valid = false ∧ State.reset.panel.door = .closed)
      ∧ ({ State.reset.panel with door := .opened } : Panel).door = .opened
      ∧ (∀ st ∈ [DrumState.stopped, .spinningUp, .locked, .drift, .spinningDown, .fault],
        (drumAt st).runningOrder = none ∧ (drumAt st).cal = none ∧ (drumAt st).panel.door = .closed
          ∧ (drumAt st).motor.valid = true ∧ feasible (drumAt st).motor 60 = true ∧ (drumAt st).drum.target = 60)
      ∧ feasible ⟨40000, 70000, 48, 8, true⟩ 90 = false :=
  ⟨linkFree rfl, linkFree rfl, by decide, by decide, by decide⟩

/-! ### Orders -/

theorem numberInv_reset : State.reset.NumberInv := by
  unfold State.NumberInv
  decide

/-- The next order number 65535 is held by an order of the table, so the next one is assigned. -/
def wrapping1 : State := { State.reset with manager := ⟨[order1 65535 .queued .pending], .running, 65535, none⟩ }

theorem witness_NumbersAreAssigned : wrapping1.NumberInv ∧ wrapping1.manager.assign = 1 := by
  unfold State.NumberInv
  decide

/-- An ORDER_BEGIN of `header1` with destination count 1, caption length `caption` and the content bytes given. -/
def begin1 (last : Byte) (rpm caption : Nat) (content : List Byte) : List Byte :=
  u32 7 ++ u16 0 ++ u8 1 ++ u8 rpm ++ u16 1024 ++ u8 4 ++ u16 100 ++ u8 0 ++ u8 0 ++ u8 10 ++ u8 2 ++ u8 1 ++ u8 caption
    ++ [last] ++ content

/-- Order 84 is ASSEMBLING with two fragments; its timer is due at 10 s. -/
def assembling1 (fragments : Nat) : State :=
  { State.reset with
    manager := ⟨[{ order1 84 .assembling .pending with fragments := fragments }], .running, 85, some 10000000⟩ }

theorem witness_OrderBeginJoinsTheTable :
    State.reset.LinkFree ∧ (assembling1 2).LinkFree
      ∧ (begin1 0#8 90 30 []).length = 20 ∧ (begin1 0#8 90 38 (3#8 :: List.replicate 39 0#8)).length = 60
      ∧ (assembling1 2).assemblingOrder = some { order1 84 .assembling .pending with fragments := 2 }
      ∧ (withTable (List.replicate 16 (order1 84 .queued .pending))).assemblingOrder = none
      ∧ 16 ≤ (List.replicate 16 (order1 84 .queued .pending)).length
      ∧ (withTable (List.replicate 15 (order1 84 .queued .pending))).manager.table.length < 16
      ∧ byteAt (begin1 0#8 90 30 []) 19 = 0 :=
  ⟨linkFree rfl, linkFree rfl, by decide⟩

/-- The part ready for orders at 90 rpm to station 3, the manager HALTED, no mount present. -/
def office1 : State :=
  { State.reset with
    manager := { State.reset.manager with state := .halted }
    motor := motor1
    scanPart := ⟨180, 3780, 4659, true, true, true⟩
    directory := State.reset.directory.set 2 (station "HARBOR POST" (.loop 417)) }

theorem witness_OrderIsAcceptedOrRefused :
    office1.LinkFree ∧ office1.NumberInv ∧ office1.assemblingOrder = none ∧ office1.manager.table.length < 16
      ∧ (let p := begin1 1#8 90 0 [3#8]
        20 ≤ p.length ∧ p.length ≤ 60 ∧ byteAt p 19 ≠ 0
          ∧ validate (newOrder office1.manager.assign (Header.ofPayload p) (p.drop 20)) office1 = none
          ∧ office1.manager.state = .halted ∧ office1.panel.mountPresent = false ∧ office1.lamp.prewarm = false
          ∧ validate (newOrder 1 (Header.ofPayload p) (p.drop 20)) State.reset = some (.destDisabled, 1))
      ∧ (let p := begin1 1#8 90 30 [3#8]
        (newOrder 1 (Header.ofPayload p) (p.drop 20)).received
          ≠ (Header.ofPayload p).destCount + (Header.ofPayload p).captionLen)
      ∧ (let p := begin1 1#8 91 0 [3#8]
        let h := Header.ofPayload p
        (newOrder 1 h (p.drop 20)).received = h.destCount + h.captionLen ∧ h.firstOutOfRange = some 2
          ∧ h.inRange 2 = false ∧ h.inRange 1 = true) := by
  refine ⟨linkFree rfl, ?_, by decide +kernel⟩
  unfold State.NumberInv
  decide

/-- `office1` with stations 4 (LOOP), 5 (DIAL) and 6 (120 rpm AM only) enabled. -/
def office2 : State :=
  { office1 with
    directory :=
      ((office1.directory.set 3 (station "NORTH POST" (.loop 418))).set 4 (station "EXCHANGE" (.dial [.star]))).set 5
        (.enabled ⟨['A'], .loop 9, false, false, true, true, false⟩) }

/-- An ORDER_BEGIN with the last flag set, at `rpm`, for mount `mount`, to the stations given. -/
def begin2 (rpm mount : Nat) (stations : List Byte) : List Byte :=
  u32 7 ++ u16 mount ++ u8 1 ++ u8 rpm ++ u16 1024 ++ u8 4 ++ u16 100 ++ u8 0 ++ u8 0 ++ u8 10 ++ u8 2
    ++ u8 stations.length ++ u8 0 ++ [1#8] ++ stations

/-- R16 steps 3 to 7, each check at the first place where it can fail, and the order that the checks take. -/
theorem witness_OrderIsAcceptedOrRefused_checks :
    let check (s : State) (p : List Byte) := validate (newOrder 1 (Header.ofPayload p) (p.drop 20)) s
    (∀ p ∈ [begin2 90 0 [3#8], begin2 90 0 [3#8, 4#8, 33#8]],
        (Header.ofPayload p).firstOutOfRange = none
          ∧ (newOrder 1 (Header.ofPayload p) (p.drop 20)).received
            = (Header.ofPayload p).destCount + (Header.ofPayload p).captionLen)
      ∧ (check office2 (begin2 90 0 [0#8]) = some (.destUnknown, 1)
        ∧ check office2 (begin2 90 0 [3#8, 33#8]) = some (.destUnknown, 2)
        ∧ check office2 (begin2 90 0 [3#8, 32#8]) = some (.destDisabled, 2)
        ∧ check office2 (begin2 90 0 [3#8, 4#8, 3#8]) = some (.destDuplicate, 3)
        ∧ check office2 (begin2 90 0 [3#8, 6#8, 3#8]) = some (.destSpeed, 2))
      ∧ (check office2 (begin2 90 0 [5#8, 3#8]) = some (.networkMix, 2)
        ∧ check office2 (begin2 90 0 [3#8, 4#8, 5#8]) = some (.networkMix, 3)
        ∧ check office2 (begin2 90 0 [5#8]) = none)
      ∧ (office2.panel.mountCounter = 0 ∧ check office2 (begin2 90 2 [3#8]) = some (.mountInvalid, 0)
        ∧ check office2 (begin2 90 1 [3#8]) = none)
      ∧ (check { office2 with motor := State.reset.motor } (begin2 90 0 [3#8]) = some (.notCalibrated, 1)
        ∧ check { office2 with scanPart := State.reset.scanPart } (begin2 90 0 [3#8]) = some (.notCalibrated, 2)
        ∧ check { office2 with motor := ⟨40000, 70000, 48, 8, true⟩ } (begin2 90 0 [3#8]) = some (.range, 90)) := by
  decide +kernel

theorem witness_OrderIsAcceptedOrRefused_prewarm :
    let s : State := { office1 with panel := ⟨.closed, .engaged, 1, true⟩ }
    let p := begin2 90 0 [3#8]
    s.LinkFree ∧ s.NumberInv ∧ s.assemblingOrder = none
      ∧ validate (newOrder s.manager.assign (Header.ofPayload p) (p.drop 20)) s = none ∧ (Header.ofPayload p).mount = 0
      ∧ s.manager.state = .halted ∧ s.panel.mountPresent = true ∧ s.run = none ∧ s.lamp.prewarm = false
      ∧ s.lamp.state = .off ∧ s.lamp.darkHold = false ∧ s.lamp.offTime = none := by
  refine ⟨linkFree rfl, by unfold State.NumberInv; decide, by decide +kernel⟩

theorem witness_OrderPartsAreAppended :
    (assembling1 8).LinkFree ∧ (assembling1 7).LinkFree
      ∧ (let p := u16 84 ++ [0#8]
        3 ≤ p.length ∧ p.length ≤ 60 ∧ wordAt p 0 = 84 ∧ byteAt p 2 = 0)
      ∧ (u16 84 ++ [0#8] ++ List.replicate 57 1#8).length = 60
      ∧ (State.reset.assemblingOrder = none)
      ∧ (∃ o, (assembling1 8).assemblingOrder = some o ∧ o.number = 84 ∧ 8 ≤ o.fragments)
      ∧ (∃ o, (assembling1 7).assemblingOrder = some o ∧ o.number = 84 ∧ o.number ≠ 85 ∧ o.fragments < 8)
      ∧ ((assembling1 2).manager.assemblyTimer = some 10000000 ∧ 10000000 ≤ (assembling1 2).now + 10000000
        ∧ ∃ o, (assembling1 2).assemblingOrder = some o) :=
  ⟨linkFree rfl, linkFree rfl, by decide, by decide, by decide, ⟨_, rfl, by decide⟩, ⟨_, rfl, by decide⟩,
    by decide, by decide, ⟨_, rfl⟩⟩

/-- Order 84 is ASSEMBLING in the office, to two stations with a caption of 3 characters, with the content given. -/
def assembling2 (content : List Byte) : State :=
  { office2 with
    manager :=
      ⟨[{ newOrder 84 { header1 with destCount := 2, captionLen := 3 } content with fragments := 7 },
        order1 85 .queued .pending], .halted, 86, some 10000000⟩ }

/-- The last flag set: a whole order that is accepted, and one that names a station twice. -/
theorem witness_OrderPartsAreAppended_last :
    let s := assembling2 [3#8, 4#8]
    let p := u16 84 ++ [0xFF#8] ++ textBytes "ABC".toList
    let twice := assembling2 [3#8, 3#8]
    (∀ u ∈ [s, twice], (∃ o, u.assemblingOrder = some o ∧ o.number = wordAt p 0 ∧ o.fragments < 8))
      ∧ s.LinkFree ∧ s.NumberInv ∧ byteAt p 2 ≠ 0 ∧ p.length = 6
      ∧ s.manager.state = .halted ∧ s.panel.mountPresent = false ∧ s.lamp.prewarm = false
      ∧ (let whole (o : Order) : Order :=
          { o with fragments := 8, received := o.received + 3, content := o.content ++ p.drop 3 }
        (s.assemblingOrder.map fun o => validate (whole o) s) = some none
          ∧ (twice.assemblingOrder.map fun o => validate (whole o) twice) = some (some (.destDuplicate, 2))) := by
  refine ⟨?_, linkFree rfl, by unfold State.NumberInv; decide, by decide +kernel⟩
  intro u hu
  fin_cases hu <;> exact ⟨_, rfl, by decide⟩

/-- Eight slips are queued. -/
def fullSlips : SlipUnit := { State.reset.slips with queue := List.replicate 8 ⟨1, [], false⟩ }

theorem witness_QueuedOrderIsCancelled :
    (let t := [order1 84 .queued .pending, order1 85 .confirming .ready];
      ({ withTable t with slips := fullSlips } : State).LinkFree ∧ (withTable t).NumberInv
        ∧ (withTable t).panel.mountPresent = false ∧ (withTable t).lamp.prewarm = false
        ∧ (∀ o ∈ t, o.number ≠ 83) ∧ wordAt (u16 83) 0 = 83 ∧ (u16 83).length = 2
        ∧ (∃ o ∈ t, o.number = 85 ∧ o.state = .confirming) ∧ (∃ o ∈ t, o.number = 84 ∧ o.state = .queued)
        ∧ (withTable t).settings.slipMode = true ∧ fullSlips.queue.length = 8 ∧ ∀ x ∈ t, x.state ≠ .finished)
      ∧ ({ State.reset.settings with slipMode := false } : Settings).slipMode = false := by
  refine ⟨⟨linkFree rfl, by unfold State.NumberInv; decide, by decide⟩, by decide⟩

/-- Room for the slip; and a standing pre-warm request of the only order bound to the present mount. -/
theorem witness_QueuedOrderIsCancelled_more :
    (let t := [order1 84 .queued .pending, { order1 85 .queued .pending with mount := 2 }];
      (withTable t).settings.slipMode = true ∧ (List.replicate 7 (⟨1, [], false⟩ : Slip)).length < 8
        ∧ (∃ o ∈ t, o.number = 84 ∧ o.state = .queued) ∧ ∀ x ∈ t, x.state ≠ .finished)
      ∧ (let t := [order1 84 .queued .pending, { order1 85 .queued .pending with mount := 2 }];
        let s : State :=
          { withTable t with
            slips := fullSlips
            panel := ⟨.closed, .engaged, 1, true⟩
            lamp := { State.reset.lamp with state := .ready, prewarm := true } };
        s.LinkFree ∧ s.NumberInv ∧ s.settings.slipMode = true ∧ s.slips.queue.length = 8 ∧ s.panel.mountPresent = true
          ∧ (∀ x ∈ t, x.state = .queued → x.mount = s.panel.mountCounter → x.number = 84)
          ∧ s.lamp.prewarm = true ∧ s.lamp.runReq = false ∧ s.lamp.calReq = false ∧ s.lamp.state ≠ .off) :=
  ⟨by decide, linkFree rfl, by unfold State.NumberInv; decide, by decide⟩

/-- The line SEIZED for order 84 with the activity and signal given. -/
def seized1 (a : Activity) (g : Signal) : LineUnit :=
  { State.reset.line with
    state := .seized, loopClosed := true, activity := some a, signal := g, orderNumber := 84, network := some .loop
    figures := some ⟨.fm, 90, 1024, 10, 25⟩ }

/-- The run record of order 84 as its selection made it. -/
def run1 : RunRecord := runRecordFor (order1 84 .preparing .pending) State.reset

/-- Order 84 in state `st`, its destination at `d`, with run record `r` and the line at `l`. -/
def runState (st : OrderState) (d : DestResult) (r : RunRecord) (l : LineUnit) : State :=
  { withTable [order1 84 st d] with run := some r, line := l }

/-- The scan is complete while order 84 is SENDING. -/
def sending1 : State :=
  runState .sending .ready { run1 with scanStarted := true, scanComplete := true } (seized1 .picture (.sounding 0))

/-- The line HOLDS in silence for order 84, whose defer timer is due at 60 s; the last listen ended at 59.94 s. -/
def holding1 : State :=
  runState .preparing .ready { run1 with rollEnded := true, deferTimer := some 60000000 }
    { seized1 .holding .silent with lastListenEnd := some 59940000 }

theorem witness_RunsAreAborted :
    (let s := runState .preparing .pending run1 (seized1 .calling (.sounding 0));
      s.LinkFree ∧ s.run = some run1 ∧ run1.abort = none ∧ s.findOrder run1.order = some (order1 84 .preparing .pending)
        ∧ s.line.state = .seized ∧ wordAt (u16 84) 0 = run1.order ∧ (u16 84).length = 2 ∧ run1.scanStarted = false)
      ∧ (sending1.LinkFree ∧ sending1.line.state = .seized
        ∧ sending1.findOrder 84 = some (order1 84 .sending .ready) ∧ sending1.line.activity = some .picture
        ∧ ∃ r since, sending1.run = some r ∧ r.abort = none ∧ r.order = 84 ∧ r.scanComplete = true
          ∧ sending1.line.signal = .sounding since)
      ∧ (holding1.line.state = .seized ∧ holding1.findOrder 84 = some (order1 84 .preparing .ready)
        ∧ (order1 84 .preparing .ready).anyReady = true ∧ holding1.line.activity = some .holding
        ∧ holding1.line.signal = .silent ∧ holding1.line.timer = none ∧ holding1.line.sent = none
        ∧ (∃ r, holding1.run = some r ∧ r.abort = none ∧ r.deferTimer = some 60000000
          ∧ 60000000 ≤ holding1.now + 60000000 ∧ r.rollEnded = true ∧ r.scanStarted = false)
        ∧ ∀ e, holding1.line.lastListenEnd = some e → e + 60000 ≤ holding1.now + 60000000) := by
  refine ⟨⟨linkFree rfl, by decide⟩, ⟨linkFree rfl, rfl, by decide, rfl, ⟨_, 0, rfl, by decide⟩⟩, rfl, by decide,
    by decide, rfl, rfl, rfl, rfl, ⟨_, rfl, by decide⟩, ?_⟩
  rintro e ⟨⟩
  decide

/-- The aborts by the drum, the door and the STOP key: order 84 in state `st`, the drum in `d`, its timers due at 3 s. -/
def abort1 (st : OrderState) (r : RunRecord) (a : Activity) (d : DrumState) : State :=
  { runState st .ready r (seized1 a (.sounding 0)) with
    panel := ⟨.closed, .engaged, 1, true⟩
    drum := { (drumAt d).drum with spinUpTimer := some 3000000, stallTimer := some 3000000 }
    now := 2000000 }

theorem witness_RunsAreAborted_drumDoorStop :
    (let s := abort1 .preparing run1 .calling .spinningUp;
      s.run = some run1 ∧ run1.abort = none ∧ s.findOrder run1.order = some (order1 84 .preparing .ready)
        ∧ s.line.state = .seized ∧ s.cal = none ∧ run1.scanStarted = false ∧ run1.rollEnded = false
        ∧ s.drum.state = .spinningUp ∧ s.drum.spinUpTimer = some 3000000 ∧ s.drum.stallTimer = some 3000000
        ∧ 3000000 ≤ s.now + 1000000)
      ∧ (∀ a ∈ [Activity.startTone, .phasing], let r := { run1 with rollEnded := true, drift := 7 };
        (abort1 .phasing r a .drift).run = some r ∧ r.abort = none ∧ r.scanStarted = false ∧ r.drift = 7
          ∧ (abort1 .phasing r a .drift).line.activity = some a ∧ (abort1 .phasing r a .drift).scan = none
          ∧ (abort1 .phasing r a .drift).line.signal = .sounding 0)
      ∧ (let r := { run1 with rollEnded := true, scanStarted := true, scanComplete := true, drift := 7 };
        let s := abort1 .sending r .picture .drift;
        s.run = some r ∧ s.findOrder r.order = some (order1 84 .sending .ready) ∧ r.scanComplete = true
          ∧ (order1 84 .sending .ready).state.isRunning = true
          ∧ (∀ t, s.drum.lastIndex = some t → s.now < t + 3000000 →
              withinWindow s.settings (s.now - t) s.drum.target = false)
          ∧ s.panel.door = .closed ∧ s.panel.mountPresent = true ∧ s.lamp.prewarm = false
          ∧ (∀ x ∈ s.manager.table, x.state = .queued → x.mount ≠ s.panel.mountCounter))
      ∧ (withinWindow State.reset.settings 1000051 60 = false ∧ withinWindow State.reset.settings 1000050 60 = true) := by
  refine ⟨by decide, by decide, ⟨by decide, by decide, by decide, by decide, ?_, by decide⟩, by decide⟩
  rintro t ⟨⟩

theorem witness_OrdersAreInquired :
    (let t := [order1 84 .queued .pending, order1 85 .assembling .pending];
      (withTable t).LinkFree ∧ (withTable t).NumberInv
        ∧ (∃ o ∈ t, o.number = 85 ∧ o.state = .assembling) ∧ (∃ o ∈ t, o.number = 84 ∧ o.state ≠ .assembling)
        ∧ ∀ o ∈ t, o.number ≠ 83)
      ∧ (let p (n sect reason : Nat) := u16 n ++ u8 sect ++ u8 reason;
        (p 84 2 0).length = 4 ∧ 2 ≤ byteAt (p 84 2 0) 2 ∧ 3 ≤ byteAt (p 84 1 3) 3
          ∧ (byteAt (p 84 1 2) 2 ≤ 1 ∧ byteAt (p 84 1 2) 3 ≤ 2 ∧ wordAt (p 84 1 2) 0 = 84)
          ∧ byteAt (p 84 0 0) 2 = 0 ∧ byteAt (p 84 0 0) 3 = 0 ∧ byteAt (p 84 0 1) 3 = 1)
      ∧ (Span.value 6553599999 (.running 0) = 65535 ∧ Span.value 199999 (.running 100000) = 0
        ∧ Span.value 200000 (.running 100000) = 1) := by
  refine ⟨⟨linkFree rfl, ?_, by decide⟩, by decide, by decide⟩
  unfold State.NumberInv
  decide

theorem witness_OrderListReadsTheTable : State.reset.LinkFree ∧ State.reset.manager.table = [] := ⟨linkFree rfl, rfl⟩

theorem witness_QueueControlHaltsAndResumes :
    office1.LinkFree ∧ State.reset.manager.state = .running
      ∧ (∀ o ∈ office1.manager.table, o.state = .queued → office1.panel.mountPresent = true →
          o.mount ≠ office1.panel.mountCounter)
      ∧ ∀ o ∈ [order1 84 .queued .pending], o.state = .queued → true = true → o.mount ≠ 2 :=
  ⟨linkFree rfl, rfl, by decide, by decide⟩

theorem witness_SlipFeedAndReprint :
    State.reset.LinkFree ∧ (0#8 : Byte) = 0#8 ∧ (1#8 : Byte) ≠ 0#8 ∧ State.reset.slips.printer = .idle
      ∧ State.reset.slips.paper = .present ∧ ({ State.reset.slips with paper := .out } : SlipUnit).paper = .out
      ∧ ({ State.reset.slips with printer := .held } : SlipUnit).printer ≠ .idle
      ∧ State.reset.slips.lastPrinted = none
      ∧ (let u := { fullSlips with lastPrinted := some ⟨1, [], false⟩ }
        u.lastPrinted = some ⟨1, [], false⟩ ∧ u.queue.length = 8)
      ∧ (List.replicate 7 (⟨1, [], false⟩ : Slip)).length < 8 :=
  ⟨linkFree rfl, by decide⟩

theorem witness_RestartEmptiesThePart :
    State.reset.LinkFree ∧ 1 < (2#8 : Byte).toNat ∧ (1#8 : Byte).toNat ≤ 1 ∧ State.reset.line.state = .idle
      ∧ (∀ c ∈ [CarriageState.advancing, .fault, .homing, .returning, .home], ∀ closed ∈ [false, true],
        let s : State := { State.reset with carriage := { State.reset.carriage with state := c, homeClosed := closed } };
        s.line.state = .idle ∧ s.carriage.homeClosed = closed) :=
  ⟨linkFree rfl, by decide⟩

theorem witness_RestartWaitsForTheLine :
    (runState .preparing .pending run1 (seized1 .calling (.sounding 0))).LinkFree ∧ (1#8 : Byte).toNat ≤ 1
      ∧ (seized1 .calling (.sounding 0)).state = .seized
      ∧ (let l := { State.reset.line with state := .releasing, releaseCause := .restart, releaseAt := some 300000 }
        let k : Link := { State.reset.link with holding := [⟨0x13#8, 0#8, [1#8]⟩], restart := some true }
        l.state = .releasing ∧ l.releaseCause = .restart ∧ l.releaseAt = some 300000
          ∧ 300000 ≤ State.reset.now + 300000 ∧ k.restart = some true ∧ k.holding = [⟨0x13#8, 0#8, [1#8]⟩]
          ∧ k.tx = none ∧ k.replySlot = none) :=
  ⟨linkFree rfl, by decide⟩

/-! ### Panel, selection, drum, lamp and carriage -/

/-- Door CLOSED and clamp ENGAGED with mount 1 present. -/
def mounted1 : State := { State.reset with panel := ⟨.closed, .engaged, 1, true⟩ }

theorem witness_InterlockStopsTheDrum :
    (∀ st ∈ [DrumState.locked, .calibrating, .stopped, .fault],
      ({ mounted1 with drum := { State.reset.drum with state := st } } : State).panel.door = .closed)
      ∧ mounted1.panel.clamp = .engaged ∧ mounted1.run = none ∧ mounted1.cal = none ∧ mounted1.lamp.prewarm = false
      ∧ (∀ o ∈ mounted1.manager.table, o.state = .queued → o.mount ≠ mounted1.panel.mountCounter) := by decide

theorem witness_MountEndFinishesItsOrders :
    let t := [order1 84 .preparing .pending, order1 85 .queued .pending,
      { order1 86 .queued .pending with mount := 2 }, order1 87 .assembling .pending, order1 88 .finished .clean]
    let s : State :=
      { mounted1 with
        manager := ⟨t, .running, 89, some 10000000⟩
        slips := fullSlips
        run := some run1
        line := seized1 .calling (.sounding 0) }
    s.panel.door = .closed ∧ s.panel.mountPresent = true ∧ s.NumberInv ∧ s.RunInv ∧ s.settings.slipMode = true
      ∧ s.slips.queue.length = 8 ∧ s.run = some run1
      ∧ (∃ o ∈ t, o.state = .queued ∧ o.mount = s.panel.mountCounter)
      ∧ ∃ o ∈ t, o.state = .queued ∧ o.mount ≠ s.panel.mountCounter := by
  refine ⟨rfl, rfl, by unfold State.NumberInv; decide, ⟨?_, ?_, by decide, by decide⟩, by decide⟩
  · rintro r ⟨⟩
    exact ⟨order1 84 .preparing .pending, by decide, rfl, rfl⟩
  · intro o ho hr
    fin_cases ho <;> first | exact ⟨run1, rfl, rfl⟩ | exact absurd hr (by decide)

theorem witness_MountStarts :
    (let p : Panel := ⟨.opened, .engaged, 65535, false⟩;
      p.door = .opened ∧ p.clamp = .engaged ∧ p.mountPresent = false)
      ∧ (let p : Panel := ⟨.opened, .released, 1, false⟩;
        p.door = .opened ∧ p.clamp ≠ .engaged)
      ∧ (State.reset.panel.clamp = .released ∧ State.reset.panel.door = .closed
        ∧ State.reset.panel.mountPresent = false ∧ State.reset.lamp.prewarm = false)
      ∧ (∀ o ∈ [{ order1 84 .queued .pending with mount := 2 }], o.state = .queued → o.mount ≠ 1)
      ∧ (let s : State :=
          { withTable [order1 84 .queued .pending] with
            manager := ⟨[order1 84 .queued .pending], .halted, 85, none⟩
            panel := ⟨.opened, .engaged, 65535, false⟩
            lamp := { State.reset.lamp with offTime := some 0 } };
        s.manager.state = .halted ∧ s.run = none ∧ s.lamp.state = .off ∧ s.lamp.darkHold = false
          ∧ s.lamp.prewarm = false
          ∧ (∃ o ∈ s.manager.table, o.state = .queued
            ∧ o.mount = if s.panel.mountCounter < 65535 then s.panel.mountCounter + 1 else 1)
          ∧ 0 + 600000000 ≤ s.now + 600000000 ∧ ¬0 + 600000000 ≤ s.now + 599999999) := by decide

theorem witness_StopKeyHaltsAndSpinsDown :
    (drumAt .locked).run = none ∧ (drumAt .locked).cal = none ∧ (drumAt .locked).drum.state = .locked
      ∧ (drumAt .fault).drum.state = .fault := by decide

/-- An order waits on the present mount; the drum is LOCKED at its speed; the manager is HALTED. -/
def waiting1 : State :=
  { mounted1 with
    manager := { State.reset.manager with state := .halted, table := [order1 84 .queued .pending] }
    motor := motor1
    drum := { State.reset.drum with state := .locked, target := 90, dff := some 2533, brake := false } }

theorem witness_SelectionStartsTheRun :
    waiting1.LinkFree ∧ waiting1.NumberInv ∧ waiting1.manager.state = .halted ∧ waiting1.runningOrder = none
      ∧ waiting1.run = none ∧ waiting1.cal = none ∧ waiting1.carriage.state ≠ .fault ∧ waiting1.line.state = .idle
      ∧ waiting1.panel.mountPresent = true
      ∧ (let waits (x : Order) := x.state == .queued && x.mount == waiting1.panel.mountCounter
        waiting1.manager.table.find? (fun x => waits x && x.header.cls == 0) = none
          ∧ waiting1.manager.table.find? waits = some (order1 84 .queued .pending))
      ∧ waiting1.panel.door = .closed ∧ waiting1.drum.state = .locked ∧ waiting1.drum.target = header1.speed
      ∧ waiting1.drum.noLock = false ∧ waiting1.motor.valid = true ∧ feasible waiting1.motor header1.speed = true := by
  refine ⟨linkFree rfl, ?_, by decide⟩
  unfold State.NumberInv
  decide

/-- A MOTOR run in phase `p` with three periods of 1,500,000 microseconds summed. -/
def motorRun1 (p : CalPhase) (used : Nat) : CalRun :=
  { newCalRun .motor [] 0 0 with phase := p, sums := [1500000 * used], used := used, p1 := 1500000 }

theorem witness_IndexPulsesOutsideTheLoop :
    (drumAt .stopped).drum.state = .stopped ∧ (drumAt .spinningDown).drum.state = .spinningDown
      ∧ (let s : State := { drumAt .calibrating with now := 3000000, cal := some (motorRun1 .measureHigh 3) };
        let d := { s.drum with lastIndex := some 2000000 }
        s.drum.state = .calibrating ∧ s.cal = some (motorRun1 .measureHigh 3)
          ∧ d.lastIndex = some 2000000 ∧ s.now + 461538 < 2000000 + 3000000
          ∧ (motorRun1 .measureHigh 3).used = 3 ∧ (motorRun1 .measureHigh 3).kind = .motor
          ∧ 0 < (motorRun1 .measureHigh 3).p1 ∧ 0 < (1500000 * 3 + 1461538 + 2) / 4 ∧ s.run = none
          ∧ ∀ o ∈ s.manager.table, o.state ≠ .queued)
      ∧ (motorRun1 .measureLow 3).phase = .measureLow ∧ (motorRun1 .measureLow 2).used < 3
      ∧ (motorRun1 .settleLow 0).phase = .settleLow
      ∧ (newCalRun .motor [] 0 0).settleTimer = some 3000000 ∧ 0 + 2999999 < 3000000 ∧ 3000000 ≤ 0 + 3000000
      ∧ (newCalRun .motor [] 0 0).phase = .settleLow := by decide

theorem witness_IndexPulsesRegulateTheDrum :
    (∀ st ∈ [DrumState.spinningUp, .locked, .drift], (drumAt st).drum.dff = some 1733 ∧ (drumAt st).run = none
        ∧ (drumAt st).scan = none ∧ (drumAt st).cal = none)
      ∧ (drumAt .locked).drum.lastIndex = none
      ∧ (let d := { (drumAt .locked).drum with lastIndex := some 5 };
        d.lastIndex = some 5 ∧ 5 + 3000000 ≤ 5 + 3000000 ∧ 5 + 2999999 < 5 + 3000000) := by decide

/-- A MEASURING run of the kind given with its counts: at 60 rpm the drum is LOCKED, the tablet's run stands at its line. -/
def measuringAt (k : CalKind) (used passed : Nat) (begun : Bool) (sums samples : List Nat) : CalRun :=
  { newCalRun k (if k = .steps then [⟨64, 199, 0⟩, ⟨250, 349, 700⟩, ⟨400, 1023, 4095⟩] else []) 0 0 with
    phase := .measuring
    offset := 180
    gain := 4659
    arrived := true
    used := used
    passed := passed
    revBegun := begun
    eligible := true
    sums := sums
    samples := samples }

/-- The part while the run `c` measures: the lamp OFF under its dark hold for DARK, READY under its request otherwise. -/
def measured1 (c : CalRun) : State :=
  { tablet1 .home with
    cal := some c
    lamp :=
      if c.kind = .dark then { State.reset.lamp with darkHold := true }
      else { State.reset.lamp with state := .ready, calReq := true }
    drum := { (drumAt .locked).drum with lastIndex := some 0 } }

theorem witness_IndexPulsesRegulateTheDrum_calibration :
    (∀ c ∈ [measuringAt .dark 0 0 false [0] [], measuringAt .dark 0 0 true [0] (List.replicate 1024 1023),
        measuringAt .white 15 30 true [0] [], measuringAt .steps 7 22 true [0, 0, 0] []],
      (measured1 c).cal = some c ∧ c.kind ≠ .motor ∧ c.phase = .measuring
        ∧ (∀ o ∈ (measured1 c).manager.table, o.state ≠ .queued) ∧ (measured1 c).lamp.prewarm = false
        ∧ (measured1 c).lamp.runReq = false ∧ (c.kind = .dark → (measured1 c).lamp.calReq = false)
        ∧ (c.kind ≠ .dark → (measured1 c).lamp.calReq = true ∧ (measured1 c).lamp.state ≠ .off)
        ∧ ((measured1 c).carriage.state = .advancing → (measured1 c).carriage.homeClosed = false)
        ∧ (measured1 c).drum.state = .locked ∧ (measured1 c).drum.dff = some 1733 ∧ (measured1 c).run = none
        ∧ (measured1 c).scan = none)
      ∧ (15 + 1 < 1 + 16 ∧ 1 + 16 ≤ 16 + 1 ∧ 14 + 1 < 16 ∧ 30 + 1 < 16 + 16 ∧ 16 + 16 ≤ 31 + 1 ∧ 6 + 1 < 8
        ∧ 22 + 1 < 8 + 16 ∧ 8 + 16 ≤ 23 + 1)
      ∧ ((1023 * 1024 + 511 + 512) / 1024 = 1023 ∧ (1023 * 1024 + 512 + 512) / 1024 = 1024)
      ∧ ((691 * 512 + 255 + 256) / 512 = 691 ∧ 691 < 180 + 512 ∧ 180 + 512 ≤ 692)
      ∧ ((measuringAt .steps 7 22 true [0, 0, 0] []).sums.length = (measuringAt .steps 7 22 true [0, 0, 0] []).steps.length)
      ∧ (let m := [300, 315, 3000];
        m[0]? = some 300 ∧ m[1]? = some 315 ∧ 315 < 300 + 16)
      ∧ (let m := [300, 316, 3000];
        m.head? = some 300 ∧ m.getLast? = some 3000 ∧ 256 * 1 < 300 ∧ 3000 < 256 * 12 ∧ 316 ≤ 256 * 2 ∧ 256 * 2 ≤ 3000) := by
  refine ⟨by decide +kernel, by decide, by decide, by decide, by decide, by decide, by decide⟩

/-- A rising list of measured steps passes the test at every pair. -/
theorem witness_IndexPulsesRegulateTheDrum_rising :
    let m := [300, 316, 3000];
    ∀ j x y, m[j]? = some x → m[j + 1]? = some y → x + 16 ≤ y := by
  rintro m (_ | _ | _ | j) x y hx hy
  · cases hx; cases hy; decide
  · cases hx; cases hy; decide
  · cases hy
  · cases hx

/-- A scan record at line `n` of 25, S = 512, in a revolution whose samples are given. -/
def scan1 (n : Nat) (inRevolution : Bool) (samples : List Nat) : ScanRecord :=
  ⟨84, 512, 25, 4, false, n, 180, 4659, 3600, true, 0, 0, 0, inRevolution, samples⟩

theorem witness_EncoderEdgesTakeSamples :
    (∀ sc, ({ State.reset with scan := some (scan1 1 true [3]) } : State).scan = some sc →
        sc.samplesPerLine = 512 ∨ sc.samplesPerLine = 1024 ∨ sc.samplesPerLine = 2048)
      ∧ (State.reset.encoder.high = true ↔ Edge.rising = .falling)
      ∧ (({ State.reset.encoder with high := true } : Encoder).high = true ↔ Edge.rising = .rising) := by
  refine ⟨?_, by decide, by decide⟩
  rintro sc ⟨⟩
  exact Or.inl rfl

theorem witness_DrumTimersRunOut :
    (drumAt .spinningUp).run = none ∧ (drumAt .spinningUp).cal = none ∧ (drumAt .spinningUp).drum.state = .spinningUp
      ∧ (drumAt .spinningDown).drum.state = .spinningDown
      ∧ (let d := { (drumAt .locked).drum with
            spinUpTimer := some 20000000, stallTimer := some 20000000, quietTimer := some 20000000
            spinHoldTimer := some 20000000 };
        (∃ e, d.spinUpTimer = some e ∧ e ≤ 0 + 20000000) ∧ (∃ e, d.stallTimer = some e ∧ e ≤ 0 + 20000000)
          ∧ (∃ e, d.quietTimer = some e ∧ e ≤ 0 + 20000000) ∧ ∃ e, d.spinHoldTimer = some e ∧ e ≤ 0 + 20000000)
      ∧ (running1.runningOrder ≠ none ∧ (drumAt .locked).runningOrder = none ∧ (drumAt .drift).drum.state = .drift)
      ∧ ¬∃ e, (drumAt .locked).drum.spinUpTimer = some e ∧ e ≤ 5 :=
  ⟨rfl, rfl, rfl, rfl, ⟨⟨_, rfl, le_rfl⟩, ⟨_, rfl, le_rfl⟩, ⟨_, rfl, le_rfl⟩, _, rfl, le_rfl⟩, by decide,
    fun ⟨_, h, _⟩ => nomatch h⟩

/-- The run of order 84 while its picture is scanned. -/
def scanRun : RunRecord := { run1 with scanStarted := true, startMade := true, rollEnded := true }

/-- Order 84 is SENDING; the drum is in DRIFT for the sixth revolution; line `n` is being scanned; `k` lines are stored. -/
def scanning1 (n k : Nat) (inRevolution : Bool) : State :=
  { runState .sending .ready { scanRun with drift := 6 } (seized1 .picture (.sounding 0)) with
    drum := (drumAt .drift).drum
    scan := some { scan1 n inRevolution (List.replicate 512 3780) with trackCount := 15 }
    store := ⟨List.replicate k ⟨1, false, false, false, []⟩, true, none, none⟩ }

theorem witness_RevolutionsScanLines :
    (∀ s ∈ [scanning1 1 0 false, scanning1 24 7 true, scanning1 25 8 true], s.drum.state = .drift ∧ s.cal = none
      ∧ s.run = some { scanRun with drift := 6 } ∧ s.findOrder 84 = some (order1 84 .sending .ready)
      ∧ s.line.state = .seized ∧ s.line.activity = some .picture ∧ s.store.isOpen = true)
      ∧ (scanRun.order = 84 ∧ scanRun.abort = none ∧ 6 < 7 ∧ scanRun.scanStarted = true
        ∧ scanRun.scanComplete = false)
      ∧ (∃ sc, (scanning1 1 0 false).scan = some sc ∧ sc.samplesPerLine = 512 ∧ 2 ≤ sc.pitch
        ∧ sc.inRevolution = false)
      ∧ (∃ sc, (scanning1 24 7 true).scan = some sc ∧ sc.inRevolution = true ∧ sc.trackCount ≤ 15
        ∧ sc.nextLine ≠ sc.lines ∧ (scanning1 24 7 true).store.slots.length < 8)
      ∧ (∃ sc, (scanning1 25 8 true).scan = some sc ∧ sc.inRevolution = true ∧ sc.nextLine = sc.lines
        ∧ 8 ≤ (scanning1 25 8 true).store.slots.length)
      ∧ (let w (r : Nat) := ((List.replicate 16 r).sum + 512 / 32 / 2) / (512 / 32) - 180
        w 435 = 255 ∧ w 436 = 256 ∧ (if w 435 < 256 then 3 + 1 else 0) = 4 ∧ (if w 436 < 256 then 3 + 1 else 0) ≠ 4)
      ∧ (∀ closed ∈ [false, true],
        let c : Carriage := ⟨.advancing, some 7, 0, none, none, none, closed⟩;
        c.state = .advancing ∧ c.position = some 7 ∧ c.homeClosed = closed) :=
  ⟨by decide +kernel, by decide, ⟨_, rfl, by decide⟩, ⟨_, rfl, by decide⟩, ⟨_, rfl, by decide⟩, by decide, by decide⟩

/-- The drift run stays within 0..8 (R150): the abort at 8, then a further report marked not locked, then one LOCKED. -/
theorem test_drift_run_stops_at_8 :
    let drift (s : State) := s.run.map RunRecord.drift
    let s (n : Nat) := runState .sending .ready { scanRun with drift := n } (seized1 .picture (.sounding 0));
    drift (revolutionToRun false (s 7)) = some 8 ∧ drift (revolutionToRun false (revolutionToRun false (s 7))) = some 8
      ∧ drift (revolutionToRun true (revolutionToRun false (s 7))) = some 0
      ∧ (revolutionToRun false (s 7)).run.map RunRecord.abort = some (some .drumFault)
      ∧ (revolutionToRun false (s 6)).run.map RunRecord.abort = some none := by decide

theorem witness_LampTimersRunOut :
    (let l := { State.reset.lamp with state := .warming, warmTimer := some 8000000, idleTimer := some 8000000 };
      l.warmTimer = some 8000000 ∧ 8000000 ≤ 0 + 8000000 ∧ l.state = .warming ∧ 0 + 7999999 < 8000000
        ∧ l.idleTimer = some 8000000)
      ∧ (State.reset.cal = none ∧ State.reset.run = none)
      ∧ (let r := { run1 with rollEnded := true, drumReady := true, carriageReady := true };
        let s := runState .preparing .ready r { seized1 .holding .silent with lastListenEnd := some 0 };
        s.run = some r ∧ s.findOrder r.order = some (order1 84 .preparing .ready) ∧ r.rollEnded = true
          ∧ (∃ d ∈ (order1 84 .preparing .ready).dests, d.result = .ready) ∧ r.abort = none ∧ r.drumReady = true
          ∧ r.carriageReady = true ∧ r.startMade = false ∧ s.line.state = .seized
          ∧ s.line.activity = some .holding ∧ s.line.signal = .silent
          ∧ (∀ x, s.line.lastListenEnd = some x → x + 60000 ≤ 0 + 60000))
      ∧ (let c := newCalRun .dark [] 0 0
        let l := { State.reset.lamp with offTime := some 7 };
        c.kind = .dark ∧ c.phase = .waiting ∧ l.state = .off ∧ (drumAt .drift).drum.state = .drift
          ∧ l.offTime = some 7 ∧ 7 + 1000000 ≤ 7 + 1000000 ∧ 7 + 999999 < 7 + 1000000) := by
  refine ⟨by decide, by decide, ⟨rfl, by decide, rfl, by decide, rfl, rfl, rfl, rfl, rfl, rfl, rfl, ?_⟩, by decide⟩
  rintro x ⟨⟩
  exact le_rfl

theorem witness_TheCarriageMoves :
    (State.reset.carriage.state = .homing ∧ State.reset.carriage.stepAt = some 0 ∧ 0 ≤ State.reset.now + 0
        ∧ ({ State.reset.carriage with stepsTaken := 5398 } : Carriage).stepsTaken + 1 < 5400
        ∧ ({ State.reset.carriage with stepsTaken := 5399 } : Carriage).stepsTaken = 5399
        ∧ State.reset.run = none ∧ State.reset.cal = none)
      ∧ (let c : Carriage := ⟨.advancing, some 3, 0, some 4, some 2500, none, false⟩;
        c.state = .advancing ∧ c.position = some 3 ∧ c.target = some 4 ∧ c.stepAt = some 2500 ∧ 3 + 1 = 4 ∧ 2500 ≤ 0 + 2500)
      ∧ (let k := newCalRun .steps [] 4 0
        k.kind = .steps ∧ k.phase = .waiting)
      ∧ ((tablet1 .home).lamp.state = .ready ∧ (tablet1 .home).drum.state = .locked)
      ∧ State.reset.carriage.waitingMove = none
      ∧ ({ State.reset.carriage with waitingMove := some 2 } : Carriage).waitingMove = some 2
      ∧ ¬((tablet1 .home).carriage.state = .homing ∨ (tablet1 .home).carriage.state = .returning)
      ∧ (tablet1 .home).carriage.stepAt = none := by decide

/-! ### Line, runs and slips -/

theorem witness_SignalsAndGuardsEnd :
    (∀ a ∈ [Activity.calling, .polling, .dialing], (seized1 a (.sounding 5)).signal = .sounding 5
        ∧ (seized1 a (.sounding 5)).activity = some a)
      ∧ 5 + 1120000 ≤ 5 + 1120000 ∧ ¬5 + 1120000 ≤ 5 + 1119999
      ∧ 5 + 160000 * ([.star, .hash] : List DialSymbol).length ≤ 5 + 320000
      ∧ (seized1 .dialing (.dialTone 5)).signal = .dialTone 5
      ∧ (let l := { seized1 .holding .silent with holdAt := some 5000000 };
        l.activity = some .holding ∧ l.signal = .silent ∧ l.holdAt = some 5000000 ∧ 5000000 ≤ 0 + 5000000)
      ∧ (seized1 .holding (.burst 5)).signal = .burst 5 ∧ (seized1 .stopTone (.burst 5)).activity = some .stopTone
      ∧ (∀ a ∈ [Activity.listening, .calling, .polling, .dialing], (seized1 a (.guardWait 60000)).signal = .guardWait 60000)
      ∧ ((seized1 .calling (.guardWait 60000)).activity ≠ some .listening
        ∧ (seized1 .calling (.guardWait 60000)).activity ≠ some .startTone)
      ∧ (seized1 .listening (.listen 5 (some 3000000) none)).signal = .listen 5 (some 3000000) none
      ∧ 5 + 150000 ≤ 5 + 150000 ∧ ¬5 + 150000 ≤ 5 + 149999 := by decide

theorem witness_ListensEndAndAreAnswered :
    let o := { order1 84 .preparing .pending with dests := [⟨3, .ready⟩, ⟨5, .pending⟩] }
    let s (r : RunRecord) (g : Signal) : State :=
      { withTable [o] with run := some r, line := seized1 .listening g }
    let q := Signal.listen 0 none (some (.tA, 200000))
    let w := Signal.listen 0 (some 3000000) none
    ((s run1 q).line.state = .seized ∧ (s run1 q).run = some run1 ∧ (s run1 q).findOrder run1.order = some o
        ∧ run1.abort = none ∧ o.state = .preparing ∧ run1.network = .loop)
      ∧ (q = .listen 0 none (some (.tA, 200000)) ∧ 200000 + 80000 ≤ 0 + 280000 ∧ 200000 + 3000000 ≤ 0 + 3200000)
      ∧ (w = .listen 0 (some 3000000) none ∧ 3000000 ≤ 0 + 3000000)
      ∧ (run1.used < run1.attempts ∧ run1.attempts ≤ ({ run1 with used := 2 } : RunRecord).used)
      ∧ (run1.index < o.dests.length ∧ o.dests.length ≤ ({ run1 with index := 2 } : RunRecord).index)
      ∧ (o.dests[0]? = some ⟨3, .ready⟩ ∧ (⟨3, .ready⟩ : Dest).result = .ready)
      ∧ (run1.drumReady = false ∧ run1.startMade = false)
      ∧ (let p := [(⟨3, .ready⟩ : Dest), ⟨5, .busy⟩, ⟨9, .ready⟩]
        p[0]? = some ⟨3, .ready⟩ ∧ p[2]? = some ⟨9, .ready⟩ ∧ p[1]? = some ⟨5, .busy⟩)
      ∧ ((seized1 .dialing (.dialTone 5)).signal = .dialTone 5 ∧ 5 + 5000000 ≤ 5 + 5000000 ∧ 1 ≤ run1.index
        ∧ ¬∃ j, ∃ d : Dest, j ≠ 0 ∧ (order1 84 .preparing .pending).dests[j]? = some d ∧ d.result = .ready) := by
  refine ⟨by decide, by decide, by decide, by decide, by decide, by decide, by decide, by decide, by decide, by decide,
    by decide, ?_⟩
  rintro ⟨_ | j, d, h1, h2, _⟩
  · exact h1 rfl
  · simp [order1] at h2

/-- The last answer of the roll call is READY while the drum, the lamp and the carriage are ready: the START is made. -/
theorem witness_ListensEndAndAreAnswered_start :
    let r := { run1 with drumReady := true, lampReady := true, carriageReady := true }
    let o := order1 84 .preparing .pending
    let s := runState .preparing .pending r (seized1 .listening (.listen 0 none (some (.tA, 200000))))
    s.line.state = .seized ∧ s.run = some r ∧ s.findOrder r.order = some o ∧ r.abort = none ∧ o.state = .preparing
      ∧ s.line.signal = .listen 0 none (some (.tA, 200000)) ∧ 200000 + 80000 ≤ s.now + 280000
      ∧ (some ReplyTone.tA ≠ none ∧ o.dests.length ≤ r.index ∧ 1 ≤ r.index ∧ r.index ≤ o.dests.length)
      ∧ r.startMade = false := by decide

theorem witness_LineTimesAreSent :
    let f : Figures := ⟨.fm, 90, 1024, 10, 25⟩
    let l (a : Activity) (next : Nat) : LineUnit := { seized1 a (.sounding 0) with timer := some ⟨0, next⟩ };
    ((l .startTone 1).figures = some f ∧ (l .startTone 1).activity = some .startTone
        ∧ (l .startTone 1).signal = .sounding 0 ∧ 0 + 3000000 ≤ 0 + 3000000 ∧ State.reset.run = none)
      ∧ ((l .phasing 9).timer = some ⟨0, 9⟩ ∧ 0 + 9 * halfUp 60000000 90 = 6000003 ∧ 9 < f.phasing
        ∧ f.phasing ≤ 10 ∧ 7 + 3 = run1.phasing)
      ∧ (let s := runState .phasing .ready run1 (l .phasing 7)
        s.run = some run1 ∧ s.findOrder run1.order = some (order1 84 .phasing .ready) ∧ run1.abort = none)
      ∧ (let u : Store := ⟨[⟨1, false, false, false, []⟩], true, none, none⟩;
        u.isOpen = true ∧ u.slots = ⟨1, false, false, false, []⟩ :: [])
      ∧ (∀ x, (some ⟨25, .repeated, [], 0⟩ : Option SentLine) = some x → x.kind = .take → x.number ≠ f.lines)
      ∧ (let u : Store := ⟨[], true, none, some ⟨1, false, false, false, []⟩⟩;
        u.slots = [] ∧ u.lastOut = some ⟨1, false, false, false, []⟩)
      ∧ (State.reset.store.isOpen = false ∧ State.reset.store.slots = [] ∧ State.reset.store.lastOut = none) := by
  refine ⟨by decide, by decide, by decide, by decide, ?_, by decide, by decide⟩
  rintro x ⟨⟩ h
  exact absurd h (by decide)

/-- A run stands in START_TONE and PHASING, and its record has 10 phasing lines. -/
theorem witness_LineTimesAreSent_withRun :
    (let s := runState .phasing .ready run1 (seized1 .startTone (.sounding 0));
      s.run = some run1 ∧ run1.phasing ≠ 3 ∧ s.line.figures = some ⟨.fm, 90, 1024, 10, 25⟩
        ∧ s.line.activity = some .startTone ∧ s.line.signal = .sounding 0 ∧ 0 + 3000000 ≤ s.now + 3000000)
      ∧ (let l := { seized1 .phasing (.sounding 0) with timer := some ⟨0, 8⟩ }
        let s := runState .phasing .ready run1 l;
        s.run = some run1 ∧ s.findOrder run1.order = some (order1 84 .phasing .ready) ∧ 8 + 3 ≠ run1.phasing
          ∧ l.timer = some ⟨0, 8⟩ ∧ 8 < 10) := by decide

/-- Value 7 of 1,024 at 90 rpm, sent since 1 s: held from 4,557 us to 5,208 us of the line time; the last value from 666,015
us on. -/
theorem witness_LineTimesAreSent_signal :
    let l := { seized1 .picture (.sounding 0) with sent := some ⟨3, .take, [], 1000000⟩ }
    l.figures = some ⟨.fm, 90, 1024, 10, 25⟩ ∧ l.activity = some .picture ∧ l.signal = .sounding 0
      ∧ l.sent = some ⟨3, .take, [], 1000000⟩ ∧ halfUp 60000000 90 = 666667
      ∧ 1000000 + 7 * 666667 / 1024 ≤ 1004557 ∧ 1005207 < 1000000 + (7 + 1) * 666667 / 1024
      ∧ ¬1000000 + 7 * 666667 / 1024 ≤ 1004556 ∧ ¬1005208 < 1000000 + (7 + 1) * 666667 / 1024
      ∧ 1000000 + 1023 * 666667 / 1024 ≤ 1666015 ∧ ¬1023 + 1 < 1024
      ∧ (seized1 .startTone (.sounding 5)).signal = .sounding 5 ∧ (seized1 .stopTone (.sounding 5)).activity = some .stopTone
      ∧ (seized1 .holding (.burst 5)).signal = .burst 5 ∧ (seized1 .holding .silent).signal = .silent := by decide

theorem witness_PicturesEndAndAreConfirmed :
    (let l : LineUnit :=
        { seized1 .picture (.sounding 0) with timer := some ⟨0, 35⟩, sent := some ⟨25, .take, [], 0⟩ }
      let s := runState .sending .ready scanRun l
      l.figures = some ⟨.fm, 90, 1024, 10, 25⟩ ∧ l.timer = some ⟨0, 35⟩ ∧ l.activity = some .picture
        ∧ 0 + 35 * halfUp 60000000 90 ≤ 23333345 ∧ l.sent = some ⟨25, .take, [], 0⟩ ∧ s.run = some scanRun
        ∧ s.findOrder scanRun.order = some (order1 84 .sending .ready) ∧ scanRun.abort = none)
      ∧ (let s := runState .ending .ready scanRun (seized1 .stopTone (.sounding 5))
        s.line.activity = some .stopTone ∧ s.line.signal = .sounding 5 ∧ 5 + 2999999 < 5 + 3000000
          ∧ s.line.state = .seized ∧ s.findOrder scanRun.order = some (order1 84 .ending .ready)
          ∧ scanRun.network = .loop ∧ (order1 84 .ending .ready).dests[0]? = some ⟨3, .ready⟩
          ∧ s.line.lastListenEnd = none)
      ∧ (∀ d ∈ (order1 84 .ending .busy).dests, d.result ≠ .ready)
      ∧ ({ scanRun with abort := some .cancel } : RunRecord).abort ≠ none
      ∧ ({ scanRun with network := .dial } : RunRecord).network = .dial := by decide

theorem witness_LoopCurrentIsWatched :
    (let l := { seized1 .calling (.sounding 0) with loopCurrent := false, loopTimer := some 500000 };
      (l.state = .seized ∧ ∃ e, l.loopTimer = some e ∧ e ≤ 0 + 500000) ∧ ¬∃ e, l.loopTimer = some e ∧ e ≤ 0 + 499999)
      ∧ (let s := runState .sending .ready scanRun (seized1 .picture (.sounding 0))
        s.run = some scanRun ∧ s.findOrder scanRun.order = some (order1 84 .sending .ready) ∧ scanRun.abort = none
          ∧ (order1 84 .sending .ready).state ∈ [OrderState.preparing, .phasing, .sending, .ending, .confirming]
          ∧ scanRun.scanStarted = true ∧ scanRun.scanComplete = false)
      ∧ State.reset.run = none
      ∧ (∀ closed ∈ [false, true],
        let c : Carriage := ⟨.advancing, some 7, 0, none, none, none, closed⟩;
        c.state = .advancing ∧ c.homeClosed = closed)
      ∧ ({ scanRun with abort := some .stop } : RunRecord).abort ≠ none := by
  refine ⟨⟨⟨rfl, _, rfl, le_rfl⟩, ?_⟩, by decide, rfl, by decide, by decide⟩
  rintro ⟨e, ⟨⟩, h⟩
  exact absurd h (by decide)

theorem witness_ReleasesEndTheRun :
    let l : LineUnit := { State.reset.line with state := .releasing, releaseAt := some 300000 }
    let s : State := { runState .confirming .clean scanRun l with slips := fullSlips }
    let s : State := { s with manager := { s.manager with state := .halted } };
    (l.state = .releasing ∧ ∃ e, l.releaseAt = some e ∧ e ≤ 0 + 300000)
      ∧ ¬(l.state = .releasing ∧ ∃ e, l.releaseAt = some e ∧ e ≤ 0 + 299999)
      ∧ l.releaseCause ≠ .restart ∧ State.reset.run = none ∧ s.run = some scanRun
      ∧ s.findOrder scanRun.order = some (order1 84 .confirming .clean) ∧ s.NumberInv ∧ s.manager.state = .halted
      ∧ s.settings.slipMode = true ∧ s.slips.queue.length = 8 := by
  refine ⟨⟨rfl, _, rfl, le_rfl⟩, ?_, by decide, by decide, by decide, by decide, ?_, by decide⟩
  · rintro ⟨_, e, ⟨⟩, h⟩
    exact absurd h (by decide)
  · unfold State.NumberInv
    decide

theorem witness_PaperAndRowsMoveTheSlips :
    let sl : Slip := ⟨84, [['E', 'N', 'D']], false⟩
    let u (p : Printer) (paper : Paper) : SlipUnit := { State.reset.slips with queue := [sl], printer := p, paper := paper }
    ((u (.printing false 25 0) .present).paper = .present ∧ (u (.printing false 25 0) .present).queue = sl :: []
        ∧ (u (.printing false 25 0) .present).printer = .printing false 25 0 ∧ 24 < 25 ∧ ¬24 < 24)
      ∧ (u (.feeding .recovery 12 0) .present).printer = .feeding .recovery 12 0
      ∧ (u (.feeding .host 1 0) .present).printer = .feeding .host 1 0
      ∧ ((u .held .out).paper = .out ∧ (u .held .out).printer = .held)
      ∧ ((u .idle .out).printer = .idle ∧ State.reset.slips.queue = [])
      ∧ (0 + 1000 ≤ 0 + 1000 ∧ 0 + 999 < 0 + 1000 ∧ 1 < 2)
      ∧ (let rows := 24 + 20 * (sl.text.length + 0) + 24
        rows = 68 ∧ 43 + 1 < rows ∧ 67 + 1 = rows ∧ rows ≤ 44 + 24 ∧ ¬rows ≤ 43 + 24 ∧ 23 < 24)
      ∧ (0 + 7000 ≤ 0 + 7000 ∧ 0 + 2999 < 0 + 3000)
      ∧ ((u (.printing true 43 0) .present).printer = .printing true 43 0 ∧ 0 + 20 * (sl.text.length + 0) + 24 = 43 + 1)
      ∧ ∀ o ∈ [order1 84 .queued .pending], o.state ≠ .finished := by decide

/-! ### Ranges and invariants -/

theorem witness_PictureArithmeticStaysInRange :
    (4095 ≤ 4095 ∧ 32760 ≤ 32760) ∧ (512 ≤ 512 ∧ 512 ≤ 4095 ∧ 512 ≤ 4095 ∧ 4095 ≤ 4095)
      ∧ (curve1.length = 17 ∧ ∀ x ∈ curve1, x ≤ 4095)
      ∧ (3968 ≤ 3968 ∧ 3969 ≤ 3969 ∧ 3969 ≤ 4095 ∧ 4095 ≤ 4095) := by decide

/-- Every step answers a next state somewhere: here the STOP key's. -/
def stopWaits (s : State) : State := { s with pending := [.stopKey 5] }

theorem witness_EveryStepKeepsTheDrumSafe :
    (stopWaits State.reset).DrumInv ∧ (stopWaits { drumAt .locked with
      drum := { (drumAt .locked).drum with brake := false, drive := 1733, stallTimer := some 3000000 } }).DrumInv
      ∧ ∃ t, Machine.step (stopWaits State.reset) = .next t := by
  refine ⟨⟨?_, by decide, ?_, ?_⟩, ⟨?_, by decide, ?_, ?_⟩, _, rfl⟩
  · refine ⟨by decide, by decide, by decide, by decide, by decide, by decide, ?_, by decide, by decide, by decide,
      by decide, by decide, by decide⟩
    rintro f ⟨⟩
  · simp [stopWaits, State.reset]
  · rintro c ⟨⟩
  · refine ⟨by decide, by decide, by decide, by decide, by decide, by decide, ?_, by decide, by decide, by decide,
      by decide, by decide, by decide⟩
    rintro f ⟨⟩
    decide
  · simp [stopWaits, drumAt, State.reset]
  · rintro c ⟨⟩

theorem witness_EveryStepKeepsTheCapacities : State.reset.CapacityInv := by
  unfold State.CapacityInv
  decide

theorem witness_EveryStepKeepsTheOrderTable :
    (runState .sending .ready scanRun (seized1 .picture (.sounding 0))).NumberInv
      ∧ (runState .sending .ready scanRun (seized1 .picture (.sounding 0))).RunInv
      ∧ (runState .sending .ready scanRun (seized1 .picture (.sounding 0))).PrewarmInv
      ∧ (runState .sending .ready scanRun (seized1 .picture (.sounding 0))).RunEndInv := by
  refine ⟨by unfold State.NumberInv; decide, ⟨?_, ?_, by decide, by decide⟩, ?_, fun h => nomatch h⟩
  · rintro r ⟨⟩
    exact ⟨order1 84 .sending .ready, by decide, rfl, rfl⟩
  · intro o ho _
    rw [List.mem_singleton.1 ho]
    exact ⟨scanRun, rfl, rfl⟩
  · unfold State.PrewarmInv
    decide

/-- A pre-warm request stands for an order QUEUED on the present mount, with no run; the line is IDLE, the store closed. -/
theorem witness_EveryStepKeepsTheOrderTable_prewarm :
    let s : State := { waiting1 with lamp := { State.reset.lamp with state := .warming, prewarm := true } }
    s.NumberInv ∧ s.RunInv ∧ s.PrewarmInv ∧ s.RunEndInv := by
  refine ⟨by unfold State.NumberInv; decide, ⟨fun r h => (nomatch h), ?_, by decide, by decide⟩,
    by unfold State.PrewarmInv; decide, by unfold State.RunEndInv; decide⟩
  intro o ho hr
  rw [List.mem_singleton.1 ho] at hr
  exact absurd hr (by decide)

theorem witness_EveryStepKeepsTheRecords : State.reset.RecordsInv ∧ State.reset.CalibrationInv := by
  refine ⟨⟨⟨rfl, ?_⟩, by simp [Settings.InRange, State.reset]⟩, by decide, by decide, by decide, by decide, by decide,
    by decide, ?_⟩
  · intro i j c hi _ h
    have hd : State.reset.directory.getD i .disabled = .disabled := by
      interval_cases i <;> rfl
    rw [hd] at h
    cases h
  · rintro c ⟨⟩

theorem witness_EveryStepKeepsTheLineUnit :
    State.reset.line.Inv ∧ ({ seized1 .holding .silent with holdAt := some 5000000 } : LineUnit).Inv := by
  simp [LineUnit.Inv, seized1, State.reset]

end Sys2Proof.Tests
end

section
/-! PROOF. What the operations leave alone of the order table and its neighbours. `State.Fits` holds between two states when
the second keeps the capacities of the first; `State.Quiet` when it moreover keeps what the invariants of the order table
read: the orders' numbers, mounts and phases, the run record's order, the pre-warm request, the mount, and a line and a
store that stand unused. Nearly every operation is quiet; the others begin, end or remove an order. -/

namespace Sys2Proof.Machine

/-! ## The two relations -/

/-- Where an order stands in its life, the five running states taken together (section 1.3). -/
inductive OrderPhase where
  | assembling | queued | running | finished
  deriving DecidableEq

def OrderState.phase : OrderState → OrderPhase
  | .assembling => .assembling
  | .queued => .queued
  | .preparing | .phasing | .sending | .ending | .confirming => .running
  | .finished => .finished

/-- What the invariants of the order table read of an order. -/
def Order.key (o : Order) : Nat × Nat × OrderPhase := (o.number, o.mount, o.state.phase)

/-- Every order that bears the number of the run record is in a running state. -/
def State.RunOwns (s : State) : Prop :=
  ∀ r, s.run = some r → ∀ o ∈ s.manager.table, o.number = r.order → o.state.isRunning = true

/-- `t` keeps the capacities of `s`, and the requests held. -/
structure State.Fits (s t : State) : Prop where
  holding : t.link.holding = s.link.holding
  notices : s.link.notices.length ≤ 24 → t.link.notices.length ≤ 24
  queue : s.slips.queue.length ≤ 8 → t.slips.queue.length ≤ 8
  table : s.manager.table.length ≤ 16 → t.manager.table.length ≤ 16
  slots : s.store.slots.length ≤ 8 → t.store.slots.length ≤ 8

/-- `t` keeps what the invariants of the order table read of `s`. -/
structure State.Quiet (s t : State) : Prop extends State.Fits s t where
  counter : t.panel.mountCounter = s.panel.mountCounter
  present : t.panel.mountPresent = s.panel.mountPresent
  nextNumber : t.manager.nextNumber = s.manager.nextNumber
  assemblyTimer : t.manager.assemblyTimer = s.manager.assemblyTimer
  runOrder : t.run.map RunRecord.order = s.run.map RunRecord.order
  keys : s.RunOwns → t.manager.table.map Order.key = s.manager.table.map Order.key
  prewarm : t.lamp.prewarm = s.lamp.prewarm
  seized : t.line.state = .seized → s.line.state = .seized
  closed : s.store = Store.closed → t.store = Store.closed

@[simp] theorem OrderState.phase_running {st : OrderState} : st.phase = .running ↔ st.isRunning = true := by
  cases st <;> simp [OrderState.phase, OrderState.isRunning]

@[simp] theorem OrderState.phase_queued {st : OrderState} : st.phase = .queued ↔ st = .queued := by
  cases st <;> simp [OrderState.phase]

@[simp] theorem OrderState.phase_assembling {st : OrderState} : st.phase = .assembling ↔ st = .assembling := by
  cases st <;> simp [OrderState.phase]

theorem State.Fits.refl (s : State) : s.Fits s := ⟨rfl, id, id, id, id⟩

theorem State.Quiet.refl (s : State) : s.Quiet s :=
  { State.Fits.refl s with
    counter := rfl, present := rfl, nextNumber := rfl, assemblyTimer := rfl, runOrder := rfl, keys := fun _ => rfl
    prewarm := rfl, seized := id, closed := id }

theorem State.Fits.trans {s t u : State} (h : s.Fits t) (k : t.Fits u) : s.Fits u :=
  ⟨k.holding.trans h.holding, k.notices ∘ h.notices, k.queue ∘ h.queue, k.table ∘ h.table, k.slots ∘ h.slots⟩

/-- A list of orders with the keys of another holds, for each order of the other, one with its key. -/
theorem exists_of_keys {l m : List Order} (e : l.map Order.key = m.map Order.key) {o : Order} (ho : o ∈ l) :
    ∃ x ∈ m, x.key = o.key := by
  have : o.key ∈ m.map Order.key := e ▸ List.mem_map_of_mem ho
  simpa using this

theorem numbers_of_keys {l m : List Order} (e : l.map Order.key = m.map Order.key) :
    l.map Order.number = m.map Order.number := by
  have := congrArg (List.map Prod.fst) e
  simpa [Function.comp_def, Order.key] using this

theorem Order.isRunning_of_key {x o : Order} (e : x.key = o.key) (h : x.state.isRunning = true) :
    o.state.isRunning = true := by
  simp only [Order.key, Prod.mk.injEq] at e
  rw [← OrderState.phase_running, ← e.2.2, OrderState.phase_running, h]

/-- With the same keys and the same run order, a run record that owned its order still owns it. -/
theorem State.RunOwns.congr {s t : State} (h : s.RunOwns) (hr : t.run.map RunRecord.order = s.run.map RunRecord.order)
    (hk : t.manager.table.map Order.key = s.manager.table.map Order.key) : t.RunOwns := by
  intro r hrun o ho hn
  obtain ⟨x, hx, hxo⟩ := exists_of_keys hk ho
  rw [hrun] at hr
  obtain ⟨q, hq, hqr⟩ := Option.map_eq_some_iff.1 hr.symm
  have hnum : x.number = o.number := congrArg Prod.fst hxo
  exact Order.isRunning_of_key hxo (h q hq x hx (by rw [hnum, hn, hqr]))

theorem State.Quiet.owns {s t : State} (h : s.Quiet t) (ho : s.RunOwns) : t.RunOwns := ho.congr h.runOrder (h.keys ho)

theorem State.Quiet.trans {s t u : State} (h : s.Quiet t) (k : t.Quiet u) : s.Quiet u :=
  { h.toFits.trans k.toFits with
    counter := k.counter.trans h.counter
    present := k.present.trans h.present
    nextNumber := k.nextNumber.trans h.nextNumber
    assemblyTimer := k.assemblyTimer.trans h.assemblyTimer
    runOrder := k.runOrder.trans h.runOrder
    keys := fun ho => (k.keys (h.owns ho)).trans (h.keys ho)
    prewarm := k.prewarm.trans h.prewarm
    seized := h.seized ∘ k.seized
    closed := k.closed ∘ h.closed }

/-! ## Updates of one block -/

/-- The blocks that either relation reads. -/
def State.tracked (s : State) := (s.link, s.manager, s.panel, s.lamp, s.store, s.line, s.run, s.slips)

section
variable {s t u : State}

/-- A change of the other blocks is quiet. -/
theorem State.Quiet.frame (h : s.Quiet t) (e : u.tracked = t.tracked) : s.Quiet u := by
  simp only [State.tracked, Prod.mk.injEq] at e
  obtain ⟨hl, hm, hp, hlamp, hst, hline, hrun, hsl⟩ := e
  refine h.trans ⟨⟨?_, ?_, ?_, ?_, ?_⟩, ?_, ?_, ?_, ?_, ?_, fun _ => ?_, ?_, ?_, ?_⟩ <;> simp [*]

theorem State.Quiet.onDrum (h : s.Quiet t) {f : Drum → Drum} : s.Quiet (t.onDrum f) := h.frame rfl

theorem State.Quiet.onCarriage (h : s.Quiet t) {f : Carriage → Carriage} : s.Quiet (t.onCarriage f) := h.frame rfl

theorem State.Quiet.onCal (h : s.Quiet t) {f : CalRun → CalRun} : s.Quiet (t.onCal f) := h.frame rfl

theorem State.Quiet.onRun (h : s.Quiet t) {f : RunRecord → RunRecord} (hf : ∀ r, (f r).order = r.order) :
    s.Quiet (t.onRun f) :=
  h.trans { State.Quiet.refl t with
    runOrder := by cases hr : t.run <;> simp [State.onRun, hr, hf] }

theorem State.Quiet.onLamp (h : s.Quiet t) {f : Lamp → Lamp} (hf : (f t.lamp).prewarm = t.lamp.prewarm) :
    s.Quiet (t.onLamp f) := h.trans { State.Quiet.refl t with prewarm := hf }

/-- A line change that does not seize. -/
theorem State.Quiet.onLine (h : s.Quiet t) {f : LineUnit → LineUnit}
    (hf : (f t.line).state = .seized → t.line.state = .seized) : s.Quiet (t.onLine f) :=
  h.trans { State.Quiet.refl t with seized := hf }

theorem State.Quiet.onStore (h : s.Quiet t) {f : Store → Store} (hc : t.store = Store.closed → f t.store = Store.closed)
    (hs : t.store.slots.length ≤ 8 → (f t.store).slots.length ≤ 8) : s.Quiet (t.onStore f) :=
  h.trans { State.Quiet.refl t with closed := hc, slots := hs }

theorem State.Quiet.onSlips (h : s.Quiet t) {f : SlipUnit → SlipUnit}
    (hf : t.slips.queue.length ≤ 8 → (f t.slips).queue.length ≤ 8) : s.Quiet (t.onSlips f) :=
  h.trans { State.Quiet.refl t with queue := hf }

/-- A link change that holds the same requests and adds no notice past the bound. -/
theorem State.Quiet.onLink (h : s.Quiet t) {f : Link → Link} (hh : (f t.link).holding = t.link.holding)
    (hn : t.link.notices.length ≤ 24 → (f t.link).notices.length ≤ 24) : s.Quiet (t.onLink f) :=
  h.trans { State.Quiet.refl t with holding := hh, notices := hn }

/-- An operation done on a condition, quiet whether it is done or not. -/
theorem when_quiet {p : Prop} [Decidable p] {g : State → State} (hg : ∀ t, s.Quiet t → s.Quiet (g t)) (h : s.Quiet t) :
    s.Quiet (if p then g t else t) := by
  split
  · exact hg t h
  · exact h

/-! ## Notices and orders -/

@[simp] theorem Link.kick_holding (now : Nat) (l : Link) : (l.kick now).holding = l.holding := by
  unfold Link.kick
  split <;> rfl

/-- The transmitter takes at most a notice from the queue. -/
theorem Link.kick_notices (now : Nat) (l : Link) : (l.kick now).notices.length ≤ l.notices.length := by
  unfold Link.kick
  split <;> simp [*]

@[simp] theorem Link.place_holding (now : Nat) (n : Notice) (l : Link) : (l.place now n).holding = l.holding := by
  unfold Link.place
  split <;> simp

theorem Link.place_notices (now : Nat) (n : Notice) {l : Link} (h : l.notices.length ≤ 24) :
    (l.place now n).notices.length ≤ 24 := by
  unfold Link.place
  split
  · exact (Link.kick_notices _ _).trans (by simp only [List.length_append, List.length_singleton]; omega)
  · exact (Link.kick_notices _ _).trans h

theorem placeNotice_quiet {n : Notice} (h : s.Quiet t) : s.Quiet (placeNotice n t) :=
  h.onLink (Link.place_holding _ _ _) (Link.place_notices _ _)

theorem placeOrderEvent_quiet {n : Nat} {e : EventState} (h : s.Quiet t) : s.Quiet (placeOrderEvent n e t) := by
  unfold placeOrderEvent
  split
  · exact placeNotice_quiet h
  · exact h

/-- An update that keeps the keys of the orders it reaches. -/
theorem updateOrder_quiet_of_mem {n : Nat} {f : Order → Order} (h : s.Quiet t)
    (hf : ∀ o ∈ t.manager.table, o.number = n → (f o).key = o.key) : s.Quiet (updateOrder n f t) :=
  h.trans { State.Quiet.refl t with
    table := by simp [updateOrder]
    keys := fun _ => by
      simp only [updateOrder, onManager_manager, List.map_map]
      refine List.map_congr_left fun o ho => ?_
      simp only [Function.comp_apply]
      split
      · exact hf o ho ‹_›
      · rfl }

/-- An update of an order's other fields. -/
theorem updateOrder_quiet {n : Nat} {f : Order → Order} (h : s.Quiet t) (hf : ∀ o, (f o).key = o.key) :
    s.Quiet (updateOrder n f t) := updateOrder_quiet_of_mem h fun o _ _ => hf o

/-- The run record's order goes on to another running state. -/
theorem enterState_quiet {r : RunRecord} {st : OrderState} (h : s.Quiet t) (hr : t.run = some r)
    (hst : st.isRunning = true) : s.Quiet (enterState r.order st t) :=
  placeOrderEvent_quiet <| h.trans { State.Quiet.refl t with
    table := by simp [updateOrder]
    keys := fun owns => by
      simp only [updateOrder, onManager_manager, List.map_map]
      refine List.map_congr_left fun o ho => ?_
      simp only [Function.comp_apply]
      split
      · have hp := OrderState.phase_running.2 (owns r hr o ho ‹_›)
        simp [Order.key, hp, hst]
      · rfl }

/-! ## Carriage -/

theorem reportCarriage_quiet (h : s.Quiet t) : s.Quiet (reportCarriage t) := h.onRun fun _ => rfl

theorem returnCarriage_quiet (h : s.Quiet t) : s.Quiet (returnCarriage t) := by
  unfold returnCarriage
  split
  · exact reportCarriage_quiet h.onCarriage
  · exact h

theorem advanceByPitch_quiet {p : Nat} (h : s.Quiet t) : s.Quiet (advanceByPitch p t) := by
  unfold advanceByPitch
  split
  · exact reportCarriage_quiet h.onCarriage
  · exact h

/-! ## Lamp -/

@[simp] theorem Lamp.answer_prewarm (now : Nat) (l : Lamp) : (l.answer now).prewarm = l.prewarm := by
  unfold Lamp.answer
  split <;> rfl

theorem Lamp.setRequest_prewarm {q : LampRequest} (hq : q ≠ .prewarm) (b : Bool) (l : Lamp) :
    (l.setRequest q b).prewarm = l.prewarm := by
  cases q with
  | prewarm => exact absurd rfl hq
  | run => rfl
  | calibration => rfl

theorem reportLamp_quiet (h : s.Quiet t) : s.Quiet (reportLamp t) := h.onRun fun _ => rfl

theorem lampJoin_quiet {q : LampRequest} (hq : q ≠ .prewarm) (h : s.Quiet t) : s.Quiet (lampJoin q t) := by
  unfold lampJoin
  split
  · exact h
  · exact reportLamp_quiet (h.onLamp (by simp [Lamp.setRequest_prewarm hq]))

theorem lampWithdraw_quiet {q : LampRequest} (hq : q ≠ .prewarm) (h : s.Quiet t) : s.Quiet (lampWithdraw q t) := by
  unfold lampWithdraw
  split
  · refine h.onLamp ?_
    simp only
    split <;> simp [Lamp.setRequest_prewarm hq]
  · exact h

theorem setDarkHold_quiet (h : s.Quiet t) : s.Quiet (setDarkHold t) :=
  reportLamp_quiet (h.onLamp (by split <;> rfl))

theorem clearDarkHold_quiet (h : s.Quiet t) : s.Quiet (clearDarkHold t) :=
  reportLamp_quiet (h.onLamp (by split <;> simp))

/-! ## Calibration runs -/

theorem startSpinHold_quiet (h : s.Quiet t) : s.Quiet (startSpinHold t) := h.onDrum

theorem calGiveBack_quiet {k : CalKind} (h : s.Quiet t) : s.Quiet (calGiveBack k t) := by
  cases k with
  | motor => exact h
  | dark => exact clearDarkHold_quiet h
  | white => exact lampWithdraw_quiet (by decide) h
  | steps => exact returnCarriage_quiet (lampWithdraw_quiet (by decide) h).onCarriage

theorem calEnd_quiet {o : CalOutcome} {f : Option CalFailure} {n : Nat} {fig : CalFigures} (h : s.Quiet t) :
    s.Quiet (calEnd o f n fig t) := by
  unfold calEnd
  split
  · exact h
  · exact when_quiet (g := startSpinHold) (fun _ => startSpinHold_quiet)
      (calGiveBack_quiet (placeNotice_quiet (h.frame rfl)))

theorem calFail_quiet {f : CalFailure} {n : Nat} (h : s.Quiet t) : s.Quiet (calFail f n t) := by
  unfold calFail
  split
  · exact h
  · exact calEnd_quiet h

theorem calAbort_quiet {o : CalOutcome} (h : s.Quiet t) : s.Quiet (calAbort o t) := by
  unfold calAbort
  split
  · exact h
  · exact calEnd_quiet h

theorem calExamine_quiet (h : s.Quiet t) : s.Quiet (calExamine t) := by
  unfold calExamine
  split
  · exact h
  · split
    · exact h.onCal
    · exact h

theorem drumReportToCal_quiet (h : s.Quiet t) : s.Quiet (drumReportToCal t) := by
  unfold drumReportToCal
  split
  · exact h
  · split_ifs
    · exact h
    · exact calFail_quiet h
    · exact calExamine_quiet h

theorem noLockToCal_quiet (h : s.Quiet t) : s.Quiet (noLockToCal t) := by
  unfold noLockToCal
  split
  · exact h
  · split
    · exact calFail_quiet h
    · exact h

theorem carriageFaultToCal_quiet (h : s.Quiet t) : s.Quiet (carriageFaultToCal t) := by
  unfold carriageFaultToCal
  split
  · exact h
  · split
    · exact calFail_quiet h
    · exact h

theorem calArrived_quiet (h : s.Quiet t) : s.Quiet (calArrived t) := calExamine_quiet h.onCal

theorem reportArrival_quiet (h : s.Quiet t) : s.Quiet (reportArrival t) := by
  unfold reportArrival
  split
  · exact calArrived_quiet h
  · exact h

theorem moveFromHome_quiet {p : Nat} (h : s.Quiet t) : s.Quiet (moveFromHome p t) := by
  unfold moveFromHome
  split
  · exact calArrived_quiet h
  · exact reportArrival_quiet (reportCarriage_quiet h.onCarriage)

theorem moveTo_quiet {p : Nat} (h : s.Quiet t) : s.Quiet (moveTo p t) := by
  unfold moveTo
  split
  · exact moveFromHome_quiet h
  · exact h.onCarriage

theorem calOutcome_quiet {c : CalRun} (h : s.Quiet t) : s.Quiet (calOutcome c t) := by
  unfold calOutcome
  split
  · exact h
  · unfold darkOutcome
    dsimp only
    split
    · exact calEnd_quiet h
    · exact calEnd_quiet (h.frame rfl)
  · unfold whiteOutcome
    dsimp only
    split
    · exact calEnd_quiet h
    · exact calEnd_quiet (h.frame rfl)
  · unfold stepsOutcome
    dsimp only
    split
    · exact calEnd_quiet h
    · exact calEnd_quiet (h.frame rfl)

theorem calRevolutionEnd_quiet {locked : Bool} (h : s.Quiet t) : s.Quiet (calRevolutionEnd locked t) := by
  unfold calRevolutionEnd
  split
  · exact h
  · have hc : s.Quiet { t with cal := some (CalRun.countRevolution locked ‹_›) } := h.frame rfl
    dsimp only
    split_ifs
    · exact calOutcome_quiet hc
    · exact calFail_quiet hc
    · exact hc

theorem revolutionToCal_quiet {locked : Bool} {x : Nat} (h : s.Quiet t) : s.Quiet (revolutionToCal locked x t) := by
  unfold revolutionToCal
  split
  · exact h
  · split
    · dsimp only
      split
      · exact (calRevolutionEnd_quiet h).onCal
      · exact h.onCal
    · exact h

/-! ## Line unit -/

theorem lineCall_quiet {q : LineRequest} {a : Activity} {code : Nat} (h : s.Quiet t) : s.Quiet (lineCall q a code t) := by
  unfold lineCall
  split
  · refine h.onLine ?_
    unfold LineUnit.beginSending
    split
    · split <;> exact id
    · exact id
  · exact h

theorem lineListen_quiet (h : s.Quiet t) : s.Quiet (lineListen t) := by
  unfold lineListen
  split
  · refine h.onLine ?_
    dsimp only
    split
    · split <;> exact id
    · exact id
  · exact h

theorem lineHold_quiet (h : s.Quiet t) : s.Quiet (lineHold t) := by
  unfold lineHold
  split
  · exact h.onLine id
  · exact h

theorem startToneBegun_quiet (h : s.Quiet t) : s.Quiet (startToneBegun t) := by
  unfold startToneBegun
  split
  · rename_i r hr
    split
    · refine State.Quiet.onRun (enterState_quiet (updateOrder_quiet h ?_) hr rfl) ?_
      · exact fun _ => rfl
      · exact fun _ => rfl
    · exact h
  · exact h

theorem reportIfStartTone_quiet (h : s.Quiet t) : s.Quiet (reportIfStartTone t) := by
  unfold reportIfStartTone
  split
  · exact startToneBegun_quiet h
  · exact h

@[simp] theorem LineUnit.beginSending_state (now : Nat) (l : LineUnit) : (l.beginSending now).state = l.state := by
  unfold LineUnit.beginSending
  split
  · split <;> rfl
  · rfl

theorem lineStart_quiet {f : Figures} (h : s.Quiet t) : s.Quiet (lineStart f t) := by
  unfold lineStart
  split
  · refine reportIfStartTone_quiet (h.onLine ?_)
    dsimp only
    split <;> simp
  · exact h

theorem lineStopTone_quiet (h : s.Quiet t) : s.Quiet (lineStopTone t) := by
  unfold lineStopTone
  split_ifs
  · exact h
  · refine h.onLine ?_
    dsimp only
    split <;> simp [LineUnit.beginStopTone]
  · exact h

theorem lineRelease_quiet (h : s.Quiet t) : s.Quiet (lineRelease t) := by
  unfold lineRelease
  split
  · exact h.onLine (by simp [LineUnit.released])
  · exact h

@[simp] theorem LineUnit.sendLine_state (n : Nat) (k : SentKind) (v : List Nat) (l : LineUnit) :
    (l.sendLine n k v).state = l.state := by
  unfold LineUnit.sendLine
  split <;> rfl

/-! ## Line store -/

theorem closeStore_quiet (h : s.Quiet t) : s.Quiet (closeStore t) :=
  h.onStore (fun _ => rfl) fun _ => by simp [Store.closed]

theorem Store.afterRead_closed {st : Store} (h : st = Store.closed) : st.afterRead = Store.closed := by
  subst h
  rfl

theorem Store.afterRead_slots (st : Store) : st.afterRead.slots.length ≤ st.slots.length := by
  unfold Store.afterRead
  split <;> simp

theorem Store.offer_closed {l : PictureLine} {st : Store} (h : st = Store.closed) : st.offer l = Store.closed := by
  subst h
  rfl

/-- An offer is accepted only below 8 lines (R118). -/
theorem Store.offer_slots {l : PictureLine} {st : Store} (h : st.slots.length ≤ 8) : (st.offer l).slots.length ≤ 8 := by
  unfold Store.offer
  split
  · have ha : st.slots.length < 8 := by
      have := ‹st.offerAnswer = .accepted›
      unfold Store.offerAnswer at this
      split_ifs at this
      assumption
    simp only [List.length_append, List.length_singleton]
    omega
  · exact h

theorem readStore_quiet (h : s.Quiet t) : s.Quiet (readStore t) := by
  unfold readStore
  split
  · exact h
  · have hc : ∀ f : Counts → Counts, s.Quiet (match t.run with
        | some r => updateOrder r.order (fun o => { o with counts := f o.counts }) t
        | none => t) := by
      intro f
      split
      · exact updateOrder_quiet h fun _ => rfl
      · exact h
    exact ((hc _).onStore Store.afterRead_closed fun hs => (Store.afterRead_slots _).trans hs).onDrum

/-! ## Run sequencer -/

theorem makeLineAction_quiet {a : LineAction} (h : s.Quiet t) : s.Quiet (makeLineAction a t) := by
  cases a with
  | none => exact h
  | release => exact lineRelease_quiet h
  | stopTone =>
    simp only [makeLineAction]
    split
    · exact lineStopTone_quiet h
    · exact lineRelease_quiet h

theorem stopScan_quiet (h : s.Quiet t) : s.Quiet (stopScan t) := returnCarriage_quiet (h.frame rfl)

theorem trimOff_quiet (h : s.Quiet t) : s.Quiet (trimOff t) := h.onDrum

theorem firstAbort_quiet {c : AbortCause} {r : RunRecord} {o : Order} (h : s.Quiet t) : s.Quiet (firstAbort c r o t) :=
  makeLineAction_quiet <| when_quiet (g := trimOff) (fun _ => trimOff_quiet) <|
    when_quiet (g := stopScan) (fun _ => stopScan_quiet) <|
      closeStore_quiet (updateOrder_quiet (h.onRun fun _ => rfl) fun _ => rfl)

theorem secondAbort_quiet {c : AbortCause} {r : RunRecord} (h : s.Quiet t) : s.Quiet (secondAbort c r t) := by
  unfold secondAbort
  split
  · exact lineRelease_quiet (h.onRun fun _ => rfl)
  · exact h

theorem runAbort_quiet {c : AbortCause} (h : s.Quiet t) : s.Quiet (runAbort c t) := by
  unfold runAbort
  split
  · exact h
  · split
    · exact h
    · split_ifs
      · exact secondAbort_quiet h
      · exact firstAbort_quiet h
      · exact h

theorem examineStart_quiet (h : s.Quiet t) : s.Quiet (examineStart t) := by
  unfold examineStart
  split
  · exact h
  · split
    · exact h
    · split
      · exact lineStart_quiet (h.onRun fun _ => rfl)
      · exact h

theorem rollCallEnd_quiet (h : s.Quiet t) : s.Quiet (rollCallEnd t) := by
  unfold rollCallEnd
  split
  · exact h
  · split
    · exact h
    · have hr : s.Quiet (t.onRun fun r => { r with rollEnded := true }) := h.onRun fun _ => rfl
      dsimp only
      split
      · have he := examineStart_quiet ((updateOrder_quiet (n := Order.number ‹_›)
          (f := fun o => { o with defer := .running t.now }) hr fun _ => rfl).onRun
          (f := fun r => { r with deferTimer := some (t.now + sec 60) }) fun _ => rfl)
        split
        · exact he
        · exact lineHold_quiet he
      · exact lineRelease_quiet hr

theorem rollCallStep_quiet {out : Option ReplyTone} {r : RunRecord} {o : Order} (h : s.Quiet t) :
    s.Quiet (rollCallStep out r o t) := by
  unfold rollCallStep
  split
  · exact lineCall_quiet (h.onRun fun _ => rfl)
  · have hu := updateOrder_quiet (n := o.number) (f := setDest r.index (rollCallResult out)) h fun _ => rfl
    dsimp only
    split
    · exact lineCall_quiet (hu.onRun fun _ => rfl)
    · exact rollCallEnd_quiet hu

theorem pollNext_quiet (h : s.Quiet t) : s.Quiet (pollNext t) := by
  unfold pollNext
  split
  · exact h
  · split
    · exact h
    · split
      · exact lineCall_quiet h
      · exact lineRelease_quiet h

theorem confirmStep_quiet {out : Option ReplyTone} {r : RunRecord} {o : Order} (h : s.Quiet t) :
    s.Quiet (confirmStep out r o t) := by
  unfold confirmStep
  dsimp only
  split <;> split
  · exact pollNext_quiet (updateOrder_quiet h fun _ => rfl)
  · exact pollNext_quiet h
  · exact lineRelease_quiet (updateOrder_quiet h fun _ => rfl)
  · exact lineRelease_quiet h

/-- A report that a run without an abort cause answers quietly. -/
theorem withRun_quiet {f : RunRecord → Order → State → State} (h : s.Quiet t)
    (hf : ∀ r o, t.run = some r → s.Quiet (f r o t)) : s.Quiet (withRun f t) := by
  unfold withRun
  split
  · exact h
  · split
    · exact h
    · split
      · exact h
      · exact hf _ _ ‹_›

theorem listenOutcome_quiet {out : Option ReplyTone} (h : s.Quiet t) : s.Quiet (listenOutcome out t) := by
  refine withRun_quiet h fun r o _ => ?_
  split
  · exact rollCallStep_quiet h
  · exact confirmStep_quiet h
  · exact h

theorem noDialToneReport_quiet (h : s.Quiet t) : s.Quiet (noDialToneReport t) := by
  refine withRun_quiet h fun r o _ => ?_
  split
  · exact rollCallEnd_quiet (updateOrder_quiet h fun _ => rfl)
  · exact h

theorem phasingLineReport_quiet {n : Nat} (h : s.Quiet t) : s.Quiet (phasingLineReport n t) := by
  refine withRun_quiet h fun r o _ => ?_
  split
  · exact (h.onRun (f := fun r => { r with scanStarted := true }) fun _ => rfl).frame rfl
  · exact h

theorem phasingEndedReport_quiet (h : s.Quiet t) : s.Quiet (phasingEndedReport t) := by
  refine withRun_quiet h fun r o hr => ?_
  split
  · exact enterState_quiet h hr (by decide)
  · exact h

theorem endOfPictureReport_quiet (h : s.Quiet t) : s.Quiet (endOfPictureReport t) := by
  refine withRun_quiet h fun r o hr => ?_
  split
  · exact trimOff_quiet (closeStore_quiet (enterState_quiet h hr (by decide)))
  · exact h

theorem stopToneEndedReport_quiet (h : s.Quiet t) : s.Quiet (stopToneEndedReport t) := by
  unfold stopToneEndedReport
  split
  · exact h
  · split
    · exact h
    · split_ifs
      · exact lineRelease_quiet (updateOrder_quiet (h.onRun fun _ => rfl) fun _ => rfl)
      · dsimp only
        split
        · exact pollNext_quiet (enterState_quiet (updateOrder_quiet h fun _ => rfl) ‹_› (by decide))
        · exact lineListen_quiet (enterState_quiet (updateOrder_quiet h fun _ => rfl) ‹_› (by decide))
      · exact h

theorem deferExpired_quiet (h : s.Quiet t) : s.Quiet (deferExpired t) := runAbort_quiet (h.onRun fun _ => rfl)

theorem drumReportToRun_quiet (h : s.Quiet t) : s.Quiet (drumReportToRun t) := examineStart_quiet (h.onRun fun _ => rfl)

theorem noLockToRun_quiet (h : s.Quiet t) : s.Quiet (noLockToRun t) :=
  withRun_quiet h fun _ _ _ => when_quiet (g := runAbort .drumFault) (fun _ => runAbort_quiet) h

theorem revolutionToRun_quiet {locked : Bool} (h : s.Quiet t) : s.Quiet (revolutionToRun locked t) := by
  unfold revolutionToRun
  split
  · exact h
  · split
    · exact h
    · split
      · exact when_quiet (g := runAbort .drumFault) (fun _ => runAbort_quiet) (h.onRun fun _ => rfl)
      · exact h

theorem countRescan_quiet (h : s.Quiet t) : s.Quiet (countRescan t) :=
  withRun_quiet h fun _ _ _ => updateOrder_quiet h fun _ => rfl

/-! ## Drum -/

theorem drumEvent_quiet {c : DrumCause} (h : s.Quiet t) : s.Quiet (drumEvent c t) := placeNotice_quiet h

theorem reportDrum_quiet (h : s.Quiet t) : s.Quiet (reportDrum t) := drumReportToCal_quiet (drumReportToRun_quiet h)

theorem drumChanged_quiet (h : s.Quiet t) : s.Quiet (drumChanged t) := reportDrum_quiet (drumEvent_quiet h)

theorem speedRequest_quiet {rpm : Nat} (h : s.Quiet t) : s.Quiet (speedRequest rpm t) := by
  unfold speedRequest
  split_ifs
  · exact h
  · exact reportDrum_quiet h.onDrum
  · exact drumChanged_quiet h.onDrum
  · exact h

theorem enterSpinningDown_quiet (h : s.Quiet t) : s.Quiet (enterSpinningDown t) := drumChanged_quiet h.onDrum

theorem stopRequest_quiet {b : Bool} (h : s.Quiet t) : s.Quiet (stopRequest b t) := by
  unfold stopRequest
  split
  · exact enterSpinningDown_quiet h
  · exact enterSpinningDown_quiet h
  · exact enterSpinningDown_quiet h
  · exact enterSpinningDown_quiet h
  · exact when_quiet (fun _ => enterSpinningDown_quiet) h
  · exact h
  · exact h

theorem motorComplete_quiet {p1 p2 : Nat} (h : s.Quiet t) : s.Quiet (motorComplete p1 p2 t) := by
  unfold motorComplete
  dsimp only
  split
  · exact calEnd_quiet (stopRequest_quiet (h.frame rfl))
  · exact calEnd_quiet (stopRequest_quiet h)

theorem motorPeriod_quiet {p : Nat} (h : s.Quiet t) : s.Quiet (motorPeriod p t) := by
  unfold motorPeriod
  split
  · exact h
  · dsimp only
    split
    · split
      · exact h.frame rfl
      · exact h.frame rfl
    · split
      · exact motorComplete_quiet h
      · exact h.frame rfl
    · exact h

theorem noLockFound_quiet (h : s.Quiet t) : s.Quiet (noLockFound t) :=
  noLockToCal_quiet (noLockToRun_quiet (drumEvent_quiet h.onDrum))

theorem stallFound_quiet (h : s.Quiet t) : s.Quiet (stallFound t) :=
  calFail_quiet (runAbort_quiet (drumReportToRun_quiet (drumEvent_quiet h.onDrum)))

theorem regulate_quiet {P : Nat} (h : s.Quiet t) : s.Quiet (regulate P t) := by
  have hl := h.onDrum (f := Drum.loopStep t.motor t.settings P t.now)
  unfold regulate
  dsimp only
  split
  · split
    · exact (drumEvent_quiet hl).onDrum
    · exact drumChanged_quiet (drumEvent_quiet hl).onDrum
  · split
    · exact hl.onDrum
    · exact drumChanged_quiet hl.onDrum

theorem calTakeDrum_quiet {asks : Bool} (h : s.Quiet t) : s.Quiet (calTakeDrum asks t) :=
  calExamine_quiet <| when_quiet (g := noLockToCal) (fun _ => noLockToCal_quiet) <|
    when_quiet (g := speedRequest 60) (fun _ => speedRequest_quiet) h

theorem beginMotor_quiet (h : s.Quiet t) : s.Quiet (beginMotor t) := drumChanged_quiet (h.frame rfl)

theorem beginDark_quiet (h : s.Quiet t) : s.Quiet (beginDark t) := calTakeDrum_quiet (setDarkHold_quiet (h.frame rfl))

theorem beginWhite_quiet (h : s.Quiet t) : s.Quiet (beginWhite t) :=
  calTakeDrum_quiet (lampJoin_quiet (by decide) (h.frame rfl))

theorem beginSteps_quiet {p : Nat} {l : List TabletStep} (h : s.Quiet t) : s.Quiet (beginSteps p l t) :=
  when_quiet (g := moveTo p) (fun _ => moveTo_quiet) <|
    calTakeDrum_quiet (lampJoin_quiet (by decide) (h.frame rfl))

theorem quietExpired_quiet (h : s.Quiet t) : s.Quiet (quietExpired t) := drumChanged_quiet h.onDrum

theorem spinHoldExpired_quiet (h : s.Quiet t) : s.Quiet (spinHoldExpired t) := by
  unfold spinHoldExpired
  dsimp only
  split_ifs
  · exact h.onDrum
  · exact stopRequest_quiet h.onDrum
  · exact h.onDrum

/-! ## Scan -/

theorem lineAccepted_quiet {sc : ScanRecord} (h : s.Quiet t) : s.Quiet (lineAccepted sc t) :=
  advanceByPitch_quiet (h.frame rfl)

theorem scanDone_quiet (h : s.Quiet t) : s.Quiet (scanDone t) := (stopScan_quiet h).onRun fun _ => rfl

theorem offerLine_quiet {l : PictureLine} {sc : ScanRecord} (h : s.Quiet t) : s.Quiet (offerLine l sc t) := by
  unfold offerLine
  split
  · have ho := h.onStore (f := Store.offer l) Store.offer_closed Store.offer_slots
    dsimp only
    split
    · exact scanDone_quiet ho
    · exact lineAccepted_quiet ho
  · exact countRescan_quiet h
  · exact h

theorem lampFault_quiet (h : s.Quiet t) : s.Quiet (lampFault t) := runAbort_quiet (stopScan_quiet h)

theorem completeLine_quiet {locked : Bool} {sc : ScanRecord} (h : s.Quiet t) : s.Quiet (completeLine locked sc t) := by
  unfold completeLine
  dsimp only
  split
  · exact lampFault_quiet (h.frame rfl)
  · exact offerLine_quiet (h.frame rfl)

theorem beginRevolution_quiet {x : Nat} (h : s.Quiet t) : s.Quiet (beginRevolution x t) := by
  unfold beginRevolution
  split
  · exact h
  · split
    · exact h.frame rfl
    · exact h

theorem revolutionToScan_quiet {locked : Bool} {x : Nat} (h : s.Quiet t) : s.Quiet (revolutionToScan locked x t) := by
  refine beginRevolution_quiet ?_
  split
  · exact h
  · exact when_quiet (fun _ => completeLine_quiet) h

theorem indexPulse_quiet {x : Nat} (h : s.Quiet t) : s.Quiet (indexPulse x t) := by
  have hm : s.Quiet { t.onDrum (Drum.measure t.now) with encoder := { count := 0, high := true } } := h.frame rfl
  have hturn : ∀ measuring : Bool, ∀ u, s.Quiet u → ∀ locked,
      s.Quiet (if measuring then revolutionToCal locked x (revolutionReport locked x u) else revolutionReport locked x u) :=
    fun _ _ hu _ => when_quiet (fun _ => revolutionToCal_quiet) (revolutionToRun_quiet (revolutionToScan_quiet hu))
  have hreg : ∀ p : Option Nat, s.Quiet (match p with
      | some P => regulate P { t.onDrum (Drum.measure t.now) with encoder := { count := 0, high := true } }
      | none => { t.onDrum (Drum.measure t.now) with encoder := { count := 0, high := true } }) := by
    intro p
    cases p with
    | none => exact hm
    | some P => exact regulate_quiet hm
  unfold indexPulse
  dsimp only
  split
  · exact hturn _ _ (hreg _) _
  · exact hturn _ _ (hreg _) _
  · exact hturn _ _ (hreg _) _
  · exact hm.onDrum
  · split
    · exact motorPeriod_quiet hm
    · exact hm
  · exact hm
  · exact hm

/-! ## Lamp timers and carriage movements -/

theorem warmUpDone_quiet (h : s.Quiet t) : s.Quiet (warmUpDone t) :=
  calExamine_quiet (examineStart_quiet (reportLamp_quiet (h.onLamp rfl)))

theorem carriageFailed_quiet (h : s.Quiet t) : s.Quiet (carriageFailed t) :=
  carriageFaultToCal_quiet (runAbort_quiet (reportCarriage_quiet h.onCarriage))

theorem homeStep_quiet (h : s.Quiet t) : s.Quiet (homeStep t) :=
  when_quiet (g := carriageFailed) (fun _ => carriageFailed_quiet) h.onCarriage

theorem carriageStep_quiet (h : s.Quiet t) : s.Quiet (carriageStep t) := by
  unfold carriageStep
  split_ifs
  · exact homeStep_quiet h
  · exact reportArrival_quiet h.onCarriage
  · exact h

theorem homeReached_quiet (h : s.Quiet t) : s.Quiet (homeReached t) := by
  have hr := reportCarriage_quiet (h.onCarriage (f := fun c => { c.arriveHome with waitingMove := none }))
  unfold homeReached
  dsimp only
  split
  · exact examineStart_quiet (moveFromHome_quiet hr)
  · exact examineStart_quiet hr

/-! ## Line times, signals and listens -/

theorem pictureLine_quiet {S : Nat} (h : s.Quiet t) : s.Quiet (pictureLine S t) :=
  (readStore_quiet h).onLine (by simp)

theorem lineBoundary_quiet (h : s.Quiet t) : s.Quiet (lineBoundary t) := by
  unfold lineBoundary
  split
  · unfold phasingBoundary
    split
    · exact phasingLineReport_quiet (h.onLine (by simp))
    · exact pictureLine_quiet ((phasingEndedReport_quiet h).onLine id)
  · unfold pictureBoundary
    split
    · exact endOfPictureReport_quiet (h.onLine id)
    · exact pictureLine_quiet h
  · exact h

theorem guardOver_quiet (h : s.Quiet t) : s.Quiet (guardOver t) := by
  unfold guardOver
  split
  · exact h.onLine id
  · exact reportIfStartTone_quiet (h.onLine id)

theorem listenEnds_quiet {out : Option ReplyTone} (h : s.Quiet t) : s.Quiet (listenEnds out t) :=
  listenOutcome_quiet (h.onLine id)

@[simp] theorem LineUnit.qualify_state (tone : ReplyTone) (now : Nat) (l : LineUnit) :
    (l.qualify tone now).state = l.state := by
  unfold LineUnit.qualify
  split
  · split <;> rfl
  · rfl

theorem lineLost_quiet (h : s.Quiet t) : s.Quiet (lineLost t) :=
  (runAbort_quiet (placeNotice_quiet (h.onLine (f := fun l => { l with loopTimer := none }) id))).onLine
    (by simp [LineUnit.released])

/-! ## Slips -/

theorem startSlip_quiet (h : s.Quiet t) : s.Quiet (startSlip t) := by
  unfold startSlip
  split
  · exact h.onSlips id
  · exact h

theorem printerFree_quiet (h : s.Quiet t) : s.Quiet (printerFree t) := startSlip_quiet (h.onSlips id)

theorem joinSlip_quiet {sl : Slip} (h : s.Quiet t) (hq : t.slips.queue.length < 8) : s.Quiet (joinSlip sl t) :=
  startSlip_quiet (h.onSlips fun _ => by simp only [List.length_append, List.length_singleton]; omega)

theorem paperEvent_quiet {c : SlipCause} (h : s.Quiet t) : s.Quiet (paperEvent c t) := by
  unfold paperEvent
  split
  · exact placeNotice_quiet h
  · exact placeNotice_quiet h

theorem SlipUnit.paperOut_queue (u : SlipUnit) : u.paperOut.queue.length = u.queue.length := by
  unfold SlipUnit.paperOut
  dsimp only
  split <;> simp [*]

theorem paperReturns_quiet (h : s.Quiet t) : s.Quiet (paperReturns t) := by
  unfold paperReturns
  split
  · exact h.onSlips id
  · exact startSlip_quiet (h.onSlips id)
  · exact h.onSlips id

theorem fedRow_quiet {p : FeedPurpose} {left : Nat} (h : s.Quiet t) : s.Quiet (fedRow p left t) := by
  unfold fedRow
  split
  · exact h.onSlips id
  · split
    · exact h.onSlips id
    · exact printerFree_quiet h

end

end Sys2Proof.Machine
end

section
/-! PROOF. How a property of states survives a command: it does when it survives quiet changes and the few operations that
begin, end or remove an order. One case analysis over the 72 commands serves every such property. -/

namespace Sys2Proof.Machine

/-- The property survives quiet changes and the operations that are not quiet. -/
structure Kept (P : State → Prop) : Prop where
  quiet : ∀ {s t : State}, s.Quiet t → P s → P t
  power : ∀ (l : Levels) (s : State), P { State.atPower l with pending := s.pending }
  offer : ∀ (r : Request) {s : State}, P s → P (offerFrame r s)
  sent : ∀ {s : State}, P s → P (frameDone s)
  expired : ∀ {s : State}, P s → P (assemblyExpired s)
  select : ∀ {s : State}, P s → P (select s)
  retire : ∀ {s : State}, P s → P (retire s)
  mountStart : ∀ {s : State}, P s → P (mountStart s)
  mountEnd : ∀ {s : State}, P s → P (mountEnd s)
  cleared : ∀ {s : State}, P s → P (releaseCleared s)

section
variable {P : State → Prop} {s t u : State}

theorem advance_quiet (dt : Nat) (s : State) : s.Quiet (advance dt s) := (State.Quiet.refl s).frame rfl

namespace Kept

/-- An operation done on a condition, such as a timer that is due. -/
theorem when (c : Prop) [Decidable c] (ht : P t) (hu : P u) : P (if c then t else u) := by
  split
  · exact ht
  · exact hu

theorem selectAfterCal (k : Kept P) (h : P t) : P (selectAfterCal s t) := Kept.when _ (k.select h) h

theorem arrive (k : Kept P) (kind tag : Byte) (p : List Byte) (h : P s) : P (arrive kind tag p s) :=
  Kept.when _ (k.quiet ((State.Quiet.refl s).onLink rfl id) h) (k.offer _ h)

theorem receiveByte (k : Kept P) (b : Byte) (h : P s) : P (receiveByte b s) := by
  have hq : s.Quiet (s.onLink fun l =>
      { l with
        receiver := (takeByte b s.now s.link.receiver s.link.gapTimer).receiver
        gapTimer := (takeByte b s.now s.link.receiver s.link.gapTimer).gapTimer
        linkError := l.linkError || (takeByte b s.now s.link.receiver s.link.gapTimer).linkError }) :=
    (State.Quiet.refl s).onLink rfl id
  unfold Machine.receiveByte
  dsimp only
  split
  · exact k.offer _ (k.quiet hq h)
  · exact k.quiet hq h

theorem doorInterlock (k : Kept P) (h : P s) : P (doorInterlock s) := by
  have hd : s.Quiet (s.onDrum (Drum.interlock s.now)) := (State.Quiet.refl s).onDrum
  refine k.mountEnd (k.quiet (calAbort_quiet (runAbort_quiet (drumReportToRun_quiet ?_))) h)
  split
  · exact hd
  · exact drumEvent_quiet hd

theorem panelEvent (k : Kept P) {i : PanelInput} {level : Option Nat} (h : P s) : P (panelEvent i level s) :=
  k.quiet (placeNotice_quiet (.refl s)) h

/-- A switch of the panel moves, the mount as it was. -/
theorem onPanel (k : Kept P) {f : Panel → Panel} (hc : (f s.panel).mountCounter = s.panel.mountCounter)
    (hp : (f s.panel).mountPresent = s.panel.mountPresent) (h : P s) : P (s.onPanel f) :=
  k.quiet { State.Quiet.refl s with counter := hc, present := hp } h

theorem openDoor (k : Kept P) (h : P s) : P (openDoor s) :=
  k.panelEvent (k.selectAfterCal (k.doorInterlock (k.onPanel rfl rfl h)))

theorem releaseClamp (k : Kept P) (h : P s) : P (releaseClamp s) := by
  refine k.panelEvent (k.selectAfterCal ?_)
  exact Kept.when _ (k.doorInterlock (k.onPanel rfl rfl h)) (k.mountEnd (k.onPanel rfl rfl h))

theorem examineMount (k : Kept P) (h : P s) : P (examineMount s) := Kept.when _ (k.mountStart h) h

theorem stopKey (k : Kept P) (h : P s) :
    P (Machine.panelEvent .stop none
      (stopRequest false (calAbort .stopped (runAbort .stop (s.onManager fun m => { m with state := .halted }))))) := by
  have hm : s.Quiet (s.onManager fun m => { m with state := .halted }) := { State.Quiet.refl s with }
  exact k.panelEvent (k.quiet (stopRequest_quiet (calAbort_quiet (runAbort_quiet hm))) h)

theorem rowStep (k : Kept P) (h : P s) : P (rowStep s) := by
  unfold Machine.rowStep
  split
  · refine Kept.when _ (k.quiet ((State.Quiet.refl s).onSlips id) h) ?_
    have hq : s.Quiet (s.onSlips fun u => { u with queue := u.queue.tail, lastPrinted := some ‹_› }) :=
      (State.Quiet.refl s).onSlips fun hl => by simp only [List.length_tail]; omega
    exact k.quiet (printerFree_quiet (.refl _)) (k.retire (k.quiet (placeNotice_quiet hq) h))
  · exact k.quiet (fedRow_quiet (.refl s)) h
  · exact h

/-- Every command keeps the property. -/
theorem exec (k : Kept P) (i : Instr) (h : P s) : ∃ t, exec i s = .next t ∧ P t := by
  have ha : ∀ dt, P (advance dt s) := fun dt => k.quiet (advance_quiet dt s) h
  have hq : ∀ {dt t}, (advance dt s).Quiet t → P t := fun {dt} _ hq => k.quiet hq (ha dt)
  cases hf : i.frame with
  | some f => exact ⟨_, exec_frame hf s, k.arrive _ _ _ (ha f.1)⟩
  | none =>
    cases i with
    | powerOn l => exact ⟨_, rfl, k.power l s⟩
    | linkByteReceived dt b => exact ⟨_, rfl, k.receiveByte b (ha dt)⟩
    | gapTimerExpiry dt => exact ⟨_, rfl, Kept.when _ (hq ((State.Quiet.refl _).onLink rfl id)) (ha dt)⟩
    | frameSent dt => exact ⟨_, rfl, Kept.when _ (k.sent (ha dt)) (ha dt)⟩
    | assemblyTimeout dt => exact ⟨_, rfl, Kept.when _ (k.expired (ha dt)) (ha dt)⟩
    | doorOpen dt => exact ⟨_, rfl, Kept.when _ (k.openDoor (ha dt)) (ha dt)⟩
    | doorClose dt =>
      exact ⟨_, rfl, Kept.when _ (k.panelEvent (k.examineMount (k.onPanel rfl rfl (ha dt)))) (ha dt)⟩
    | clampEngage dt =>
      exact ⟨_, rfl, Kept.when _ (k.panelEvent (k.examineMount (k.onPanel rfl rfl (ha dt)))) (ha dt)⟩
    | clampRelease dt => exact ⟨_, rfl, Kept.when _ (k.releaseClamp (ha dt)) (ha dt)⟩
    | stopKey dt => exact ⟨_, rfl, k.stopKey (ha dt)⟩
    | indexPulse dt x => exact ⟨_, rfl, k.selectAfterCal (hq (indexPulse_quiet (.refl _)))⟩
    | spinUpLimitExpiry dt =>
      exact ⟨_, rfl, Kept.when _ (k.selectAfterCal (hq (noLockFound_quiet (.refl _)))) (ha dt)⟩
    | stall dt => exact ⟨_, rfl, Kept.when _ (k.selectAfterCal (hq (stallFound_quiet (.refl _)))) (ha dt)⟩
    | quietTimerExpiry dt => exact ⟨_, rfl, Kept.when _ (hq (quietExpired_quiet (.refl _))) (ha dt)⟩
    | spinHoldExpiry dt =>
      exact ⟨_, rfl, Kept.when _ (k.selectAfterCal (hq (spinHoldExpired_quiet (.refl _)))) (ha dt)⟩
    | motorSettleEnd dt => exact ⟨_, rfl, Kept.when _ (hq (State.Quiet.onCal (.refl _))) (ha dt)⟩
    | darkLampSettled dt => exact ⟨_, rfl, Kept.when _ (hq (calExamine_quiet (.refl _))) (ha dt)⟩
    | warmUpExpiry dt => exact ⟨_, rfl, Kept.when _ (hq (warmUpDone_quiet (.refl _))) (ha dt)⟩
    | lampIdleExpiry dt =>
      exact ⟨_, rfl, Kept.when _ (hq (calExamine_quiet (reportLamp_quiet (State.Quiet.onLamp (.refl _) rfl)))) (ha dt)⟩
    | carriageStep dt =>
      exact ⟨_, rfl, Kept.when _ (k.selectAfterCal (hq (carriageStep_quiet (.refl _)))) (ha dt)⟩
    | homeSwitchClose dt =>
      exact ⟨_, rfl, Kept.when _ (hq (homeReached_quiet (.refl _))) (hq (State.Quiet.onCarriage (.refl _)))⟩
    | homeSearchLimit dt =>
      exact ⟨_, rfl, Kept.when _ (k.selectAfterCal (hq (homeStep_quiet (.refl _)))) (ha dt)⟩
    | lineBoundary dt => exact ⟨_, rfl, Kept.when _ (hq (lineBoundary_quiet (.refl _))) (ha dt)⟩
    | startToneEnd dt =>
      exact ⟨_, rfl, Kept.when _ (hq (phasingLineReport_quiet (State.Quiet.onLine (.refl _) id))) (ha dt)⟩
    | stopToneEnd dt =>
      exact ⟨_, rfl, Kept.when _ (hq (stopToneEndedReport_quiet (State.Quiet.onLine (.refl _) id))) (ha dt)⟩
    | releaseCleared dt => exact ⟨_, rfl, Kept.when _ (k.cleared (ha dt)) (ha dt)⟩
    | loopCurrentLost dt => exact ⟨_, rfl, Kept.when _ (hq (State.Quiet.onLine (.refl _) id)) (ha dt)⟩
    | loopCurrentReturn dt => exact ⟨_, rfl, hq (State.Quiet.onLine (.refl (advance dt s)) id)⟩
    | lineLoss dt => exact ⟨_, rfl, Kept.when _ (hq (lineLost_quiet (.refl _))) (ha dt)⟩
    | guardExpiry dt => exact ⟨_, rfl, Kept.when _ (hq (guardOver_quiet (.refl _))) (ha dt)⟩
    | callEnd dt =>
      exact ⟨_, rfl, Kept.when _ (hq (State.Quiet.onLine (.refl _) id))
        (Kept.when _ (hq (State.Quiet.onLine (.refl _) id)) (ha dt))⟩
    | replyQualified dt tone => exact ⟨_, rfl, hq (State.Quiet.onLine (.refl (advance dt s)) (by simp))⟩
    | replyEnd dt =>
      refine ⟨_, rfl, ?_⟩
      split
      · exact hq (listenEnds_quiet (.refl _))
      · exact ha dt
    | replyOverlong dt =>
      refine ⟨_, rfl, ?_⟩
      split
      · exact hq (listenEnds_quiet (.refl _))
      · exact ha dt
    | replyWindowExpiry dt => exact ⟨_, rfl, Kept.when _ (hq (listenEnds_quiet (.refl _))) (ha dt)⟩
    | dialToneFound dt => exact ⟨_, rfl, Kept.when _ (hq (State.Quiet.onLine (.refl _) id)) (ha dt)⟩
    | noDialTone dt =>
      exact ⟨_, rfl, Kept.when _ (hq (noDialToneReport_quiet (State.Quiet.onLine (.refl _) id))) (ha dt)⟩
    | dialDigitsEnd dt => exact ⟨_, rfl, Kept.when _ (hq (State.Quiet.onLine (.refl _) id)) (ha dt)⟩
    | holdBurst dt => exact ⟨_, rfl, Kept.when _ (hq (State.Quiet.onLine (.refl _) id)) (ha dt)⟩
    | holdBurstEnd dt =>
      exact ⟨_, rfl, Kept.when _ (hq (reportIfStartTone_quiet (State.Quiet.onLine (.refl _) id))) (ha dt)⟩
    | deferLimitExpiry dt => exact ⟨_, rfl, Kept.when _ (hq (deferExpired_quiet (.refl _))) (ha dt)⟩
    | paperOut dt =>
      refine ⟨_, rfl, Kept.when _ (hq (paperEvent_quiet (State.Quiet.onSlips (.refl _) ?_))) (ha dt)⟩
      simp [SlipUnit.paperOut_queue]
    | paperBack dt => exact ⟨_, rfl, Kept.when _ (hq (paperEvent_quiet (paperReturns_quiet (.refl _)))) (ha dt)⟩
    | rowStepEnd dt => exact ⟨_, rfl, Kept.when _ (k.rowStep (ha dt)) (ha dt)⟩
    | timeOfDayTick dt => exact ⟨_, rfl, Kept.when _ (hq ((State.Quiet.refl (advance dt s)).frame rfl)) (ha dt)⟩
    | encoderCount dt e x => exact ⟨_, rfl, Kept.when _ (hq ((State.Quiet.refl (advance dt s)).frame rfl)) (ha dt)⟩
    | _ => simp [Instr.frame] at hf

/-- Every step keeps the property. -/
theorem step (k : Kept P) (h : P s) (e : step s = .next t) : P t := by
  unfold Machine.step at e
  split at e
  · cases e
    exact h
  · obtain ⟨u, hu, hP⟩ := k.exec (s := { s with pending := ‹_› }) ‹Instr› (k.quiet ((State.Quiet.refl s).frame rfl) h)
    rw [hu] at e
    cases e
    exact hP

end Kept

/-- The oldest held request is served: its answer's state, with the reply placed when there is one. -/
theorem serveFront_ind (h : P s) (ha : ∀ r, P (answer r s).2) (hr : ∀ r a t, P t → P (placeReply r a t)) :
    P (serveFront s) := by
  unfold serveFront
  split
  · exact h
  · split
    · exact h
    · rename_i r _ _ _
      have hP := ha r
      split <;> rename_i heq <;> rw [heq] at hP
      · exact hr _ _ _ hP
      · exact hP

theorem placeReply_quiet {r : Request} {a : Reply} (h : s.Quiet t) : s.Quiet (placeReply r a t) :=
  h.onLink (by simp) fun hn => (Link.kick_notices _ _).trans hn

/-- A request's answer keeps a property that every block's answer keeps. -/
theorem answer_ind (r : Request) (h : P s) (hk : ∀ k p, P (serveKind k p s).2) : P (answer r s).2 := by
  unfold answer
  split_ifs
  · exact hk _ _
  · exact h
  · exact h

end

end Sys2Proof.Machine
end

section
/-! PROOF. The capacities (R4, R116, R174, R192, R195): the operations that begin, end or remove an order keep them too. -/

namespace Sys2Proof.Machine

section
variable {s t u : State}

theorem State.Fits.quiet (h : s.Fits t) (k : t.Quiet u) : s.Fits u := h.trans k.toFits

/-- A change that leaves the link, the table, the store and the slips. -/
theorem State.Fits.frame (h : s.Fits t) (hl : u.link = t.link) (hm : u.manager = t.manager) (hst : u.store = t.store)
    (hsl : u.slips = t.slips) : s.Fits u := by
  refine h.trans ⟨?_, ?_, ?_, ?_, ?_⟩ <;> simp [hl, hm, hst, hsl]

/-- A table no longer than before. -/
theorem State.Fits.onManager (h : s.Fits t) {f : Manager → Manager}
    (hf : t.manager.table.length ≤ 16 → (f t.manager).table.length ≤ 16) : s.Fits (t.onManager f) :=
  h.trans { State.Fits.refl t with table := hf }

theorem updateOrder_fits {n : Nat} {f : Order → Order} (h : s.Fits t) : s.Fits (updateOrder n f t) :=
  h.onManager (by simp)

theorem removeOrder_fits {n : Nat} (h : s.Fits t) : s.Fits (removeOrder n t) :=
  h.onManager fun hl => (List.length_filter_le _ _).trans hl

theorem enterState_fits {n : Nat} {st : OrderState} (h : s.Fits t) : s.Fits (enterState n st t) :=
  (updateOrder_fits h).quiet (placeOrderEvent_quiet (.refl _))

theorem finishOrder_fits {n : Nat} {r : OrderResult} (h : s.Fits t) : s.Fits (finishOrder n r t) :=
  enterState_fits (updateOrder_fits h)

theorem updatePrewarm_fits (h : s.Fits t) : s.Fits (updatePrewarm t) := by
  refine h.frame ?_ ?_ ?_ ?_ <;> simp

/-! ## Retirement, selection and mounts -/

theorem leaveTable_fits {o : Order} (h : s.Fits t) : s.Fits (leaveTable o t) :=
  (removeOrder_fits h).quiet (placeNotice_quiet (.refl _))

theorem retireUpTo_fits (fuel : Nat) : ∀ {t : State}, s.Fits t → s.Fits (retireUpTo fuel t) := by
  induction fuel with
  | zero => exact id
  | succ fuel ih =>
    intro t h
    unfold retireUpTo
    split
    · exact h
    · split_ifs with _ hq
      · exact ih (leaveTable_fits (h.quiet (joinSlip_quiet (.refl t) hq)))
      · exact h
      · exact ih (leaveTable_fits h)

theorem retire_fits (h : s.Fits t) : s.Fits (retire t) := retireUpTo_fits _ h

theorem lineSeize_fits {n : Nat} {net : Network} {code : Nat} {ds : List DialSymbol} (h : s.Fits t) :
    s.Fits (lineSeize n net code ds t) := by
  unfold lineSeize
  split
  · exact (h.frame (u := t.onLine _) rfl rfl rfl rfl).quiet (placeNotice_quiet (.refl _))
  · exact h

/-- The steps of a run's start, but for the abort that may follow. -/
def runBegun (o : Order) (s : State) : State :=
  let t := ({ s with run := some (runRecordFor o s) } : State).onStore fun _ => Store.opened o.number o.header.samples o.lines
  let u := lampJoin .run (speedRequest o.header.speed t)
  lineSeize o.number o.network (u.callCodeOf (o.stationAt 1)) (u.digitsOf (o.stationAt 1)) u

/-- A run's start is its four requests and at most an abort. -/
theorem runStart_eq (o : Order) (s : State) : runStart o s =
    if s.speedTaken o.header.speed then
      if (runBegun o s).drum.noLock then noLockToRun (runBegun o s) else runBegun o s
    else runAbort .drumFault (runBegun o s) := by
  have hs : ∀ t : State, t.panel = s.panel → t.drum = s.drum → t.motor = s.motor →
      t.speedTaken o.header.speed = s.speedTaken o.header.speed := by
    intro t h1 h2 h3
    simp [State.speedTaken, h1, h2, h3]
  unfold runStart runBegun
  dsimp only
  rw [hs]
  · cases s.speedTaken o.header.speed <;> simp
  all_goals rfl

theorem runStart_quiet (o : Order) (s : State) : (runBegun o s).Quiet (runStart o s) := by
  rw [runStart_eq]
  split
  · exact when_quiet (fun _ => noLockToRun_quiet) (.refl _)
  · exact runAbort_quiet (.refl _)

theorem runBegun_fits {o : Order} (h : s.Fits t) : s.Fits (runBegun o t) := by
  have ho : s.Fits (({ t with run := some (runRecordFor o t) } : State).onStore fun _ =>
      Store.opened o.number o.header.samples o.lines) :=
    h.trans { State.Fits.refl t with slots := fun _ => by simp [Store.opened] }
  exact lineSeize_fits (ho.quiet (lampJoin_quiet (by decide) (speedRequest_quiet (.refl _))))

theorem select_fits (h : s.Fits t) : s.Fits (select t) := by
  unfold select
  split
  · split
    · exact (runBegun_fits (updatePrewarm_fits (enterState_fits (updateOrder_fits h)))).quiet (runStart_quiet _ _)
    · exact h
  · exact h

theorem mountStart_fits (h : s.Fits t) : s.Fits (mountStart t) :=
  select_fits (updatePrewarm_fits (h.frame rfl rfl rfl rfl))

theorem mountGone_fits {M n : Nat} (h : s.Fits t) : s.Fits (mountGone M t n) := by
  unfold mountGone
  split
  · split
    · exact retire_fits (finishOrder_fits h)
    · exact h
  · exact h

theorem foldl_mountGone_fits {M : Nat} (l : List Nat) : ∀ {t : State}, s.Fits t → s.Fits (l.foldl (mountGone M) t) := by
  induction l with
  | nil => exact id
  | cons n l ih => exact fun h => ih (mountGone_fits h)

theorem mountEnd_fits (h : s.Fits t) : s.Fits (mountEnd t) := by
  unfold mountEnd
  split
  · exact updatePrewarm_fits (foldl_mountGone_fits _ (h.frame (u := t.onPanel _) rfl rfl rfl rfl))
  · exact h

/-! ## Requests -/

theorem finishAssembly_fits {n : Nat} (h : s.Fits t) : s.Fits (finishAssembly n t).2 := by
  unfold finishAssembly
  split
  · exact h
  · split
    · exact removeOrder_fits h
    · exact select_fits (updatePrewarm_fits (updateOrder_fits h))

theorem serveOrderBegin_fits {p : List Byte} (h : s.Fits t) : s.Fits (serveOrderBegin p t).2 := by
  unfold serveOrderBegin
  split
  · exact h
  · split
    · exact h
    · rename_i hlen
      have hb := h.onManager (f := fun m => { m with
          table := m.table ++ [newOrder t.manager.assign (Header.ofPayload p) (p.drop 20)]
          nextNumber := nextOf t.manager.assign })
        (fun _ => by simp only [List.length_append, List.length_singleton]; omega)
      dsimp only
      split
      · exact finishAssembly_fits hb
      · dsimp only
        exact hb.onManager id

theorem serveOrderPart_fits {p : List Byte} (h : s.Fits t) : s.Fits (serveOrderPart p t).2 := by
  unfold serveOrderPart
  dsimp only
  split
  · exact h
  · split_ifs
    · exact h
    · dsimp only
      exact (removeOrder_fits h).onManager id
    · refine finishAssembly_fits ((updateOrder_fits h).onManager ?_)
      exact id
    · dsimp only
      exact (updateOrder_fits h).onManager id

theorem serveOrderCancel_fits {p : List Byte} (h : s.Fits t) : s.Fits (serveOrderCancel p t).2 := by
  unfold serveOrderCancel
  dsimp only
  split
  · exact h
  · rename_i o _
    cases o.state with
    | queued => exact retire_fits (updatePrewarm_fits (finishOrder_fits h))
    | preparing | phasing | sending => exact h.quiet (runAbort_quiet (.refl t))
    | assembling | ending | confirming | finished => exact h

theorem serveOrderInquire_fits {p : List Byte} (h : s.Fits t) : s.Fits (serveOrderInquire p t).2 := by
  unfold serveOrderInquire
  dsimp only
  split
  · exact h
  · split
    · exact h
    · split
      · exact h
      · split
        · exact h
        · exact updateOrder_fits h

theorem serveQueueControl_fits {p : List Byte} (h : s.Fits t) : s.Fits (serveQueueControl p t).2 := by
  unfold serveQueueControl
  split_ifs
  · dsimp only
    exact h.onManager id
  · exact h
  · refine select_fits (h.onManager ?_)
    exact id
  · exact h

theorem serveCalKind_fits {k : CalKind} {f : State → State} (h : s.Fits t) (hf : t.Quiet (f t)) :
    s.Fits (serveCalKind k f t).2 := by
  unfold serveCalKind
  split
  · exact h
  · dsimp only
    split
    · exact select_fits (h.quiet hf)
    · exact h.quiet hf

theorem serveCalRun_fits {p : List Byte} (h : s.Fits t) : s.Fits (serveCalRun p t).2 := by
  unfold serveCalRun
  split
  · exact serveCalKind_fits h (beginMotor_quiet (.refl t))
  · exact serveCalKind_fits h (beginDark_quiet (.refl t))
  · exact serveCalKind_fits h (beginWhite_quiet (.refl t))
  · split
    · exact h
    · exact serveCalKind_fits h (beginSteps_quiet (.refl t))
  · exact h

theorem serveSlipControl_fits {p : List Byte} (h : s.Fits t) : s.Fits (serveSlipControl p t).2 := by
  unfold serveSlipControl
  split
  · unfold serveSlipMode
    split_ifs
    · exact retire_fits (h.frame (u := { t with settings := { t.settings with slipMode := false } }) rfl rfl rfl rfl)
    · exact h
    · exact h.frame rfl rfl rfl rfl
    · exact h
  · unfold serveSlipFeed
    split_ifs
    · exact h
    · exact h
    · exact h
    · dsimp only
      exact h.quiet (State.Quiet.onSlips (.refl t) id)
  · unfold serveSlipReprint
    split
    · exact h
    · split
      · exact h
      · exact h.quiet (joinSlip_quiet (.refl t) (by omega))
  · exact h

theorem serveDrumSpin_quiet {p : List Byte} (h : s.Quiet t) : s.Quiet (serveDrumSpin p t).2 := by
  unfold serveDrumSpin
  dsimp only
  split
  · exact h
  · dsimp only
    split
    · exact stopRequest_quiet h
    · exact startSpinHold_quiet (speedRequest_quiet h)

theorem serveStatus_quiet {p : List Byte} (h : s.Quiet t) : s.Quiet (serveStatus p t).2 :=
  State.Quiet.onLink (f := fun l => { l with linkError := false, noticesLost := false }) h rfl id

theorem serveSettingsSet_fits {p : List Byte} (h : s.Fits t) : s.Fits (serveSettingsSet p t).2 := by
  unfold serveSettingsSet
  dsimp only
  split
  · exact h
  · split
    · exact h
    · have hs : s.Fits { t with settings := (SettingsFields.ofPayload p).settings } := h.frame rfl rfl rfl rfl
      dsimp only
      split
      · exact retire_fits hs
      · exact hs

theorem serveClockSet_quiet {p : List Byte} (h : s.Quiet t) : s.Quiet (serveClockSet p t).2 := by
  unfold serveClockSet
  split_ifs
  · exact h
  · exact h
  · exact h.frame rfl

theorem serveStationLoad_quiet {p : List Byte} (h : s.Quiet t) : s.Quiet (serveStationLoad p t).2 := by
  unfold serveStationLoad
  dsimp only
  split
  · exact h
  · split
    · exact h
    · exact h.frame rfl

theorem serveStationRead_quiet {p : List Byte} (h : s.Quiet t) : s.Quiet (serveStationRead p t).2 := by
  unfold serveStationRead
  dsimp only
  split <;> exact h

theorem serveCalLoad_quiet {p : List Byte} (h : s.Quiet t) : s.Quiet (serveCalLoad p t).2 := by
  unfold serveCalLoad
  dsimp only
  split
  · exact h
  · split
    · exact h
    · split
      · exact h
      · exact h.frame rfl

theorem serveCalRead_quiet {p : List Byte} (h : s.Quiet t) : s.Quiet (serveCalRead p t).2 := by
  unfold serveCalRead
  split <;> exact h

theorem serveCurveLoad_quiet {p : List Byte} (h : s.Quiet t) : s.Quiet (serveCurveLoad p t).2 := by
  unfold serveCurveLoad
  split
  · exact h
  · split
    · exact h
    · exact h.frame rfl

theorem serveRestart_fits {p : List Byte} (h : s.Fits t) : s.Fits (serveRestart p t).2 := by
  unfold serveRestart
  have hr : ∀ b, s.Fits (carryOutRestart b t) := fun b => h.trans
    { holding := rfl, notices := fun _ => by simp [carryOutRestart], queue := fun _ => by simp [carryOutRestart, SlipUnit.restart]
      table := fun _ => by simp [carryOutRestart, Manager.restart]
      slots := fun _ => by simp [carryOutRestart, Store.closed] }
  dsimp only
  split_ifs
  · exact h
  · exact hr _
  · exact (hr _).quiet (State.Quiet.onLink (f := fun l => { l with restart := some (byteAt p 0 == 1) }) (.refl _) rfl id)

/-- Every owner's answer keeps the capacities and the requests held. -/
theorem serveKind_fits (k : Nat) (p : List Byte) (h : s.Fits t) : s.Fits (serveKind k p t).2 := by
  unfold serveKind
  split
  · exact h.quiet (serveStatus_quiet (p := p) (.refl t))
  · exact serveSettingsSet_fits h
  · exact h
  · exact h.quiet (serveClockSet_quiet (.refl t))
  · exact h.quiet (serveStationLoad_quiet (.refl t))
  · exact h.quiet (serveStationRead_quiet (.refl t))
  · exact h.quiet (serveCalLoad_quiet (.refl t))
  · exact h.quiet (serveCalRead_quiet (.refl t))
  · exact h.quiet (serveCurveLoad_quiet (.refl t))
  · exact serveCalRun_fits h
  · exact serveOrderBegin_fits h
  · exact serveOrderPart_fits h
  · exact serveOrderCancel_fits h
  · exact serveOrderInquire_fits h
  · exact h
  · exact serveQueueControl_fits h
  · exact h.quiet (serveDrumSpin_quiet (.refl t))
  · exact serveSlipControl_fits h
  · exact serveRestart_fits h
  · exact h

theorem serveFront_fits (s : State) : s.Fits (serveFront s) :=
  serveFront_ind (P := s.Fits) (.refl s) (fun r => answer_ind r (.refl s) fun k p => serveKind_fits k p (.refl s))
    fun _ _ _ h => h.quiet (placeReply_quiet (.refl _))

theorem finishRestart_quiet (h : s.Quiet t) : s.Quiet (finishRestart t) := by
  unfold finishRestart
  split
  · exact placeReply_quiet (h.onLink (f := fun l => { l with restart := none }) rfl id)
  · exact h

theorem releasedReport_fits (h : s.Fits t) : s.Fits (releasedReport t) := by
  have hc : t.Fits (closeStore { t with run := none }) :=
    (State.Fits.refl t |>.frame (u := { t with run := none }) rfl rfl rfl rfl).quiet (closeStore_quiet (.refl _))
  unfold releasedReport
  split
  · exact h
  · split
    · exact h.trans hc
    · exact retire_fits (select_fits (finishOrder_fits
        ((h.trans hc).quiet (startSpinHold_quiet (lampWithdraw_quiet (by decide) (.refl _))))))

theorem releaseCleared_fits (h : s.Fits t) : s.Fits (releaseCleared t) := by
  have hi : t.Quiet (t.onLine LineUnit.idled) := (State.Quiet.refl t).onLine (by simp [LineUnit.idled])
  unfold releaseCleared
  dsimp only
  split
  · exact h.quiet (finishRestart_quiet hi)
  · exact releasedReport_fits (h.quiet (placeNotice_quiet hi))

theorem assemblyExpired_fits (h : s.Fits t) : s.Fits (assemblyExpired t) := by
  have ht : s.Fits (t.onManager fun m => { m with assemblyTimer := none }) := h.onManager id
  unfold assemblyExpired
  dsimp only
  split
  · exact (removeOrder_fits ht).quiet (placeNotice_quiet (.refl _))
  · exact ht

/-! ## The invariant -/

theorem State.CapacityInv.fits (h : s.CapacityInv) (k : s.Fits t) : t.CapacityInv := by
  obtain ⟨htable, hslots, hqueue, hholding, hnotices⟩ := h
  exact ⟨k.table htable, k.slots hslots, k.queue hqueue, by rw [k.holding]; exact hholding, k.notices hnotices⟩

/-- An offered frame joins only below 2 held (R192). -/
theorem State.CapacityInv.offerFrame (h : s.CapacityInv) (r : Request) : (offerFrame r s).CapacityInv := by
  obtain ⟨htable, hslots, hqueue, hholding, hnotices⟩ := h
  unfold Machine.offerFrame
  split
  · have hj : (s.onLink fun l => { l with holding := l.holding ++ [r] }).CapacityInv :=
      ⟨htable, hslots, hqueue, by simp only [onLink_link, List.length_append, List.length_singleton]; omega, hnotices⟩
    exact hj.fits (serveFront_fits _)
  · exact ⟨htable, hslots, hqueue, hholding, hnotices⟩

/-- A frame sent frees at most a held request's place (R192). -/
theorem State.CapacityInv.frameDone (h : s.CapacityInv) : (frameDone s).CapacityInv := by
  unfold Machine.frameDone
  split
  · exact h
  · rename_i x _
    obtain ⟨htable, hslots, hqueue, hholding, hnotices⟩ := h
    have hl : (if x.isReply then s.link.holding.tail else s.link.holding).length ≤ 2 := by
      split
      · simp only [List.length_tail]; omega
      · exact hholding
    have ht : (s.onLink fun l =>
        { l with tx := none, holding := if x.isReply then l.holding.tail else l.holding }).CapacityInv :=
      ⟨htable, hslots, hqueue, hl, hnotices⟩
    exact (ht.fits (serveFront_fits _)).fits
      (State.Quiet.onLink (.refl _) (by simp) fun hn => (Link.kick_notices _ _).trans hn).toFits

theorem capacityInv_kept : Kept State.CapacityInv where
  quiet k h := h.fits k.toFits
  power _ _ := by simp [State.CapacityInv, State.atPower, State.reset]
  offer r _ h := h.offerFrame r
  sent h := h.frameDone
  expired h := h.fits (assemblyExpired_fits (.refl _))
  select h := h.fits (select_fits (.refl _))
  retire h := h.fits (retire_fits (.refl _))
  mountStart h := h.fits (mountStart_fits (.refl _))
  mountEnd h := h.fits (mountEnd_fits (.refl _))
  cleared h := h.fits (releaseCleared_fits (.refl _))

end

/-- Settles O57: each operation of a step keeps the five bounds (`capacityInv_kept`). -/
theorem everyStepKeepsTheCapacities : Obligations.EveryStepKeepsTheCapacities :=
  fun _ _ h e => capacityInv_kept.step h e

end Sys2Proof.Machine
end

section
/-! PROOF. The order table as a list searched by number: membership after an update, a removal and an addition, and the
number that ORDER_BEGIN assigns (R4, R5). -/

namespace Sys2Proof.Machine

/-! ## Orders by number -/

/-- With distinct numbers an order of the table is the one of its number. -/
theorem eq_of_number {l : List Order} (h : (l.map Order.number).Nodup) {x o : Order} (hx : x ∈ l) (ho : o ∈ l)
    (e : x.number = o.number) : x = o := List.inj_on_of_nodup_map h hx ho e

theorem find_of_mem {l : List Order} (h : (l.map Order.number).Nodup) {o : Order} (ho : o ∈ l) {n : Nat}
    (hn : o.number = n) : l.find? (fun x => x.number == n) = some o := by
  cases hf : l.find? (fun x => x.number == n) with
  | none => exact absurd hn (by simpa using List.find?_eq_none.1 hf o ho)
  | some x =>
    have hx : x.number = n := by simpa using List.find?_some hf
    rw [eq_of_number h (List.mem_of_find?_eq_some hf) ho (hx.trans hn.symm)]

theorem findOrder_of_mem {s : State} (h : (s.manager.table.map Order.number).Nodup) {o : Order}
    (ho : o ∈ s.manager.table) {n : Nat} (hn : o.number = n) : s.findOrder n = some o := find_of_mem h ho hn

theorem findOrder_mem {s : State} {n : Nat} {o : Order} (h : s.findOrder n = some o) : o ∈ s.manager.table :=
  List.mem_of_find?_eq_some h

theorem findOrder_eq_none {s : State} {n : Nat} : s.findOrder n = none ↔ ∀ o ∈ s.manager.table, o.number ≠ n := by
  simp [State.findOrder]

/-- A table with the order of number `n` updated: the updated order, and the others as they were. -/
theorem mem_updated {l : List Order} (h : (l.map Order.number).Nodup) {o : Order} (ho : o ∈ l) {f : Order → Order}
    {x : Order} : x ∈ l.map (fun y => if y.number = o.number then f y else y) ↔
      x = f o ∨ x ∈ l ∧ x.number ≠ o.number := by
  simp only [List.mem_map]
  constructor
  · rintro ⟨y, hy, rfl⟩
    split
    · exact .inl (by rw [eq_of_number h hy ho ‹_›])
    · exact .inr ⟨hy, ‹_›⟩
  · rintro (rfl | ⟨hx, hn⟩)
    · exact ⟨o, ho, by simp⟩
    · exact ⟨x, hx, by simp [hn]⟩

theorem numbers_updated (l : List Order) (n : Nat) {f : Order → Order} (hf : ∀ o, (f o).number = o.number) :
    (l.map fun y => if y.number = n then f y else y).map Order.number = l.map Order.number := by
  rw [List.map_map]
  refine List.map_congr_left fun o _ => ?_
  simp only [Function.comp_apply]
  split <;> simp [hf]

/-- Two updates of one order are one. -/
theorem updateOrder_updateOrder {n : Nat} {f g : Order → Order} (hg : ∀ o, (g o).number = o.number) (s : State) :
    updateOrder n f (updateOrder n g s) = updateOrder n (f ∘ g) s := by
  simp only [updateOrder, onManager_onManager]
  congr 1
  funext m
  simp only [Function.comp_apply, List.map_map]
  congr 1
  refine List.map_congr_left fun o _ => ?_
  simp only [Function.comp_apply]
  by_cases ho : o.number = n <;> simp [ho, hg]

@[simp] theorem enterState_manager (n : Nat) (st : OrderState) (s : State) :
    (enterState n st s).manager = (updateOrder n (fun o => { o with state := st }) s).manager := by
  simp [enterState]

/-- An order that finishes with a result (R3, R7, R24, R171). -/
def Order.finish (r : OrderResult) (tod : Option Nat) (now : Nat) (o : Order) : Order :=
  { o with
    state := .finished
    result := some r
    dests := notCalled o.dests
    ended := tod
    queue := o.queue.stop now
    prepare := o.prepare.stop now
    defer := o.defer.stop now
    picture := o.picture.stop now
    confirm := o.confirm.stop now }

theorem finishOrder_eq (n : Nat) (r : OrderResult) (s : State) :
    finishOrder n r s = placeOrderEvent n (.entered .finished) (updateOrder n (Order.finish r s.todNow s.now) s) := by
  unfold finishOrder enterState
  rw [updateOrder_updateOrder]
  · rfl
  · exact fun _ => rfl

@[simp] theorem finishOrder_manager (n : Nat) (r : OrderResult) (s : State) :
    (finishOrder n r s).manager = (updateOrder n (Order.finish r s.todNow s.now) s).manager := by
  simp [finishOrder_eq]

/-- A record added at the end and taken away again leaves the table as it was. -/
theorem filter_added {l : List Order} {o : Order} (h : ∀ x ∈ l, x.number ≠ o.number) :
    (l ++ [o]).filter (fun x => x.number != o.number) = l := by
  rw [List.filter_append, List.filter_eq_self.2 (by simpa using h)]
  simp

/-- An update of the record at the end changes no other. -/
theorem map_added {l : List Order} {o : Order} (h : ∀ x ∈ l, x.number ≠ o.number) (f : Order → Order) :
    (l ++ [o]).map (fun x => if x.number = o.number then f x else x) = l ++ [f o] := by
  rw [List.map_append, List.map_congr_left (g := id) fun x hx => by simp [h x hx]]
  simp

/-! ## The number assigned (R5) -/

/-- The number `k` steps up from `n`, wrapping from 65535 to 1. -/
def upFrom (n k : Nat) : Nat := (n - 1 + k) % 65535 + 1

theorem upFrom_zero {n : Nat} (h1 : 1 ≤ n) (h2 : n ≤ 65535) : upFrom n 0 = n := by
  unfold upFrom
  omega

theorem nextOf_upFrom (n k : Nat) : nextOf (upFrom n k) = upFrom n (k + 1) := by
  unfold nextOf upFrom
  split <;> omega

theorem upFrom_range (n k : Nat) : 1 ≤ upFrom n k ∧ upFrom n k ≤ 65535 := by
  unfold upFrom
  omega

theorem nextOf_range (n : Nat) : 1 ≤ nextOf n ∧ nextOf n ≤ 65535 := by
  unfold nextOf
  split <;> omega

/-- The search from `upFrom n a`: it passes taken numbers only, and stops at a free one or when its fuel is spent. -/
theorem freeNumber_spec (taken : List Nat) (n : Nat) (fuel : Nat) : ∀ a, ∃ k, k ≤ fuel ∧
    freeNumber fuel taken (upFrom n a) = upFrom n (a + k) ∧ (∀ j, j < k → upFrom n (a + j) ∈ taken) ∧
    (k < fuel → upFrom n (a + k) ∉ taken) := by
  induction fuel with
  | zero => exact fun a => ⟨0, by simp [freeNumber]⟩
  | succ fuel ih =>
    intro a
    by_cases h : upFrom n a ∈ taken
    · obtain ⟨k, hk, he, hpass, hstop⟩ := ih (a + 1)
      refine ⟨k + 1, by omega, ?_, ?_, ?_⟩
      · simp only [freeNumber, List.contains_eq_mem, h, decide_true, if_true, nextOf_upFrom, he]
        congr 1
        omega
      · intro j hj
        cases j with
        | zero => exact h
        | succ j =>
          have := hpass j (by omega)
          rwa [show a + 1 + j = a + (j + 1) by omega] at this
      · intro hlt
        have := hstop (by omega)
        rwa [show a + 1 + k = a + (k + 1) by omega] at this
    · exact ⟨0, by simp [freeNumber, h]⟩

/-- Up to 65535 consecutive numbers are distinct, so a list that holds `k` of them has at least `k` members. -/
theorem length_of_upFrom {taken : List Nat} {n k : Nat} (hk : k ≤ 65535) (h : ∀ j, j < k → upFrom n j ∈ taken) :
    k ≤ taken.length := by
  have hnodup : ((List.range k).map (upFrom n)).Nodup := by
    refine List.Nodup.map_on ?_ List.nodup_range
    intro i hi j hj e
    simp only [List.mem_range] at hi hj
    unfold upFrom at e
    omega
  have hsub : (List.range k).map (upFrom n) ⊆ taken := by
    intro x hx
    obtain ⟨j, hj, rfl⟩ := List.mem_map.1 hx
    exact h j (List.mem_range.1 hj)
  simpa using (hnodup.subperm hsub).length_le

/-- The assigned number is the first free one from the next order number on. -/
theorem assign_spec {s : State} (h : s.NumberInv) : ∃ k, s.manager.assign = upFrom s.manager.nextNumber k ∧
    (∀ j, j < k → upFrom s.manager.nextNumber j ∈ s.manager.table.map Order.number) ∧
    upFrom s.manager.nextNumber k ∉ s.manager.table.map Order.number := by
  obtain ⟨_, _, ⟨hlow, hhigh⟩, hlen⟩ := h
  obtain ⟨k, hk, he, hpass, hstop⟩ :=
    freeNumber_spec (s.manager.table.map Order.number) s.manager.nextNumber s.manager.table.length 0
  simp only [Nat.zero_add, upFrom_zero hlow hhigh] at he hpass hstop
  refine ⟨k, he, hpass, fun hin => ?_⟩
  have hfull : ∀ j, j < k + 1 → upFrom s.manager.nextNumber j ∈ s.manager.table.map Order.number := by
    intro j hj
    rcases Nat.lt_succ_iff_lt_or_eq.1 hj with hj | rfl
    · exact hpass j hj
    · exact hin
  have hcount := length_of_upFrom (by omega) hfull
  rw [List.length_map] at hcount
  exact hstop (by omega) hin

theorem assign_fresh {s : State} (h : s.NumberInv) : ∀ o ∈ s.manager.table, o.number ≠ s.manager.assign := by
  obtain ⟨k, he, _, hfree⟩ := assign_spec h
  intro o ho e
  exact hfree (he ▸ e ▸ List.mem_map_of_mem ho)

theorem assign_range {s : State} (h : s.NumberInv) : 1 ≤ s.manager.assign ∧ s.manager.assign ≤ 65535 := by
  obtain ⟨k, he, _⟩ := assign_spec h
  rw [he]
  exact upFrom_range _ _

/-- Settles O23: the search of `freeNumber` stops at the first free number, since 16 numbers cannot hold 17. -/
theorem numbersAreAssigned : Obligations.NumbersAreAssigned := by
  intro s h
  obtain ⟨k, he, hpass, hfree⟩ := assign_spec h
  exact ⟨k, he, hpass, hfree, upFrom_range _ _⟩

end Sys2Proof.Machine
end

section
/-! PROOF. The invariants of the order table (R4, R5, R12 to R15, R117, R127, R130, R150, R171): a form of them that speaks
of numbers and phases, and its survival under each operation that begins, ends or removes an order. -/

namespace Sys2Proof.Machine

/-! ## Orders by number and phase -/

/-- An order of number `n` stands in the phase. -/
def Manager.has (m : Manager) (n : Nat) (ph : OrderPhase) : Prop := ∃ o ∈ m.table, o.number = n ∧ o.state.phase = ph

/-- A QUEUED order is bound to mount `M`. -/
def Manager.waits (m : Manager) (M : Nat) : Prop := ∃ o ∈ m.table, o.state = .queued ∧ o.mount = M

/-- The run record's order `ro` is the running one, at most one order is ASSEMBLING, and the assembly timer runs exactly
then: `State.RunInv` by numbers. -/
structure Manager.Owned (m : Manager) (ro : Option Nat) : Prop where
  running : ∀ n, m.has n .running ↔ ro = some n
  single : ∀ a b, m.has a .assembling → m.has b .assembling → a = b
  timer : m.assemblyTimer.isSome = true ↔ ∃ n, m.has n .assembling

theorem Manager.has_unique {m : Manager} (h : (m.table.map Order.number).Nodup) {n : Nat} {a b : OrderPhase}
    (ha : m.has n a) (hb : m.has n b) : a = b := by
  obtain ⟨o, ho, hon, rfl⟩ := ha
  obtain ⟨x, hx, hxn, rfl⟩ := hb
  rw [eq_of_number h ho hx (hon.trans hxn.symm)]

/-- Two orders ASSEMBLING are one, exactly when the table has at most one. -/
theorem assembling_le_one {l : List Order} (h : (l.map Order.number).Nodup) :
    (l.filter fun o => o.state == .assembling).length ≤ 1 ↔
      ∀ x ∈ l, ∀ y ∈ l, x.state = .assembling → y.state = .assembling → x.number = y.number := by
  have hmem : ∀ z, z ∈ l.filter (fun o => o.state == .assembling) ↔ z ∈ l ∧ z.state = .assembling := by simp
  have hsub : ((l.filter fun o => o.state == .assembling).map Order.number).Nodup :=
    h.sublist (List.filter_sublist.map _)
  generalize l.filter (fun o => o.state == .assembling) = k at hmem hsub
  constructor
  · intro hl x hx y hy hxa hya
    have hxk := (hmem x).2 ⟨hx, hxa⟩
    have hyk := (hmem y).2 ⟨hy, hya⟩
    match k with
    | [] => simp at hxk
    | [z] => rw [List.mem_singleton.1 hxk, List.mem_singleton.1 hyk]
    | _ :: _ :: _ => simp at hl
  · intro hall
    match k with
    | [] => simp
    | [z] => simp
    | x :: y :: rest =>
      obtain ⟨hx, hxa⟩ := (hmem x).1 (by simp)
      obtain ⟨hy, hya⟩ := (hmem y).1 (by simp)
      simp [hall x hx y hy hxa hya] at hsub

theorem runInv_iff {s : State} (h : (s.manager.table.map Order.number).Nodup) :
    s.RunInv ↔ s.manager.Owned (s.run.map RunRecord.order) := by
  unfold State.RunInv
  rw [assembling_le_one h]
  constructor
  · rintro ⟨hrec, hrun, hone, htimer⟩
    refine ⟨fun n => ?_, ?_, ?_⟩
    · constructor
      · rintro ⟨o, ho, rfl, hp⟩
        obtain ⟨r, hr, hro⟩ := hrun o ho (OrderState.phase_running.1 hp)
        simp [hr, hro]
      · intro he
        obtain ⟨r, hr, rfl⟩ := Option.map_eq_some_iff.1 he
        obtain ⟨o, ho, hon, hp⟩ := hrec r hr
        exact ⟨o, ho, hon, OrderState.phase_running.2 hp⟩
    · rintro a b ⟨x, hx, rfl, hxp⟩ ⟨y, hy, rfl, hyp⟩
      exact hone x hx y hy (OrderState.phase_assembling.1 hxp) (OrderState.phase_assembling.1 hyp)
    · rw [htimer]
      exact ⟨fun ⟨o, ho, hp⟩ => ⟨o.number, o, ho, rfl, OrderState.phase_assembling.2 hp⟩,
        fun ⟨_, o, ho, _, hp⟩ => ⟨o, ho, OrderState.phase_assembling.1 hp⟩⟩
  · rintro ⟨hrun, hone, htimer⟩
    refine ⟨fun r hr => ?_, fun o ho hp => ?_, fun x hx y hy hxa hya => ?_, ?_⟩
    · obtain ⟨o, ho, hon, hp⟩ := (hrun r.order).2 (by simp [hr])
      exact ⟨o, ho, hon, OrderState.phase_running.1 hp⟩
    · have he := (hrun o.number).1 ⟨o, ho, rfl, OrderState.phase_running.2 hp⟩
      simpa using he
    · exact hone _ _ ⟨x, hx, rfl, OrderState.phase_assembling.2 hxa⟩ ⟨y, hy, rfl, OrderState.phase_assembling.2 hya⟩
    · rw [htimer]
      exact ⟨fun ⟨_, o, ho, _, hp⟩ => ⟨o, ho, OrderState.phase_assembling.1 hp⟩,
        fun ⟨o, ho, hp⟩ => ⟨o.number, o, ho, rfl, OrderState.phase_assembling.2 hp⟩⟩

/-- The order of number `n` leaves its phase for `new`, or leaves the table (`none`); every other order stands. -/
def Manager.Moved (m m' : Manager) (n : Nat) (new : Option OrderPhase) : Prop :=
  ∀ k ph, m'.has k ph ↔ k = n ∧ new = some ph ∨ k ≠ n ∧ m.has k ph

/-- How `Owned` follows a move that ends no assembly unless it stops the timer. -/
theorem Manager.Owned.moved {m m' : Manager} {ro ro' : Option Nat} {n : Nat} {old : OrderPhase} {new : Option OrderPhase}
    (h : m.Owned ro) (hm : m.Moved m' n new) (hd : (m.table.map Order.number).Nodup) (hold : m.has n old)
    (hr : ∀ k, ro' = some k ↔ k = n ∧ new = some .running ∨ k ≠ n ∧ ro = some k) (ha : new ≠ some .assembling)
    (ht : m'.assemblyTimer.isSome = true ↔ m.assemblyTimer.isSome = true ∧ old ≠ .assembling) : m'.Owned ro' := by
  have hasm : ∀ k, m'.has k .assembling ↔ k ≠ n ∧ m.has k .assembling := fun k => by simp [hm k, ha]
  refine ⟨fun k => by rw [hm, hr, h.running], fun a b hxa hxb => ?_, ?_⟩
  · exact h.single a b ((hasm a).1 hxa).2 ((hasm b).1 hxb).2
  · simp only [ht, h.timer, hasm]
    constructor
    · rintro ⟨⟨k, hk⟩, hne⟩
      exact ⟨k, fun e => hne (m.has_unique hd hold (e ▸ hk)), hk⟩
    · rintro ⟨k, hkn, hk⟩
      exact ⟨⟨k, hk⟩, fun e => hkn (h.single k n hk (e ▸ hold))⟩

theorem Manager.moved_update {m m' : Manager} (hd : (m.table.map Order.number).Nodup) {o : Order} (ho : o ∈ m.table)
    {f : Order → Order} (hf : (f o).number = o.number)
    (hm : m'.table = m.table.map fun x => if x.number = o.number then f x else x) :
    m.Moved m' o.number (some (f o).state.phase) := by
  intro k ph
  simp only [Manager.has, hm, mem_updated hd ho]
  constructor
  · rintro ⟨x, rfl | ⟨hx, hxn⟩, rfl, rfl⟩
    · exact .inl ⟨hf, rfl⟩
    · exact .inr ⟨hxn, x, hx, rfl, rfl⟩
  · rintro (⟨rfl, e⟩ | ⟨hkn, x, hx, rfl, rfl⟩)
    · exact ⟨f o, .inl rfl, hf, by simpa using e⟩
    · exact ⟨x, .inr ⟨hx, hkn⟩, rfl, rfl⟩

theorem Manager.moved_remove {m m' : Manager} {n : Nat} (hm : m'.table = m.table.filter fun x => x.number != n) :
    m.Moved m' n none := by
  intro k ph
  simp only [Manager.has, hm, List.mem_filter, bne_iff_ne]
  constructor
  · rintro ⟨x, ⟨hx, hxn⟩, rfl, rfl⟩
    exact .inr ⟨hxn, x, hx, rfl, rfl⟩
  · rintro (⟨_, e⟩ | ⟨hkn, x, hx, rfl, rfl⟩)
    · simp at e
    · exact ⟨x, ⟨hx, hkn⟩, rfl, rfl⟩

/-- An order that neither was nor becomes QUEUED changes no binding to a mount. -/
theorem Manager.waits_update {m m' : Manager} (hd : (m.table.map Order.number).Nodup) {o : Order} (ho : o ∈ m.table)
    {f : Order → Order} (hm : m'.table = m.table.map fun x => if x.number = o.number then f x else x)
    (hq : o.state ≠ .queued) (hq' : (f o).state ≠ .queued) (M : Nat) : m'.waits M ↔ m.waits M := by
  simp only [Manager.waits, hm, mem_updated hd ho]
  constructor
  · rintro ⟨x, rfl | ⟨hx, _⟩, hxq, hxM⟩
    · exact absurd hxq hq'
    · exact ⟨x, hx, hxq, hxM⟩
  · rintro ⟨x, hx, hxq, hxM⟩
    exact ⟨x, .inr ⟨hx, fun e => hq (eq_of_number hd hx ho e ▸ hxq)⟩, hxq, hxM⟩

theorem Manager.waits_remove {m m' : Manager} (hd : (m.table.map Order.number).Nodup) {o : Order} (ho : o ∈ m.table)
    (hm : m'.table = m.table.filter fun x => x.number != o.number) (hq : o.state ≠ .queued) (M : Nat) :
    m'.waits M ↔ m.waits M := by
  simp only [Manager.waits, hm, List.mem_filter, bne_iff_ne]
  constructor
  · rintro ⟨x, ⟨hx, _⟩, hxq, hxM⟩
    exact ⟨x, hx, hxq, hxM⟩
  · rintro ⟨x, hx, hxq, hxM⟩
    exact ⟨x, ⟨hx, fun e => hq (eq_of_number hd hx ho e ▸ hxq)⟩, hxq, hxM⟩

/-! ## The numbers of the table -/

/-- `State.NumberInv` of a manager. -/
def Manager.Numbered (m : Manager) : Prop :=
  (m.table.map Order.number).Nodup ∧ (∀ o ∈ m.table, 1 ≤ o.number ∧ o.number ≤ 65535)
    ∧ (1 ≤ m.nextNumber ∧ m.nextNumber ≤ 65535) ∧ m.table.length ≤ 16

/-- A table with the same numbers, or some of them, in the same order. -/
theorem Manager.Numbered.sublist {m m' : Manager} (h : m.Numbered)
    (hs : (m'.table.map Order.number).Sublist (m.table.map Order.number)) (hn : m'.nextNumber = m.nextNumber) :
    m'.Numbered := by
  obtain ⟨hd, hrange, hnext, hlen⟩ := h
  refine ⟨hd.sublist hs, fun o ho => ?_, hn ▸ hnext, ?_⟩
  · obtain ⟨x, hx, e⟩ := List.mem_map.1 (hs.subset (List.mem_map_of_mem ho))
    exact e ▸ hrange x hx
  · have := hs.length_le
    simp only [List.length_map] at this
    omega

theorem Manager.Numbered.updated {m m' : Manager} (h : m.Numbered) {n : Nat} {f : Order → Order}
    (hf : ∀ o, (f o).number = o.number) (hm : m'.table = m.table.map fun x => if x.number = n then f x else x)
    (hn : m'.nextNumber = m.nextNumber) : m'.Numbered :=
  h.sublist (by rw [hm, numbers_updated _ _ hf]) hn

theorem Manager.Numbered.removed {m m' : Manager} (h : m.Numbered) {n : Nat}
    (hm : m'.table = m.table.filter fun x => x.number != n) (hn : m'.nextNumber = m.nextNumber) : m'.Numbered :=
  h.sublist (by rw [hm]; exact List.filter_sublist.map _) hn

/-! ## The invariants together -/

/-- The invariants of the order table; the two that are only kept where they held are guarded by `A` and `B`. -/
structure State.TableInv (A B : Prop) (s : State) : Prop where
  number : s.manager.Numbered
  owned : s.manager.Owned (s.run.map RunRecord.order)
  prewarm : A → (s.lamp.prewarm = true ↔ s.panel.mountPresent = true ∧ s.manager.waits s.panel.mountCounter)
  runEnd : B → s.run = none → s.line.state ≠ .seized ∧ s.store = Store.closed

section
variable {A B : Prop} {s t u : State}

theorem State.tableInv_iff : s.TableInv A B ↔
    s.NumberInv ∧ s.RunInv ∧ (A → s.PrewarmInv) ∧ (B → s.RunEndInv) :=
  ⟨fun h => ⟨h.number, (runInv_iff h.number.1).2 h.owned, h.prewarm, h.runEnd⟩,
    fun ⟨hn, hr, hp, he⟩ => ⟨hn, (runInv_iff hn.1).1 hr, hp, he⟩⟩

theorem State.TableInv.nodup (h : s.TableInv A B) : (s.manager.table.map Order.number).Nodup := h.number.1

theorem State.TableInv.weaken (h : s.TableInv A B) : s.TableInv False B :=
  ⟨h.number, h.owned, False.elim, h.runEnd⟩

theorem State.TableInv.owns (h : s.TableInv A B) : s.RunOwns := by
  intro r hr o ho hn
  obtain ⟨x, hx, hxn, hp⟩ := (h.owned.running r.order).2 (by simp [hr])
  rw [eq_of_number h.nodup ho hx (hn.trans hxn.symm)]
  exact OrderState.phase_running.1 hp

/-- Keys tell numbers, phases and bindings. -/
theorem Manager.has_of_keys {m m' : Manager} (e : m'.table.map Order.key = m.table.map Order.key) (n : Nat)
    (ph : OrderPhase) : m'.has n ph ↔ m.has n ph := by
  have key : ∀ {l k : List Order}, l.map Order.key = k.map Order.key →
      (∃ o ∈ l, o.number = n ∧ o.state.phase = ph) → ∃ o ∈ k, o.number = n ∧ o.state.phase = ph := by
    rintro l k e ⟨o, ho, rfl, rfl⟩
    obtain ⟨x, hx, hk⟩ := exists_of_keys e ho
    simp only [Order.key, Prod.mk.injEq] at hk
    exact ⟨x, hx, hk.1, hk.2.2⟩
  exact ⟨key e, key e.symm⟩

theorem Manager.waits_of_keys {m m' : Manager} (e : m'.table.map Order.key = m.table.map Order.key) (M : Nat) :
    m'.waits M ↔ m.waits M := by
  have key : ∀ {l k : List Order}, l.map Order.key = k.map Order.key →
      (∃ o ∈ l, o.state = .queued ∧ o.mount = M) → ∃ o ∈ k, o.state = .queued ∧ o.mount = M := by
    rintro l k e ⟨o, ho, hq, rfl⟩
    obtain ⟨x, hx, hk⟩ := exists_of_keys e ho
    simp only [Order.key, Prod.mk.injEq] at hk
    exact ⟨x, hx, by rw [← OrderState.phase_queued, hk.2.2, hq]; rfl, hk.2.1⟩
  exact ⟨key e, key e.symm⟩

/-- A quiet change keeps the invariants. -/
theorem State.TableInv.quiet (h : s.TableInv A B) (k : s.Quiet t) : t.TableInv A B where
  number := h.number.sublist (by rw [numbers_of_keys (k.keys h.owns)]) k.nextNumber
  owned := by
    have hhas := Manager.has_of_keys (k.keys h.owns)
    exact ⟨fun n => by rw [hhas, h.owned.running, k.runOrder], fun a b ha hb => h.owned.single a b
      ((hhas _ _).1 ha) ((hhas _ _).1 hb), by simp only [k.assemblyTimer, h.owned.timer, hhas]⟩
  prewarm := fun a => by rw [k.prewarm, k.present, k.counter, Manager.waits_of_keys (k.keys h.owns), h.prewarm a]
  runEnd := fun b hr => by
    have hs : s.run = none := by
      have := k.runOrder
      simpa [hr] using this.symm
    obtain ⟨hline, hstore⟩ := h.runEnd b hs
    exact ⟨fun e => hline (k.seized e), k.closed hstore⟩

/-- An operation on the table alone: what each invariant needs of it. -/
theorem State.TableInv.onManager (h : s.TableInv A B) {f : Manager → Manager} (hn : (f s.manager).Numbered)
    (ho : (f s.manager).Owned (s.run.map RunRecord.order)) {A' : Prop}
    (hw : A' → A ∧ ∀ M, (f s.manager).waits M ↔ s.manager.waits M) : (s.onManager f).TableInv A' B where
  number := hn
  owned := ho
  prewarm := fun a => by
    obtain ⟨a, hw⟩ := hw a
    simpa only [onManager_lamp, onManager_panel, onManager_manager, hw] using h.prewarm a
  runEnd := h.runEnd

/-! ## Retirement -/

/-- A FINISHED order leaves the table (R4, R25). -/
theorem State.TableInv.removeFinished (h : s.TableInv A B) {o : Order} (ho : o ∈ s.manager.table)
    (hf : o.state = .finished) : (removeOrder o.number s).TableInv A B := by
  have hold : s.manager.has o.number .finished := ⟨o, ho, rfl, by rw [hf]; rfl⟩
  refine h.onManager (h.number.removed rfl rfl) ?_ fun a =>
    ⟨a, Manager.waits_remove h.nodup ho rfl (by simp [hf])⟩
  refine h.owned.moved (Manager.moved_remove rfl) h.nodup hold (fun k => ?_) (by simp) (by simp)
  constructor
  · intro hk
    refine .inr ⟨?_, hk⟩
    rintro rfl
    exact absurd (Manager.has_unique h.nodup hold ((h.owned.running _).2 hk)) (by simp)
  · rintro (⟨_, e⟩ | ⟨_, hk⟩)
    · simp at e
    · exact hk

theorem oldestFinished_some {o : Order} (h : s.oldestFinished = some o) : o ∈ s.manager.table ∧ o.state = .finished :=
  ⟨List.mem_of_find?_eq_some h, by simpa using List.find?_some h⟩

theorem retireUpTo_tableInv (fuel : Nat) : ∀ {s : State}, s.TableInv A B → (retireUpTo fuel s).TableInv A B := by
  induction fuel with
  | zero => exact id
  | succ fuel ih =>
    intro s h
    unfold retireUpTo
    split
    · exact h
    · rename_i o ho
      obtain ⟨hmem, hfin⟩ := oldestFinished_some ho
      have leave : ∀ {t : State}, t.TableInv A B → o ∈ t.manager.table → (leaveTable o t).TableInv A B :=
        fun ht hm => (ht.removeFinished hm hfin).quiet (placeNotice_quiet (.refl _))
      split_ifs with _ hq
      · exact ih (leave (h.quiet (joinSlip_quiet (.refl _) hq)) (by simpa using hmem))
      · exact h
      · exact ih (leave h hmem)

theorem retire_tableInv (h : s.TableInv A B) : (retire s).TableInv A B := retireUpTo_tableInv _ h

/-! ## The pre-warm request (R12) -/

theorem prewarmWanted_iff : s.prewarmWanted = true ↔
    s.panel.mountPresent = true ∧ s.manager.waits s.panel.mountCounter := by
  simp only [State.prewarmWanted, List.any_eq_true, State.waitsOnMount, Bool.and_eq_true, beq_iff_eq, Manager.waits]
  exact ⟨fun ⟨o, ho, ⟨hq, hp⟩, hM⟩ => ⟨hp, o, ho, hq, hM⟩, fun ⟨hp, o, ho, hq, hM⟩ => ⟨o, ho, ⟨hq, hp⟩, hM⟩⟩

/-- The request stands as its condition stands. -/
theorem updatePrewarm_prewarm : (updatePrewarm s).lamp.prewarm = s.prewarmWanted := by
  unfold updatePrewarm
  split
  · unfold lampJoin
    split
    · rename_i hw hs
      rw [hw]
      exact hs
    · simp [Lamp.setRequest, *]
  · unfold lampWithdraw
    split
    · simp only [onLamp_lamp]
      split <;> simp [Lamp.setRequest, *]
    · simpa [Lamp.standing, *] using ‹¬s.lamp.standing .prewarm = true›

theorem reportLamp_runOrder : (reportLamp s).run.map RunRecord.order = s.run.map RunRecord.order := by
  cases h : s.run <;> simp [reportLamp, h]

theorem updatePrewarm_runOrder : (updatePrewarm s).run.map RunRecord.order = s.run.map RunRecord.order := by
  unfold updatePrewarm lampJoin lampWithdraw
  split <;> split
  · rfl
  · rw [reportLamp_runOrder]
    rfl
  · rfl
  · rfl

/-- Once the request is updated it is as R12 says, whatever it was. -/
theorem State.TableInv.updatePrewarm (h : s.TableInv False B) : (updatePrewarm s).TableInv A B where
  number := by simpa using h.number
  owned := by simpa [updatePrewarm_runOrder] using h.owned
  prewarm := fun _ => by
    rw [updatePrewarm_prewarm, prewarmWanted_iff]
    simp
  runEnd := fun b hr => by
    have hs : s.run = none := by
      have := updatePrewarm_runOrder (s := s)
      simpa [hr] using this.symm
    simpa using h.runEnd b hs

/-! ## Orders that finish without a run -/

/-- A QUEUED order finishes: every invariant but the pre-warm request's. -/
theorem finishQueued_tableInv (h : s.TableInv A B) {o : Order} (ho : o ∈ s.manager.table) (hq : o.state = .queued)
    (r : OrderResult) : (finishOrder o.number r s).TableInv False B := by
  have hold : s.manager.has o.number .queued := ⟨o, ho, rfl, by rw [hq]; rfl⟩
  rw [finishOrder_eq]
  refine State.TableInv.quiet ?_ (placeOrderEvent_quiet (.refl _))
  refine h.onManager (h.number.updated (f := Order.finish r s.todNow s.now) (fun _ => rfl) rfl rfl) ?_ False.elim
  refine h.owned.moved (Manager.moved_update h.nodup ho (f := Order.finish r s.todNow s.now) rfl rfl) h.nodup hold
    (fun k => ?_) (by simp [Order.finish, OrderState.phase]) (by simp)
  constructor
  · intro hk
    refine .inr ⟨?_, hk⟩
    rintro rfl
    exact absurd (Manager.has_unique h.nodup hold ((h.owned.running _).2 hk)) (by simp)
  · rintro (⟨_, e⟩ | ⟨_, hk⟩)
    · simp [Order.finish, OrderState.phase] at e
    · exact hk

theorem mountGone_tableInv {M n : Nat} (h : s.TableInv A B) : (mountGone M s n).TableInv False B := by
  unfold mountGone
  split
  · rename_i o ho
    split
    · have hn := findOrder_number ho
      exact retire_tableInv (hn ▸ finishQueued_tableInv h (findOrder_mem ho) (by simp [*]) _)
    · exact h.weaken
  · exact h.weaken

theorem foldl_mountGone_tableInv {M : Nat} (l : List Nat) :
    ∀ {s : State}, s.TableInv A B → (l.foldl (mountGone M) s).TableInv False B := by
  induction l generalizing A with
  | nil => exact State.TableInv.weaken
  | cons n l ih => exact fun h => ih (mountGone_tableInv h)

theorem mountEnd_tableInv (h : s.TableInv A B) : (mountEnd s).TableInv A B := by
  unfold mountEnd
  split
  · have hp : (s.onPanel fun p => { p with mountPresent := false }).TableInv False B :=
      ⟨h.number, h.owned, False.elim, h.runEnd⟩
    exact (foldl_mountGone_tableInv _ hp).updatePrewarm
  · exact h

/-! ## Selection and the start of a run -/

/-- While a run record stands, the line and the store are free. -/
theorem State.TableInv.running (h : s.TableInv A B) (hr : s.run ≠ none) (hm : t.manager = s.manager)
    (hrun : t.run = s.run) (hp : t.panel = s.panel) (hl : t.lamp = s.lamp) : t.TableInv A B where
  number := hm ▸ h.number
  owned := hm ▸ hrun ▸ h.owned
  prewarm := hm ▸ hp ▸ hl ▸ h.prewarm
  runEnd := fun _ e => absurd (hrun ▸ e) hr

theorem runBegun_tableInv {o : Order} (h : State.TableInv A B { s with run := some (runRecordFor o s) }) :
    (runBegun o s).TableInv A B := by
  have hstore : State.TableInv A B (({ s with run := some (runRecordFor o s) } : State).onStore fun _ =>
      Store.opened o.number o.header.samples o.lines) := h.running (by simp) rfl rfl rfl rfl
  have hq : State.Quiet (({ s with run := some (runRecordFor o s) } : State).onStore fun _ =>
      Store.opened o.number o.header.samples o.lines) (lampJoin .run (speedRequest o.header.speed
        (({ s with run := some (runRecordFor o s) } : State).onStore fun _ =>
          Store.opened o.number o.header.samples o.lines))) :=
    lampJoin_quiet (by decide) (speedRequest_quiet (.refl _))
  have hu := hstore.quiet hq
  have hrun : (lampJoin .run (speedRequest o.header.speed
        (({ s with run := some (runRecordFor o s) } : State).onStore fun _ =>
          Store.opened o.number o.header.samples o.lines))).run ≠ none := by
    intro e
    have := hq.runOrder
    simp [e] at this
  unfold runBegun lineSeize
  dsimp only
  split
  · exact (hu.running (t := State.onLine _ _) hrun rfl rfl rfl rfl).quiet (placeNotice_quiet (.refl _))
  · exact hu

theorem candidate_some {o : Order} (h : s.candidate = some o) : o ∈ s.manager.table ∧ s.waitsOnMount o = true := by
  unfold State.candidate at h
  split at h
  · rename_i x hx
    obtain rfl : x = o := by simpa using h
    have := List.find?_some hx
    simp only [Bool.and_eq_true] at this
    exact ⟨List.mem_of_find?_eq_some hx, this.1⟩
  · exact ⟨List.mem_of_find?_eq_some h, List.find?_some h⟩

/-- With no order running there is no run record. -/
theorem State.TableInv.run_none (h : s.TableInv A B) (hr : s.orderRunning = false) : s.run = none := by
  cases hrun : s.run with
  | none => rfl
  | some r =>
    obtain ⟨o, ho, _, hp⟩ := (h.owned.running r.order).2 (by simp [hrun])
    simp only [State.orderRunning, State.runningOrder, Option.isSome_eq_false_iff, Option.isNone_iff_eq_none,
      List.find?_eq_none] at hr
    exact absurd (OrderState.phase_running.1 hp) (hr o ho)

theorem selectOrder_tableInv (h : s.TableInv A B) (hrun : s.run = none) {o : Order} (ho : o ∈ s.manager.table)
    (hq : o.state = .queued) : (selectOrder o s).TableInv A B := by
  have hk : s.Quiet (updateOrder o.number (fun o =>
      { o with started := s.todNow, queue := o.queue.stop s.now, prepare := .running s.now }) s) :=
    updateOrder_quiet (.refl s) fun _ => rfl
  unfold selectOrder
  dsimp only
  refine (runBegun_tableInv ?_).quiet (runStart_quiet _ _)
  generalize hv : updateOrder o.number _ s = v at hk ⊢
  have hu := h.quiet hk
  have hvrun : v.run = none := by simp [← hv, hrun]
  obtain ⟨x, hx, hxn, hxq⟩ : v.manager.has o.number .queued :=
    (Manager.has_of_keys (hk.keys h.owns) _ _).2 ⟨o, ho, rfl, by rw [hq]; rfl⟩
  have hold : v.manager.has o.number .queued := ⟨x, hx, hxn, hxq⟩
  have hmoved := Manager.moved_update (m' := (enterState o.number .preparing v).manager) hu.nodup hx
    (f := fun o => { o with state := .preparing }) rfl (by rw [hxn]; simp [updateOrder])
  rw [hxn] at hmoved
  have hprep : State.TableInv False B { enterState o.number .preparing v with
      run := some (runRecordFor o (updatePrewarm (enterState o.number .preparing v))) } := by
    refine ⟨?_, ?_, False.elim, fun _ e => by simp at e⟩
    · dsimp only
      rw [enterState_manager]
      exact hu.number.updated (f := fun o => { o with state := .preparing }) (fun _ => rfl) rfl rfl
    · refine hu.owned.moved hmoved hu.nodup hold (fun k => ?_) (by simp [OrderState.phase]) (by simp [updateOrder])
      simp [hvrun, runRecordFor, OrderState.phase, eq_comm]
  have hpre := hprep.updatePrewarm (A := True)
  refine ⟨?_, ?_, fun _ => ?_, fun _ e => by simp at e⟩
  · simpa using hprep.number
  · simpa using hprep.owned
  · dsimp only
    rw [updatePrewarm_prewarm, prewarmWanted_iff]
    simp

theorem select_tableInv (h : s.TableInv A B) : (select s).TableInv A B := by
  unfold select
  split
  · rename_i hmay
    simp only [State.mayRun, Bool.and_eq_true, Bool.not_eq_true'] at hmay
    obtain ⟨⟨⟨_, hrun⟩, _⟩, _⟩ := hmay
    split
    · rename_i o ho
      obtain ⟨hmem, hwait⟩ := candidate_some ho
      simp only [State.waitsOnMount, Bool.and_eq_true, beq_iff_eq] at hwait
      obtain ⟨⟨hq, _⟩, _⟩ := hwait
      exact selectOrder_tableInv h (h.run_none hrun) hmem hq
    · exact h
  · exact h

theorem mountStart_tableInv (h : s.TableInv A B) : (mountStart s).TableInv A B := by
  have hp : (s.onPanel fun p => { p with mountCounter := nextOf p.mountCounter, mountPresent := true }).TableInv False B :=
    ⟨h.number, h.owned, False.elim, h.runEnd⟩
  exact select_tableInv hp.updatePrewarm

end

end Sys2Proof.Machine
end

section
/-! PROOF. The invariants of the order table, continued: assembly (R13 to R17), the requests, the end of a run (R171), RESTART
and POWER_ON; and the step. -/

namespace Sys2Proof.Machine

section
variable {A B : Prop} {s t u : State}

/-! ## Assembly -/

theorem assemblingOrder_none (h : s.assemblingOrder = none) (n : Nat) : ¬s.manager.has n .assembling := by
  rintro ⟨o, ho, _, hp⟩
  have := List.find?_eq_none.1 h o ho
  simp [OrderState.phase_assembling.1 hp] at this

theorem assemblingOrder_some {o : Order} (h : s.assemblingOrder = some o) :
    o ∈ s.manager.table ∧ o.state = .assembling :=
  ⟨List.mem_of_find?_eq_some h, by simpa using List.find?_some h⟩

theorem has_assembling {o : Order} (ho : o ∈ s.manager.table) (ha : o.state = .assembling) :
    s.manager.has o.number .assembling := ⟨o, ho, rfl, OrderState.phase_assembling.2 ha⟩

/-- The ASSEMBLING order leaves its phase, or the table, as its timer stops. -/
theorem State.TableInv.ownedAssembled (h : s.TableInv A B) {o : Order} (ho : o ∈ s.manager.table)
    (ha : o.state = .assembling) {m : Manager} {new : Option OrderPhase} (hm : s.manager.Moved m o.number new)
    (hr : new ≠ some .running) (hn : new ≠ some .assembling) (ht : m.assemblyTimer = none) :
    m.Owned (s.run.map RunRecord.order) := by
  have hold := has_assembling ho ha
  refine h.owned.moved hm h.nodup hold (fun k => ?_) hn (by simp [ht])
  simp only [hr, and_false, false_or]
  refine ⟨fun hk => ⟨?_, hk⟩, fun hk => hk.2⟩
  rintro rfl
  exact absurd (Manager.has_unique h.nodup hold ((h.owned.running _).2 hk)) (by simp)

/-- The ASSEMBLING order is discarded and the assembly timer stops (R14, R15, R16). -/
theorem State.TableInv.discard (h : s.TableInv A B) {o : Order} (ho : o ∈ s.manager.table) (ha : o.state = .assembling) :
    (s.onManager fun m =>
      { m with table := m.table.filter fun x => x.number != o.number, assemblyTimer := none }).TableInv A B :=
  h.onManager (h.number.removed rfl rfl)
    (h.ownedAssembled ho ha (Manager.moved_remove rfl) (by simp) (by simp) rfl)
    fun a => ⟨a, Manager.waits_remove h.nodup ho rfl (by simp [ha])⟩

/-- The ASSEMBLING order becomes QUEUED and the assembly timer stops (R17). -/
theorem State.TableInv.queue (h : s.TableInv A B) {o : Order} (ho : o ∈ s.manager.table) (ha : o.state = .assembling)
    {f : Order → Order} (hf : ∀ x, (f x).number = x.number) (hq : (f o).state = .queued) :
    (s.onManager fun m =>
      { m with
        table := m.table.map fun x => if x.number = o.number then f x else x
        assemblyTimer := none }).TableInv False B :=
  h.onManager (h.number.updated hf rfl rfl)
    (h.ownedAssembled ho ha (Manager.moved_update h.nodup ho (hf o) rfl) (by simp [hq, OrderState.phase])
      (by simp [hq, OrderState.phase]) rfl)
    False.elim

/-- The assembly timer restarts (R14). -/
theorem State.TableInv.restartTimer (h : s.TableInv A B) (hs : s.manager.assemblyTimer.isSome = true) (due : Nat) :
    (s.onManager fun m => { m with assemblyTimer := some due }).TableInv A B := by
  refine h.onManager h.number ?_ fun a => ⟨a, fun _ => Iff.rfl⟩
  obtain ⟨hrun, hone, htimer⟩ := h.owned
  exact ⟨hrun, hone, fun _ => htimer.1 hs, fun _ => rfl⟩

/-- A record in ASSEMBLING joins the table, and the assembly timer starts (R13). -/
theorem State.TableInv.join (h : s.TableInv A B) (hnone : s.assemblingOrder = none) (hlen : s.manager.table.length < 16)
    {o : Order} (ha : o.state = .assembling) (hfree : ∀ x ∈ s.manager.table, x.number ≠ o.number)
    (hrange : 1 ≤ o.number ∧ o.number ≤ 65535) (due : Nat) :
    (s.onManager fun m =>
      { m with
        table := m.table ++ [o]
        nextNumber := nextOf o.number
        assemblyTimer := some due }).TableInv A B := by
  have hhas : ∀ k ph, Manager.has { s.manager with
        table := s.manager.table ++ [o], nextNumber := nextOf o.number, assemblyTimer := some due } k ph ↔
      s.manager.has k ph ∨ o.number = k ∧ ph = .assembling := by
    intro k ph
    simp only [Manager.has, List.mem_append, List.mem_singleton]
    constructor
    · rintro ⟨x, hx | rfl, rfl, rfl⟩
      · exact .inl ⟨x, hx, rfl, rfl⟩
      · exact .inr ⟨rfl, OrderState.phase_assembling.2 ha⟩
    · rintro (⟨x, hx, rfl, rfl⟩ | ⟨rfl, rfl⟩)
      · exact ⟨x, .inl hx, rfl, rfl⟩
      · exact ⟨o, .inr rfl, rfl, OrderState.phase_assembling.2 ha⟩
  have hno := assemblingOrder_none hnone
  refine h.onManager ?_ ?_ fun a => ⟨a, fun M => ?_⟩
  · obtain ⟨hd, hr, _, _⟩ := h.number
    refine ⟨?_, ?_, nextOf_range _, ?_⟩
    · simp only [List.map_append, List.map_cons, List.map_nil, List.nodup_append, List.mem_map, List.mem_singleton]
      refine ⟨hd, by simp, ?_⟩
      rintro _ ⟨x, hx, rfl⟩ _ rfl
      exact hfree x hx
    · simp only [List.mem_append, List.mem_singleton]
      rintro x (hx | rfl)
      · exact hr x hx
      · exact hrange
    · simp only [List.length_append, List.length_singleton]
      omega
  · refine ⟨fun n => ?_, fun a b hxa hxb => ?_, ?_⟩
    · refine (hhas n .running).trans ?_
      rw [h.owned.running]
      simp
    · obtain ⟨rfl, _⟩ := ((hhas a _).1 hxa).resolve_left (hno a)
      obtain ⟨rfl, _⟩ := ((hhas b _).1 hxb).resolve_left (hno b)
      rfl
    · exact ⟨fun _ => ⟨o.number, (hhas _ _).2 (.inr ⟨rfl, rfl⟩)⟩, fun _ => rfl⟩
  · simp only [Manager.waits, List.mem_append, List.mem_singleton]
    constructor
    · rintro ⟨x, hx | rfl, hq, hM⟩
      · exact ⟨x, hx, hq, hM⟩
      · simp [ha] at hq
    · rintro ⟨x, hx, hq, hM⟩
      exact ⟨x, .inl hx, hq, hM⟩

/-- The end of an assembly, its timer stopped before: refused it leaves the table, accepted it is QUEUED. -/
theorem finishAssembly_tableInv {n due : Nat} (h : (s.onManager fun m => { m with assemblyTimer := some due }).TableInv A B)
    (ht : s.manager.assemblyTimer = none) {o : Order} (ho : o ∈ s.manager.table) (hn : o.number = n)
    (ha : o.state = .assembling) : (finishAssembly n s).2.TableInv A B := by
  subst hn
  have hstop : ∀ l : List Order, (s.onManager fun m => { m with table := l }) =
      (s.onManager fun m => { m with assemblyTimer := some due }).onManager fun m =>
        { m with table := l, assemblyTimer := none } := by
    intro l
    simp [State.onManager, ← ht]
  unfold finishAssembly
  rw [findOrder_of_mem (s := s) h.nodup ho rfl]
  dsimp only
  split
  · have hd := h.discard ho ha
    rwa [show removeOrder o.number s = _ from hstop _]
  · have hq := h.queue ho ha (f := Order.accept s) (fun _ => rfl) rfl
    refine select_tableInv (State.TableInv.updatePrewarm ?_)
    rwa [show updateOrder o.number (Order.accept s) s = _ from hstop _]

theorem serveOrderBegin_tableInv {p : List Byte} (h : s.TableInv A B) : (serveOrderBegin p s).2.TableInv A B := by
  unfold serveOrderBegin
  split
  · exact h
  · rename_i hnone
    split
    · exact h
    · rename_i hlen
      have hj := h.join hnone (by omega) (o := newOrder s.manager.assign (Header.ofPayload p) (p.drop 20)) rfl
        (assign_fresh h.number) (assign_range h.number)
      have ht : s.manager.assemblyTimer = none := by
        have := h.owned.timer
        simpa [assemblingOrder_none hnone] using this
      dsimp only
      split
      · exact finishAssembly_tableInv (o := newOrder s.manager.assign (Header.ofPayload p) (p.drop 20)) (hj 0) ht
          (by simp) rfl rfl
      · exact hj _

theorem serveOrderPart_tableInv {p : List Byte} (h : s.TableInv A B) : (serveOrderPart p s).2.TableInv A B := by
  unfold serveOrderPart
  dsimp only
  split
  · exact h
  · rename_i o ho
    obtain ⟨hmem, ha⟩ := assemblingOrder_some ho
    split
    · exact h
    · rename_i hn
      rw [not_not] at hn
      rw [← hn]
      split
      · exact h.discard hmem ha
      · have hu : (updateOrder o.number (Order.addFragment (p.drop 3)) s).TableInv A B :=
          h.quiet (updateOrder_quiet (.refl s) fun _ => rfl)
        have hs : s.manager.assemblyTimer.isSome = true := h.owned.timer.2 ⟨_, has_assembling hmem ha⟩
        split
        · refine finishAssembly_tableInv (due := 0) (hu.restartTimer hs 0) rfl
            (o := Order.addFragment (p.drop 3) o) ?_ rfl ha
          exact (mem_updated h.nodup hmem).2 (.inl rfl)
        · exact hu.restartTimer hs _

theorem assemblyExpired_tableInv (h : s.TableInv A B) : (assemblyExpired s).TableInv A B := by
  unfold assemblyExpired
  dsimp only
  split
  · rename_i o ho
    obtain ⟨hmem, ha⟩ := assemblingOrder_some ho
    exact (h.discard hmem ha).quiet (placeNotice_quiet (.refl _))
  · rename_i ho
    refine h.onManager h.number ?_ fun a => ⟨a, fun _ => Iff.rfl⟩
    obtain ⟨hrun, hone, _⟩ := h.owned
    exact ⟨hrun, hone, fun e => by simp at e, fun ⟨n, hn⟩ => absurd hn (assemblingOrder_none ho n)⟩

/-! ## Other requests -/

theorem serveOrderCancel_tableInv {p : List Byte} (h : s.TableInv A B) : (serveOrderCancel p s).2.TableInv A B := by
  unfold serveOrderCancel
  dsimp only
  split
  · exact h
  · rename_i o ho
    have hn := findOrder_number ho
    have hrun : (runAbort .cancel s).TableInv A B := h.quiet (runAbort_quiet (.refl s))
    cases hst : o.state with
    | queued =>
      exact retire_tableInv (hn ▸ finishQueued_tableInv h (findOrder_mem ho) hst _).updatePrewarm
    | preparing => exact hrun
    | phasing => exact hrun
    | sending => exact hrun
    | assembling => exact h
    | ending => exact h
    | confirming => exact h
    | finished => exact h

/-- The inquired order, marked, is the one of its number. -/
theorem serveOrderInquire_tableInv {p : List Byte} (h : s.TableInv A B) : (serveOrderInquire p s).2.TableInv A B := by
  unfold serveOrderInquire
  dsimp only
  split
  · exact h
  · split
    · exact h
    · split
      · exact h
      · rename_i o ho
        split
        · exact h
        · refine h.quiet (updateOrder_quiet_of_mem (.refl s) fun x hx hxn => ?_)
          rw [eq_of_number h.nodup hx (findOrder_mem ho) (hxn.trans (findOrder_number ho).symm)]
          split <;> rfl

theorem serveQueueControl_tableInv {p : List Byte} (h : s.TableInv A B) : (serveQueueControl p s).2.TableInv A B := by
  have hm : ∀ st, (s.onManager fun m => { m with state := st }).TableInv A B := fun st =>
    h.quiet { State.Quiet.refl s with }
  unfold serveQueueControl
  split_ifs
  · exact hm _
  · exact h
  · exact select_tableInv (hm _)
  · exact h

theorem serveCalKind_tableInv {k : CalKind} {f : State → State} (h : s.TableInv A B) (hf : s.Quiet (f s)) :
    (serveCalKind k f s).2.TableInv A B := by
  unfold serveCalKind
  split
  · exact h
  · dsimp only
    split
    · exact select_tableInv (h.quiet hf)
    · exact h.quiet hf

theorem serveCalRun_tableInv {p : List Byte} (h : s.TableInv A B) : (serveCalRun p s).2.TableInv A B := by
  unfold serveCalRun
  split
  · exact serveCalKind_tableInv h (beginMotor_quiet (.refl s))
  · exact serveCalKind_tableInv h (beginDark_quiet (.refl s))
  · exact serveCalKind_tableInv h (beginWhite_quiet (.refl s))
  · split
    · exact h
    · exact serveCalKind_tableInv h (beginSteps_quiet (.refl s))
  · exact h

/-- A change of the settings alone. -/
theorem settings_quiet (st : Settings) : s.Quiet { s with settings := st } := (State.Quiet.refl s).frame rfl

theorem serveSlipControl_tableInv {p : List Byte} (h : s.TableInv A B) : (serveSlipControl p s).2.TableInv A B := by
  unfold serveSlipControl
  split
  · unfold serveSlipMode
    split_ifs
    · exact retire_tableInv (h.quiet (settings_quiet _))
    · exact h
    · exact h.quiet (settings_quiet _)
    · exact h
  · unfold serveSlipFeed
    split_ifs
    · exact h
    · exact h
    · exact h
    · dsimp only
      exact h.quiet (State.Quiet.onSlips (.refl s) id)
  · unfold serveSlipReprint
    split
    · exact h
    · split
      · exact h
      · exact h.quiet (joinSlip_quiet (.refl s) (by omega))
  · exact h

theorem serveSettingsSet_tableInv {p : List Byte} (h : s.TableInv A B) : (serveSettingsSet p s).2.TableInv A B := by
  unfold serveSettingsSet
  dsimp only
  split
  · exact h
  · split
    · exact h
    · dsimp only
      split
      · exact retire_tableInv (h.quiet (settings_quiet _))
      · exact h.quiet (settings_quiet _)

/-! ## RESTART and POWER_ON -/

/-- An empty table without a run meets the invariants when nothing is left of a run. -/
theorem State.TableInv.empty (ht : s.manager.table = []) (ha : s.manager.assemblyTimer = none)
    (hn : 1 ≤ s.manager.nextNumber ∧ s.manager.nextNumber ≤ 65535) (hr : s.run = none) (hp : s.lamp.prewarm = false)
    (hl : s.line.state ≠ .seized) (hs : s.store = Store.closed) : s.TableInv A B where
  number := by simp [Manager.Numbered, ht, hn]
  owned := ⟨by simp [Manager.has, ht, hr], by simp [Manager.has, ht], by simp [Manager.has, ht, ha]⟩
  prewarm := fun _ => by simp [Manager.waits, ht, hp]
  runEnd := fun _ _ => ⟨hl, hs⟩

theorem carryOutRestart_tableInv {b : Bool} (h : s.TableInv A B) : (carryOutRestart b s).TableInv A B := by
  obtain ⟨_, _, hn, _⟩ := h.number
  refine .empty rfl rfl hn rfl rfl ?_ rfl
  simp only [carryOutRestart, LineUnit.restart]
  split <;> simp [*, LineUnit.released]

theorem serveRestart_tableInv {p : List Byte} (h : s.TableInv A B) : (serveRestart p s).2.TableInv A B := by
  unfold serveRestart
  dsimp only
  split
  · exact h
  · have hr := carryOutRestart_tableInv (b := byteAt p 0 == 1) h
    split
    · exact hr
    · exact hr.quiet (State.Quiet.onLink (f := fun l => { l with restart := some (byteAt p 0 == 1) }) (.refl _) rfl id)

/-- Every owner's answer keeps the invariants. -/
theorem serveKind_tableInv (k : Nat) (p : List Byte) (h : s.TableInv A B) : (serveKind k p s).2.TableInv A B := by
  unfold serveKind
  split
  · exact h.quiet (serveStatus_quiet (p := p) (.refl s))
  · exact serveSettingsSet_tableInv h
  · exact h
  · exact h.quiet (serveClockSet_quiet (.refl s))
  · exact h.quiet (serveStationLoad_quiet (.refl s))
  · exact h.quiet (serveStationRead_quiet (.refl s))
  · exact h.quiet (serveCalLoad_quiet (.refl s))
  · exact h.quiet (serveCalRead_quiet (.refl s))
  · exact h.quiet (serveCurveLoad_quiet (.refl s))
  · exact serveCalRun_tableInv h
  · exact serveOrderBegin_tableInv h
  · exact serveOrderPart_tableInv h
  · exact serveOrderCancel_tableInv h
  · exact serveOrderInquire_tableInv h
  · exact h
  · exact serveQueueControl_tableInv h
  · exact h.quiet (serveDrumSpin_quiet (.refl s))
  · exact serveSlipControl_tableInv h
  · exact serveRestart_tableInv h
  · exact h

/-- The link is none of the table's neighbours. -/
theorem State.TableInv.onLink (h : s.TableInv A B) (f : Link → Link) : (s.onLink f).TableInv A B :=
  ⟨h.number, h.owned, h.prewarm, h.runEnd⟩

theorem serveFront_tableInv (h : s.TableInv A B) : (serveFront s).TableInv A B :=
  serveFront_ind (P := State.TableInv A B) h (fun r => answer_ind r h fun k p => serveKind_tableInv k p h)
    fun _ _ _ h => h.onLink _

/-! ## The end of a run (R171) -/

/-- The order of the run finishes as the run record goes. -/
theorem finishRun_tableInv (h : s.TableInv A B) {r : RunRecord} (hr : s.run = some r) {o : Order}
    (ho : o ∈ s.manager.table) (hn : o.number = r.order) (res : OrderResult) (ht : t.manager = s.manager)
    (hrun : t.run = none) (hp : t.lamp.prewarm = s.lamp.prewarm) (hpanel : t.panel = s.panel)
    (hl : t.line.state ≠ .seized) (hs : t.store = Store.closed) : (finishOrder r.order res t).TableInv A B := by
  have hstate : o.state.isRunning = true := h.owns r hr o ho hn
  have hold : s.manager.has o.number .running := ⟨o, ho, rfl, OrderState.phase_running.2 hstate⟩
  rw [finishOrder_eq, ← hn]
  refine State.TableInv.quiet ⟨?_, ?_, fun a => ?_, fun _ _ => ?_⟩ (placeOrderEvent_quiet (.refl _))
  · simp only [updateOrder, onManager_manager, ht]
    exact h.number.updated (f := Order.finish res t.todNow t.now) (fun _ => rfl) rfl rfl
  · simp only [updateOrder, onManager_manager, onManager_run, ht]
    refine h.owned.moved (Manager.moved_update h.nodup ho (f := Order.finish res t.todNow t.now) rfl rfl) h.nodup hold
      (fun k => ?_) (by simp [Order.finish, OrderState.phase]) (by simp)
    simp [hrun, hr, Order.finish, OrderState.phase, hn, eq_comm]
  · simp only [updateOrder, onManager_manager, onManager_lamp, onManager_panel, ht, hp, hpanel]
    rw [Manager.waits_update (m := s.manager) h.nodup ho (f := Order.finish res t.todNow t.now) rfl]
    · exact h.prewarm a
    · intro e
      simp [e, OrderState.isRunning] at hstate
    · simp [Order.finish]
  · exact ⟨hl, hs⟩

theorem releasedReport_tableInv (h : s.TableInv A B) (hl : s.line.state ≠ .seized) :
    (releasedReport s).TableInv A B := by
  unfold releasedReport
  split
  · exact h
  · rename_i r hr
    obtain ⟨o, ho, hn, _⟩ := (h.owned.running r.order).2 (by simp [hr])
    rw [findOrder_of_mem h.nodup ho hn]
    refine retire_tableInv (select_tableInv (finishRun_tableInv h hr ho hn _ ?_ ?_ ?_ ?_ ?_ ?_))
    · simp
    · simp
    · exact (lampWithdraw_quiet (by decide) (.refl _)).prewarm
    · simp
    · simpa using hl
    · simp [closeStore]

theorem releaseCleared_tableInv (h : s.TableInv A B) : (releaseCleared s).TableInv A B := by
  have hi : s.Quiet (s.onLine LineUnit.idled) := (State.Quiet.refl s).onLine (by simp [LineUnit.idled])
  unfold releaseCleared
  dsimp only
  split
  · exact h.quiet (finishRestart_quiet hi)
  · exact releasedReport_tableInv (h.quiet (placeNotice_quiet hi)) (by simp [LineUnit.idled])

theorem tableInv_kept (A B : Prop) : Kept (State.TableInv A B) where
  quiet k h := h.quiet k
  power _ _ := .empty rfl rfl (by simp [State.atPower, State.reset]) rfl rfl (by simp [State.atPower, State.reset]) rfl
  offer r _ h := Kept.when _ (serveFront_tableInv (h.onLink _)) (h.onLink _)
  sent h := by
    unfold frameDone
    split
    · exact h
    · exact (serveFront_tableInv (h.onLink _)).onLink _
  expired h := assemblyExpired_tableInv h
  select h := select_tableInv h
  retire h := retire_tableInv h
  mountStart h := mountStart_tableInv h
  mountEnd h := mountEnd_tableInv h
  cleared h := releaseCleared_tableInv h

end

/-- Settles O58: the invariants survive each operation that begins, ends or removes an order, and every quiet change
(`tableInv_kept`); the guarded two are kept where the state before the step met them. -/
theorem everyStepKeepsTheOrderTable : Obligations.EveryStepKeepsTheOrderTable := by
  intro s t hn hr e
  have h : s.TableInv s.PrewarmInv s.RunEndInv := State.tableInv_iff.2 ⟨hn, hr, id, id⟩
  exact State.tableInv_iff.1 ((tableInv_kept _ _).step h e)

end Sys2Proof.Machine
end

section
/-! PROOF. Reset (R26 and the rules it stands with), ORDER_LIST (R23) and QUEUE_CONTROL (R19). -/

namespace Sys2Proof.Machine

/-- Settles O2: each value is read off `State.reset`. -/
theorem resetValues : Obligations.ResetValues := by
  unfold Obligations.ResetValues
  refine ⟨⟨rfl, rfl, rfl, rfl⟩, rfl, ?_, rfl, rfl, rfl, ⟨rfl, rfl, rfl, rfl⟩, ⟨rfl, rfl, rfl, rfl, rfl, rfl⟩,
    ⟨rfl, rfl, rfl⟩, ⟨rfl, rfl, rfl, rfl⟩, ⟨rfl, rfl, rfl, rfl, rfl, rfl, rfl, rfl⟩, ⟨rfl, rfl, rfl⟩,
    ⟨rfl, rfl, rfl, rfl, rfl, rfl, rfl⟩, rfl⟩
  exact ⟨rfl, rfl, rfl, rfl, rfl, rfl, rfl, rfl, rfl, rfl, rfl, rfl, rfl, rfl, rfl, rfl, rfl⟩

theorem reset_drumInv : State.reset.DrumInv := by
  simp [State.DrumInv, Drum.Inv, State.reset, DrumState.isTurning]

theorem reset_recordsInv : State.reset.RecordsInv := by
  refine ⟨⟨rfl, fun i j c _ _ h _ => ?_⟩, ?_⟩
  · have hd : State.reset.directory.getD i .disabled = .disabled := by
      simp only [State.reset, List.getD_eq_getElem?_getD, List.getElem?_replicate]
      split <;> rfl
    rw [hd] at h
    simp [StationEntry.code] at h
  · simp [Settings.InRange, State.reset]

theorem reset_calibrationInv : State.reset.CalibrationInv := by
  simp [State.CalibrationInv, State.reset]

/-- Settles O55: the table and its neighbours are empty at reset (`State.TableInv.empty`), the drum, the line and the records
have the values of `State.reset`. -/
theorem resetMeetsTheInvariants : Obligations.ResetMeetsTheInvariants := by
  have ht : State.reset.TableInv True True :=
    .empty rfl rfl (by decide) rfl rfl (by decide) rfl
  obtain ⟨hnumber, hrun, hprewarm, hend⟩ := State.tableInv_iff.1 ht
  refine ⟨reset_drumInv, ?_, hnumber, hrun, hprewarm trivial, hend trivial, reset_recordsInv, reset_calibrationInv, ?_⟩
  · simp [State.CapacityInv, State.reset]
  · simp [LineUnit.Inv, State.reset]

/-- Settles O30: the reply is the table as it stands, and nothing is changed. -/
theorem orderListReadsTheTable : Obligations.OrderListReadsTheTable := by
  intro dt tag s hf
  have h := exec_request (i := .orderList dt tag []) rfl hf (by simp) rfl rfl
    (.ok (BitVec.ofNat 8 s.manager.state.code :: BitVec.ofNat 8 s.manager.table.length
      :: s.manager.table.flatMap fun o => u16 o.number ++ [BitVec.ofNat 8 o.state.code])) s rfl rfl rfl
  refine ⟨h, fun hempty => ?_⟩
  rw [h, hempty]
  rfl

/-- Settles O31: RESUME examines selection, which finds no order that waits. -/
theorem queueControlHaltsAndResumes : Obligations.QueueControlHaltsAndResumes := by
  intro dt tag s hf
  refine ⟨exec_request (i := .queueControlHalt dt tag []) rfl hf (by simp) rfl rfl _
    { s with manager := { s.manager with state := .halted } } rfl rfl rfl, fun hor => ?_⟩
  refine exec_request (i := .queueControlResume dt tag []) rfl hf (by simp) rfl rfl _
    { s with manager := { s.manager with state := .running } } rfl rfl ?_
  change answered (serveQueueControl [1#8] (s.serving dt _)) = _
  have hb : byteAt [1#8] 0 = 1 := by decide
  by_cases hr : s.manager.state = .running
  · have hs : (s.serving dt ⟨0x10#8, tag, [1#8]⟩).manager.state = .running := hr
    simp only [serveQueueControl, hb, hs, answered, if_true]
    simp [State.serving, ← hr, ManagerState.code, u8]
  · have hs : (s.serving dt ⟨0x10#8, tag, [1#8]⟩).manager.state ≠ .running := hr
    have hw := hor.resolve_left hr
    have hnone : ∀ o ∈ s.manager.table, s.waitsOnMount o = false := by
      intro o ho
      simp only [State.waitsOnMount, Bool.and_eq_false_iff, beq_eq_false_iff_ne]
      by_cases hq : o.state = .queued
      · cases hp : s.panel.mountPresent with
        | false => exact .inl (.inr rfl)
        | true => exact .inr (hw o ho hq hp)
      · exact .inl (.inl hq)
    simp only [serveQueueControl, hb, hs, answered, if_false, if_true, Nat.one_ne_zero]
    rw [select_none]
    · rfl
    · exact hnone

end Sys2Proof.Machine
end

section
/-! PROOF. Assembly and validation (R9, R13 to R17): the checks of R16 one by one, and what the examinations after an accepted
order do under a HALTED manager. -/

namespace Sys2Proof.Machine

section
variable {s t : State}

/-! ## The examinations under a HALTED manager -/

theorem select_halted (h : s.manager.state = .halted) : select s = s := by
  simp [select, State.mayRun, h]

/-- Without a mount and without a request, no pre-warm request is made or withdrawn (R12). -/
theorem updatePrewarm_unmounted (hp : s.panel.mountPresent = false) (hl : s.lamp.prewarm = false) :
    updatePrewarm s = s := by
  have hw : s.prewarmWanted ≠ true := fun e => by simp [prewarmWanted_iff, hp] at e
  simp [updatePrewarm, hw, lampWithdraw, Lamp.standing, hl]

/-- With no run record, lamp and carriage reports reach nobody. -/
theorem onRun_none (h : s.run = none) (f : RunRecord → RunRecord) : s.onRun f = s := by
  cases s
  simp_all [State.onRun]

theorem reportLamp_none (h : s.run = none) : reportLamp s = s := onRun_none h _

/-- The lamp as a first request leaves it when it was OFF (R84, R85). -/
def Lamp.warmed (q : LampRequest) (now : Nat) (l : Lamp) : Lamp :=
  { l.setRequest q true with
    idleTimer := none, state := .warming, warmTimer := some (now + sec (if l.cold now then 45 else 8)) }

/-- A request joins and lights an OFF lamp that no dark hold keeps dark. -/
theorem lampJoin_off {q : LampRequest} (hr : s.run = none) (hq : s.lamp.standing q = false) (ho : s.lamp.state = .off)
    (hd : s.lamp.darkHold = false) : lampJoin q s = s.onLamp (Lamp.warmed q s.now) := by
  unfold lampJoin
  rw [hq]
  simp only [Bool.false_eq_true, if_false]
  refine (reportLamp_none (s := s.onLamp _) hr).trans ?_
  unfold State.onLamp
  congr 1
  have hc : (s.lamp.setRequest q true).cold s.now = s.lamp.cold s.now := by cases q <;> rfl
  have hs : (s.lamp.setRequest q true).state = .off ∧ (s.lamp.setRequest q true).darkHold = false := by
    cases q <;> exact ⟨ho, hd⟩
  simp only [Lamp.answer, Lamp.warmed, hs, hc, and_self, if_true]

theorem Lamp.cold_iff {now : Nat} {l : Lamp} :
    l.cold now = true ↔ l.offTime = none ∨ ∃ t, l.offTime = some t ∧ t + 600000000 ≤ now := by
  unfold Lamp.cold
  cases l.offTime with
  | none => simp
  | some t =>
    simp only [reduceCtorEq, Option.some.injEq, exists_eq_left', false_or]
    exact decide_eq_true_iff

/-- The pre-warm request of a waiting order lights an OFF lamp (R12, R85). -/
theorem updatePrewarm_lights (hw : s.prewarmWanted = true) (hr : s.run = none) (hp : s.lamp.prewarm = false)
    (ho : s.lamp.state = .off) (hd : s.lamp.darkHold = false) :
    updatePrewarm s = s.onLamp (Lamp.warmed .prewarm s.now) := by
  rw [updatePrewarm, if_pos hw, lampJoin_off hr (by exact hp) ho hd]

/-- The warm-up time in the words of R85. -/
theorem Lamp.warmTime {now : Nat} {l : Lamp} : sec (if l.cold now then 45 else 8) =
    if l.offTime = none ∨ ∃ t, l.offTime = some t ∧ t + 600000000 ≤ now then 45000000 else 8000000 := by
  by_cases h : l.cold now = true
  · rw [if_pos h, if_pos (Lamp.cold_iff.1 h)]
    rfl
  · rw [if_neg h, if_neg (h ∘ Lamp.cold_iff.2)]
    rfl

/-! ## The checks of R16 -/

theorem State.station_eq_some {k : Nat} {st : Station} :
    s.station k = some st ↔ 1 ≤ k ∧ s.directory[k - 1]? = some (.enabled st) := by
  unfold State.station
  split
  · simp [*]
  · split
    · simp_all
      omega
    · simp_all

theorem State.networkOf_dial {k : Nat} (hk : 1 ≤ k) : s.networkOf k = .dial ↔
    ∃ st ds, s.directory[k - 1]? = some (.enabled st) ∧ st.address = .dial ds := by
  unfold State.networkOf
  cases h : s.station k with
  | none =>
    simp only [Option.map_none, reduceCtorEq, false_iff, not_exists, not_and]
    intro st ds he
    rw [State.station_eq_some.2 ⟨hk, he⟩] at h
    simp at h
  | some st =>
    have he := (State.station_eq_some.1 h).2
    cases hs : st.address <;> simp [he, hs]

/-- The sub-checks of step 3 for one destination, `seen` the stations before it. -/
def destCheck (h : Header) (s : State) (seen : List Nat) (n : Nat) : Option Reason :=
  if n = 0 ∨ 32 < n then some .destUnknown
  else match s.station n with
    | none => some .destDisabled
    | some st =>
      if seen.contains n then some .destDuplicate
      else if st.hasSpeed h.speed && st.hasMod h.mod then none
      else some .destSpeed

theorem destFault_cons (h : Header) (s : State) (i : Nat) (seen : List Nat) (n : Nat) (rest : List Nat) :
    destFault h s i seen (n :: rest) =
      match destCheck h s seen n with
      | some r => some (r, i)
      | none => destFault h s (i + 1) (n :: seen) rest := by
  unfold destCheck
  rw [destFault]
  split
  · rfl
  · cases s.station n with
    | none => rfl
    | some st =>
      dsimp only
      split
      · rfl
      · split <;> rfl

theorem destCheck_perm {h : Header} {seen seen' : List Nat} (e : ∀ n, n ∈ seen ↔ n ∈ seen') (n : Nat) :
    destCheck h s seen n = destCheck h s seen' n := by
  have hc : seen.contains n = seen'.contains n := by
    rw [Bool.eq_iff_iff, List.contains_iff_mem, List.contains_iff_mem, e]
  simp only [destCheck, hc]

/-- The first destination that fails gives its reason and place. -/
theorem destFault_some {h : Header} {r : Reason} {k : Nat} (l : List Nat) : ∀ (a : Nat) (seen : List Nat) (i : Nat),
    l[i]? = some k → (∀ j m, j < i → l[j]? = some m → destCheck h s (seen ++ l.take j) m = none) →
    destCheck h s (seen ++ l.take i) k = some r → destFault h s a seen l = some (r, a + i) := by
  induction l with
  | nil => simp
  | cons n l ih =>
    intro a seen i hk hpass hfail
    rw [destFault_cons]
    cases i with
    | zero =>
      obtain rfl : n = k := by simpa using hk
      have : destCheck h s seen n = some r := by simpa using hfail
      simp [this]
    | succ i =>
      have hn : destCheck h s seen n = none := by simpa using hpass 0 n (by omega) rfl
      have hmem : ∀ j x, x ∈ seen ++ (n :: l).take (j + 1) ↔ x ∈ (n :: seen) ++ l.take j := by
        intro j x
        simp only [List.take_succ_cons, List.mem_append, List.mem_cons]
        tauto
      rw [hn]
      dsimp only
      rw [ih (a + 1) (n :: seen) i (by simpa using hk)]
      · congr 2
        omega
      · intro j m hj hm
        rw [← destCheck_perm (hmem j)]
        exact hpass (j + 1) m (by omega) (by simpa using hm)
      · rw [← destCheck_perm (hmem i)]
        exact hfail

theorem destFault_none {h : Header} (l : List Nat) : ∀ (a : Nat) (seen : List Nat),
    (∀ j m, l[j]? = some m → destCheck h s (seen ++ l.take j) m = none) → destFault h s a seen l = none := by
  induction l with
  | nil => simp [destFault]
  | cons n l ih =>
    intro a seen hpass
    have hn : destCheck h s seen n = none := by simpa using hpass 0 n rfl
    rw [destFault_cons, hn]
    refine ih _ _ fun j m hm => ?_
    rw [← hpass (j + 1) m (by simpa using hm)]
    refine destCheck_perm (fun x => ?_) m
    simp only [List.take_succ_cons, List.mem_append, List.mem_cons]
    tauto

theorem networkFault_mix {k m : Nat} {rest : List Nat} (h : s.networkOf k = .dial) :
    networkFault s (k :: m :: rest) = some 2 := by
  simp [networkFault, h]

/-- A LOOP destination first: the first DIAL destination after it is at fault. -/
theorem networkFault_dial {k m i : Nat} {ns : List Nat} (h0 : ns[0]? = some k) (hk : s.networkOf k ≠ .dial)
    (hi : ns[i]? = some m) (hm : s.networkOf m = .dial) (hbefore : ∀ j x, j < i → ns[j]? = some x → s.networkOf x ≠ .dial) :
    networkFault s ns = some (i + 1) := by
  cases ns with
  | nil => simp at h0
  | cons n rest =>
    obtain rfl : n = k := by simpa using h0
    have hloop : s.networkOf n = .loop := by
      cases h : s.networkOf n <;> simp_all
    cases i with
    | zero =>
      obtain rfl : n = m := by simpa using hi
      exact absurd hm hk
    | succ i =>
      have hfind : rest.findIdx? (fun k => s.networkOf k == .dial) = some i := by
        simp only [List.getElem?_cons_succ] at hi
        obtain ⟨hlt, he⟩ := List.getElem?_eq_some_iff.1 hi
        refine List.findIdx?_eq_some_iff_getElem.2 ⟨hlt, by simp [he, hm], fun j hj => ?_⟩
        have := hbefore (j + 1) rest[j] (by omega) (by simp)
        simpa using this
      simp [networkFault, hloop, hfind]

theorem networkFault_none {ns : List Nat} (h : ns.length = 1 ∨ ∀ k ∈ ns, s.networkOf k ≠ .dial) :
    networkFault s ns = none := by
  cases ns with
  | nil => rfl
  | cons n rest =>
    rcases h with h | h
    · obtain rfl : rest = [] := by simpa using h
      cases hn : s.networkOf n <;> simp [networkFault, hn]
    · have hloop : s.networkOf n = .loop := by
        cases hn : s.networkOf n with
        | loop => rfl
        | dial => exact absurd hn (h n (by simp))
      have hfind : rest.findIdx? (fun k => s.networkOf k == .dial) = none := by
        rw [List.findIdx?_eq_none_iff]
        intro x hx
        simpa using h x (by simp [hx])
      simp [networkFault, hloop, hfind]

/-- The mount field binds exactly in R9's three cases. -/
theorem State.bindMount_isSome {field : Nat} : (s.bindMount field).isSome = true ↔
    field = 0 ∨ field = s.panel.mountCounter ∧ s.panel.mountPresent = true ∨
      field ≠ s.panel.mountCounter ∧ field = nextOf s.panel.mountCounter := by
  unfold State.bindMount
  dsimp only
  split_ifs <;> simp_all

/-- Steps 5 to 7 of R16. -/
def lateFault (h : Header) (s : State) : Option (Reason × Nat) :=
  if (s.bindMount h.mount).isNone then some (.mountInvalid, s.panel.mountCounter)
  else if !s.motor.valid then some (.notCalibrated, 1)
  else if !s.scanPart.valid then some (.notCalibrated, 2)
  else if !feasible s.motor h.speed then some (.range, h.speed)
  else none

/-- Steps 4 to 7 of R16, for the destinations `ns`. -/
def networkOrLateFault (h : Header) (s : State) (ns : List Nat) : Option (Reason × Nat) :=
  match networkFault s ns with
  | some i => some (.networkMix, i)
  | none => lateFault h s

section
variable {o : Order}

theorem validate_count (h : o.received ≠ o.header.destCount + o.header.captionLen) :
    validate o s = some (.orderCount, o.received) := by
  simp [validate, h]

theorem validate_range {i : Nat} (h : o.received = o.header.destCount + o.header.captionLen)
    (hi : o.header.firstOutOfRange = some i) : validate o s = some (.fieldRange, i) := by
  simp [validate, h, hi]

/-- Steps 1 and 2 passed, the first of the destinations', the network's and the late faults. -/
theorem validate_inRange (h : o.received = o.header.destCount + o.header.captionLen)
    (hi : o.header.firstOutOfRange = none) : validate o s =
      match destFault o.header s 1 [] o.stationBytes with
      | some f => some f
      | none => networkOrLateFault o.header s o.stationBytes := by
  simp only [validate, h, hi, ne_eq, not_true_eq_false, if_false]
  rfl

theorem Header.firstOutOfRange_none {h : Header} (hr : ∀ i, 1 ≤ i → i ≤ 11 → h.inRange i = true) :
    h.firstOutOfRange = none := by
  refine List.find?_eq_none.2 fun i hi => ?_
  have : 1 ≤ i ∧ i ≤ 11 := by
    simp only [List.mem_cons, List.not_mem_nil, or_false] at hi
    omega
  simp [hr i this.1 this.2]

/-- The first number of 1..11 whose field is out of range. -/
theorem Header.firstOutOfRange_some {h : Header} {i : Nat} (h1 : 1 ≤ i) (h2 : i ≤ 11) (hi : h.inRange i = false)
    (hbefore : ∀ j, 1 ≤ j → j < i → h.inRange j = true) : h.firstOutOfRange = some i := by
  obtain ⟨j, rfl⟩ : ∃ j, i = 1 + j := ⟨i - 1, by omega⟩
  obtain ⟨k, hk⟩ : ∃ k, 11 = j + (k + 1) := ⟨10 - j, by omega⟩
  refine List.find?_eq_some_iff_append.2 ⟨by simp [hi], List.range' 1 j, List.range' (1 + j + 1) k, ?_, fun m hm => ?_⟩
  · calc [1, 2, 3, 4, 5, 6, 7, 8, 9, 10, 11] = List.range' 1 (j + (k + 1)) := by rw [← hk]; rfl
      _ = _ := List.range'_append_1.symm
  · rw [List.mem_range'_1] at hm
    simp [hbefore m (by omega) (by omega)]

/-- Validation reads the directory, the panel and the calibration record. -/
theorem validate_congr (hd : t.directory = s.directory) (hp : t.panel = s.panel) (hm : t.motor = s.motor)
    (hs : t.scanPart = s.scanPart) : validate o t = validate o s := by
  have hst : ∀ n, t.station n = s.station n := fun n => by simp [State.station, hd]
  have hdest : ∀ (l : List Nat) i seen, destFault o.header t i seen l = destFault o.header s i seen l := by
    intro l
    induction l with
    | nil => simp [destFault]
    | cons n l ih => simp [destFault_cons, destCheck, hst, ih]
  have hnet : ∀ n, t.networkOf n = s.networkOf n := fun n => by simp [State.networkOf, hst]
  have hmix : ∀ l, networkFault t l = networkFault s l := fun l => by
    cases l <;> simp [networkFault, hnet]
  simp [validate, hdest, hmix, State.bindMount, hp, hm, hs]

end

/-! ## The end of an assembly -/

theorem finishAssembly_refused {n q : Nat} {o : Order} {r : Reason} (hf : s.findOrder n = some o)
    (hv : validate o s = some (r, q)) : finishAssembly n s = (.refused r q, removeOrder n s) := by
  simp [finishAssembly, hf, hv]

/-- Under a HALTED manager an accepted order is QUEUED, and the pre-warm request is updated. -/
theorem finishAssembly_accepted {n : Nat} {o : Order} (hf : s.findOrder n = some o) (hv : validate o s = none)
    (hm : s.manager.state = .halted) :
    finishAssembly n s = (.ok (u16 n), updatePrewarm (updateOrder n (Order.accept s) s)) := by
  rw [finishAssembly, hf]
  dsimp only
  rw [hv]
  dsimp only
  rw [select_halted]
  simpa [updateOrder] using hm

/-- The caption of R3: a byte outside 0x20..0x7E is a question mark. -/
theorem captionOf_eq (bs : List Byte) :
    captionOf bs = bs.map fun b => if 0x20 ≤ b.toNat ∧ b.toNat ≤ 0x7E then charOf b else '?' := by
  refine List.map_congr_left fun b _ => ?_
  simp [printable]

/-- The mount that an accepted order binds to, when none is present (R9). -/
theorem bindMount_unmounted {field : Nat} (hp : s.panel.mountPresent = false) (hb : (s.bindMount field).isSome = true) :
    (s.bindMount field).getD 0 = if field = 0 then nextOf s.panel.mountCounter else field := by
  have hM : nextOf s.panel.mountCounter ≠ s.panel.mountCounter := by
    unfold nextOf
    split <;> omega
  rcases State.bindMount_isSome.1 hb with rfl | ⟨rfl, h⟩ | ⟨hne, rfl⟩
  · simp [State.bindMount, hp]
  · simp [hp] at h
  · have : nextOf s.panel.mountCounter ≠ 0 := by
      have := nextOf_range s.panel.mountCounter
      omega
    simp [State.bindMount, this, hM]

theorem bindMount_of_valid {o : Order} (h : validate o s = none) : (s.bindMount o.header.mount).isSome = true := by
  cases hb : s.bindMount o.header.mount with
  | some _ => rfl
  | none =>
    simp only [validate, hb] at h
    repeat' split at h
    all_goals simp_all

end

end Sys2Proof.Machine
end

section
/-! PROOF. ORDER_BEGIN (R13), the checks of R16 and the acceptance of R17. -/

namespace Sys2Proof.Machine

section
variable {s t : State}

/-! ## ORDER_BEGIN, case by case -/

/-- The state with the new record at the end of its table (R13). -/
def begun (p : List Byte) (s : State) : State :=
  s.onManager fun m =>
    { m with
      table := m.table ++ [newOrder s.manager.assign (Header.ofPayload p) (p.drop 20)]
      nextNumber := nextOf s.manager.assign }

theorem serveOrderBegin_busy {p : List Byte} {o : Order} (h : s.assemblingOrder = some o) :
    serveOrderBegin p s = (.refused .assemblyBusy o.number, s) := by
  simp [serveOrderBegin, h]

theorem serveOrderBegin_full {p : List Byte} (h : s.assemblingOrder = none) (hl : 16 ≤ s.manager.table.length) :
    serveOrderBegin p s = (.refused .tableFull 0, s) := by
  simp [serveOrderBegin, h, hl]

theorem serveOrderBegin_first {p : List Byte} (h : s.assemblingOrder = none) (hl : s.manager.table.length < 16)
    (hp : lastFlag p 19 = false) : serveOrderBegin p s = (.ok (u16 s.manager.assign),
      (begun p s).onManager fun m => { m with assemblyTimer := some (s.now + sec 10) }) := by
  simp only [serveOrderBegin, h, Nat.not_le.2 hl, if_false, hp, Bool.false_eq_true]
  rfl

theorem serveOrderBegin_last {p : List Byte} (h : s.assemblingOrder = none) (hl : s.manager.table.length < 16)
    (hp : lastFlag p 19 = true) : serveOrderBegin p s = finishAssembly s.manager.assign (begun p s) := by
  simp only [serveOrderBegin, h, Nat.not_le.2 hl, if_false, hp, if_true]
  rfl

theorem lastFlag_false {p : List Byte} {i : Nat} (h : byteAt p i = 0) : lastFlag p i = false := by
  simp [lastFlag, h]

theorem lastFlag_true {p : List Byte} {i : Nat} (h : byteAt p i ≠ 0) : lastFlag p i = true := by
  simp [lastFlag, h]

theorem lengthAgrees_begin {p : List Byte} (h1 : 20 ≤ p.length) (h2 : p.length ≤ 60) : lengthAgrees 0x0B#8 p = true := by
  simp [lengthAgrees, h1, h2]

/-- Settles O24: the three cases of `serveOrderBegin` before the last flag. -/
theorem orderBeginJoinsTheTable : Obligations.OrderBeginJoinsTheTable := by
  intro dt tag p s hf h1 h2
  have hl := lengthAgrees_begin h1 h2
  refine ⟨fun o ho => ?_, fun hn hlen => ?_, fun hn hlen hp => ?_⟩
  · exact exec_request (i := .orderBegin dt tag p) rfl hf h2 rfl hl _ s rfl rfl
      (congrArg answered (serveOrderBegin_busy (s := s.serving dt _) ho))
  · exact exec_request (i := .orderBegin dt tag p) rfl hf h2 rfl hl _ s rfl rfl
      (congrArg answered (serveOrderBegin_full (s := s.serving dt _) hn hlen))
  · refine ⟨newOrder s.manager.assign (Header.ofPayload p) (p.drop 20), ?_, rfl, rfl, rfl, rfl, rfl, ?_, rfl⟩
    · exact exec_request (i := .orderBegin dt tag p) rfl hf h2 rfl hl _
        { s with manager := _ } rfl rfl
        (congrArg answered (serveOrderBegin_first (s := s.serving dt _) hn hlen (lastFlag_false hp)))
    · simp [newOrder]

/-! ## The record that ORDER_BEGIN completes at once -/

theorem findOrder_begun (h : s.NumberInv) (p : List Byte) : (begun p s).findOrder s.manager.assign =
    some (newOrder s.manager.assign (Header.ofPayload p) (p.drop 20)) := by
  have hn : s.manager.table.find? (fun o => o.number == s.manager.assign) = none :=
    List.find?_eq_none.2 fun o ho => by simpa using assign_fresh h o ho
  simp [State.findOrder, begun, List.find?_append, hn, newOrder]

/-- A refused record leaves the table as it was before. -/
theorem removeOrder_begun (h : s.NumberInv) (p : List Byte) : removeOrder s.manager.assign (begun p s) =
    s.onManager fun m => { m with nextNumber := nextOf s.manager.assign } := by
  have hf := filter_added (o := newOrder s.manager.assign (Header.ofPayload p) (p.drop 20)) (assign_fresh h)
  simp only [removeOrder, begun, State.onManager]
  congr 2

/-- An accepted record stands at the end of the table. -/
theorem updateOrder_begun (h : s.NumberInv) (p : List Byte) (f : Order → Order) :
    updateOrder s.manager.assign f (begun p s) = s.onManager fun m =>
      { m with
        table := m.table ++ [f (newOrder s.manager.assign (Header.ofPayload p) (p.drop 20))]
        nextNumber := nextOf s.manager.assign } := by
  have hf := map_added (o := newOrder s.manager.assign (Header.ofPayload p) (p.drop 20)) (assign_fresh h) f
  simp only [updateOrder, begun, State.onManager]
  congr 2

/-- The record that ORDER_BEGIN with the last flag makes and R17 accepts. -/
def acceptedOrder (p : List Byte) (s : State) : Order :=
  (newOrder s.manager.assign (Header.ofPayload p) (p.drop 20)).accept s

/-- The state with the accepted record at the end of its table. -/
def accepted (p : List Byte) (s : State) : State := s.onManager fun m =>
  { m with table := m.table ++ [acceptedOrder p s], nextNumber := nextOf s.manager.assign }

theorem finishAssembly_begun (h : s.NumberInv) {p : List Byte}
    (hv : validate (newOrder s.manager.assign (Header.ofPayload p) (p.drop 20)) s = none)
    (hm : s.manager.state = .halted) :
    finishAssembly s.manager.assign (begun p s) = (.ok (u16 s.manager.assign), updatePrewarm (accepted p s)) := by
  have hval : validate (newOrder s.manager.assign (Header.ofPayload p) (p.drop 20)) (begun p s) = none :=
    (validate_congr (s := s) (t := begun p s) rfl rfl rfl rfl).trans hv
  rw [finishAssembly_accepted (findOrder_begun h p) hval hm, updateOrder_begun h]
  rfl

/-- The stored content's first bytes are the destinations. -/
theorem newOrder_stationBytes (n : Nat) (h : Header) (bs : List Byte) :
    (newOrder n h bs).stationBytes = (bs.take h.destCount).map BitVec.toNat := by
  simp [Order.stationBytes, newOrder, List.take_take]

/-! ## The destinations' checks in the words of R16 -/

/-- The station's entry is enabled (R28). -/
def State.enabled (s : State) (k : Nat) (st : Station) : Prop := s.directory[k - 1]? = some (.enabled st)

/-- The station has the order's speed and modulation (R16 step 3). -/
def Header.servedBy (h : Header) (st : Station) : Prop :=
  (h.speed = 60 ∧ st.rpm60 = true ∨ h.speed = 90 ∧ st.rpm90 = true ∨ h.speed = 120 ∧ st.rpm120 = true)
    ∧ (h.modulation = 0 ∧ st.fm = true ∨ h.modulation = 1 ∧ st.am = true)

theorem servedBy_iff {h : Header} {st : Station} (hm : h.modulation ≤ 1) :
    (st.hasSpeed h.speed && st.hasMod h.mod) = true ↔ h.servedBy st := by
  have hmod : st.hasMod h.mod = true ↔ h.modulation = 0 ∧ st.fm = true ∨ h.modulation = 1 ∧ st.am = true := by
    rcases Nat.le_one_iff_eq_zero_or_eq_one.1 hm with h0 | h1
    · simp [Header.mod, Station.hasMod, h0]
    · simp [Header.mod, Station.hasMod, h1]
  simp only [Bool.and_eq_true, hmod, Station.hasSpeed, Bool.or_eq_true, beq_iff_eq, Header.servedBy, or_assoc]

section
variable {h : Header} {seen : List Nat} {k : Nat} {st : Station}

theorem destCheck_unknown (hk : k = 0 ∨ 32 < k) : destCheck h s seen k = some .destUnknown := by
  simp [destCheck, hk]

theorem destCheck_disabled (h1 : 1 ≤ k) (h2 : k ≤ 32) (hd : ∀ st, ¬s.enabled k st) :
    destCheck h s seen k = some .destDisabled := by
  have hs : s.station k = none := by
    cases hst : s.station k with
    | none => rfl
    | some st => exact absurd (State.station_eq_some.1 hst).2 (hd st)
  have hk : ¬(k = 0 ∨ 32 < k) := by omega
  simp [destCheck, hk, hs]

theorem destCheck_enabled (h1 : 1 ≤ k) (h2 : k ≤ 32) (he : s.enabled k st) : destCheck h s seen k =
    if k ∈ seen then some .destDuplicate
    else if st.hasSpeed h.speed && st.hasMod h.mod then none else some .destSpeed := by
  have hk : ¬(k = 0 ∨ 32 < k) := by omega
  simp only [destCheck, hk, if_false, State.station_eq_some.2 ⟨h1, he⟩, List.contains_iff_mem]

theorem destCheck_none (hm : h.modulation ≤ 1) : destCheck h s seen k = none ↔
    1 ≤ k ∧ k ≤ 32 ∧ k ∉ seen ∧ ∃ st, s.enabled k st ∧ h.servedBy st := by
  constructor
  · intro hc
    by_cases hk : k = 0 ∨ 32 < k
    · simp [destCheck_unknown hk] at hc
    · have h1 : 1 ≤ k := by omega
      have h2 : k ≤ 32 := by omega
      by_cases hd : ∃ st, s.enabled k st
      · obtain ⟨st, he⟩ := hd
        rw [destCheck_enabled h1 h2 he] at hc
        split_ifs at hc with hs hv
        exact ⟨h1, h2, hs, st, he, (servedBy_iff hm).1 hv⟩
      · rw [destCheck_disabled h1 h2 (not_exists.1 hd)] at hc
        simp at hc
  · rintro ⟨h1, h2, hs, st, he, hv⟩
    rw [destCheck_enabled h1 h2 he, if_neg hs, if_pos ((servedBy_iff hm).2 hv)]

end

section
variable {o : Order} {ns : List Nat}

/-- The first destination that fails step 3 refuses the order. -/
theorem validate_dest (hc : o.received = o.header.destCount + o.header.captionLen)
    (hr : o.header.firstOutOfRange = none) (hns : o.stationBytes = ns) {i k : Nat} {r : Reason} (hk : ns[i]? = some k)
    (hpass : ∀ j m, j < i → ns[j]? = some m → destCheck o.header s (ns.take j) m = none)
    (hfail : destCheck o.header s (ns.take i) k = some r) : validate o s = some (r, i + 1) := by
  have := destFault_some (s := s) ns 1 [] i hk (by simpa using hpass) (by simpa using hfail)
  rw [validate_inRange hc hr, hns, this, Nat.add_comm]

/-- Every destination passes step 3: step 4 and the later ones decide. -/
theorem validate_destsPass (hc : o.received = o.header.destCount + o.header.captionLen)
    (hr : o.header.firstOutOfRange = none) (hns : o.stationBytes = ns)
    (hpass : ∀ i k, ns[i]? = some k → destCheck o.header s (ns.take i) k = none) :
    validate o s = networkOrLateFault o.header s ns := by
  have := destFault_none (s := s) (h := o.header) ns 1 [] (by simpa using hpass)
  rw [validate_inRange hc hr, hns, this]

end

/-- Step 5 of R16. -/
theorem lateFault_mount {h : Header} (h0 : h.mount ≠ 0)
    (hM : h.mount = s.panel.mountCounter → s.panel.mountPresent = false) (hn : h.mount ≠ nextOf s.panel.mountCounter) :
    lateFault h s = some (.mountInvalid, s.panel.mountCounter) := by
  have : ¬(s.bindMount h.mount).isSome = true := by
    rw [State.bindMount_isSome]
    rintro (e | ⟨e, hp⟩ | ⟨_, e⟩)
    · exact h0 e
    · simp [hM e] at hp
    · exact hn e
  simp [lateFault, Option.not_isSome_iff_eq_none.1 this]

/-- Steps 6 and 7 of R16. -/
theorem lateFault_bound {h : Header} (hb : (s.bindMount h.mount).isSome = true) : lateFault h s =
    if s.motor.valid = false then some (.notCalibrated, 1)
    else if s.scanPart.valid = false then some (.notCalibrated, 2)
    else if feasible s.motor h.speed = false then some (.range, h.speed)
    else none := by
  simp only [lateFault, Option.isNone_eq_false_iff.2 hb, Bool.false_eq_true, if_false, Bool.not_eq_true']

/-- Settles O25: the checks in the order of `validate`, and the acceptance under a HALTED manager. -/
theorem orderIsAcceptedOrRefused : Obligations.OrderIsAcceptedOrRefused := by
  intro dt tag p s hf hnum h1 h2 hnone hlen hp
  have hl := lengthAgrees_begin h1 h2
  have hserve := serveOrderBegin_last (s := s.serving dt ⟨0x0B#8, tag, p⟩) (p := p) hnone hlen (lastFlag_true hp)
  have hfind := findOrder_begun (s := s.serving dt ⟨0x0B#8, tag, p⟩) hnum p
  have hval := validate_congr (s := s) (t := begun p (s.serving dt ⟨0x0B#8, tag, p⟩))
    (o := newOrder s.manager.assign (Header.ofPayload p) (p.drop 20)) rfl rfl rfl rfl
  have hmake : ∀ (a : Reply) (u : State), u.link.tx = s.link.tx → u.link.replySlot = s.link.replySlot →
      finishAssembly s.manager.assign (begun p (s.serving dt ⟨0x0B#8, tag, p⟩)) =
        (a, u.serving dt ⟨0x0B#8, tag, p⟩) →
      exec (.orderBegin dt tag p) s = .next (u.answered dt ⟨0x0B#8, tag, p⟩ a) := by
    intro a u htx hslot he
    exact exec_request (i := .orderBegin dt tag p) rfl hf h2 rfl hl a u htx hslot
      (congrArg answered (hserve.trans he))
  refine ⟨fun reason q hv => ?_, fun hc => validate_count hc, fun hc i hi1 hi2 hbad hgood => ?_, fun hc hgood => ?_,
    fun hv hm hpres h0 hrun hpre hoff hdark => ?_, fun hv hm hpres hpre => ?_⟩
  · refine hmake _ _ rfl rfl ((finishAssembly_refused hfind (hval.trans hv)).trans ?_)
    exact congrArg (Prod.mk _) (removeOrder_begun (s := s.serving dt _) hnum p)
  · exact validate_range hc (Header.firstOutOfRange_some hi1 hi2 hbad hgood)
  · have hr := Header.firstOutOfRange_none hgood
    have hmod : (Header.ofPayload p).modulation ≤ 1 := by simpa [Header.inRange] using hgood 6 (by omega) (by omega)
    have hns := newOrder_stationBytes s.manager.assign (Header.ofPayload p) (p.drop 20)
    refine ⟨fun i k hk hpass => ?_, fun hpass => ?_⟩
    · have hbefore := fun j m hj hm => (destCheck_none (s := s) hmod).2 (hpass j m hj hm)
      have fails := fun (r : Reason) => validate_dest (s := s) (r := r) hc hr hns hk hbefore
      refine ⟨fun hk0 => fails _ (destCheck_unknown hk0), fun hk1 hk2 hd => fails _ (destCheck_disabled hk1 hk2 hd),
        fun st hk1 hk2 he => ⟨fun hin => fails _ ?_, fun hin hcap => fails _ ?_⟩⟩
      · rw [destCheck_enabled hk1 hk2 he, if_pos hin]
      · rw [destCheck_enabled hk1 hk2 he, if_neg hin]
        exact if_neg fun e => hcap ((servedBy_iff hmod).1 e)
    · have hv := validate_destsPass (s := s) hc hr hns fun i k hk => (destCheck_none hmod).2 (hpass i k hk)
      have hdial : ∀ k ∈ ((p.drop 20).take (Header.ofPayload p).destCount).map BitVec.toNat,
          (s.networkOf k = .dial ↔ ∃ st ds, s.enabled k st ∧ st.address = .dial ds) := by
        intro k hk
        obtain ⟨i, hi⟩ := List.mem_iff_getElem?.1 hk
        exact State.networkOf_dial (hpass i k hi).1
      refine ⟨fun k m rest hcons hd => ?_, fun i k m h0 hnk hi hd hbefore => ?_, fun hsingle => ?_⟩
      · have hkd := (hdial k (by rw [hcons]; simp)).2 hd
        rw [hv, hcons, networkOrLateFault, networkFault_mix hkd]
      · have hfault := networkFault_dial (s := s) h0
          (fun e => hnk ((hdial k (List.mem_of_getElem? h0)).1 e)) hi
          ((hdial m (List.mem_of_getElem? hi)).2 hd)
          fun j x hj hx e => hbefore j x hj hx ((hdial x (List.mem_of_getElem? hx)).1 e)
        rw [hv, networkOrLateFault, hfault]
      · have hfault := networkFault_none (s := s)
          (hsingle.imp_right fun hall k hk e => hall k hk ((hdial k hk).1 e))
        rw [networkOrLateFault, hfault] at hv
        refine ⟨fun h0 hM hn => ?_, fun hbind => ?_⟩
        · exact hv.trans (lateFault_mount h0 hM hn)
        · have hb := hv.trans (lateFault_bound (h := Header.ofPayload p) (State.bindMount_isSome.2 hbind))
          refine ⟨fun hmv => ?_, fun hmv hsv => ?_, fun hmv hsv hfe => ?_, fun hmv hsv hfe => ?_⟩
          · rw [hb, if_pos hmv]
          · rw [hb, if_neg (by simp [hmv]), if_pos hsv]
          · rw [hb, if_neg (by simp [hmv]), if_neg (by simp [hsv]), if_pos hfe]
          · rw [hb, if_neg (by simp [hmv]), if_neg (by simp [hsv]), if_neg (by simp [hfe])]
  · have hvs := (validate_congr (s := s) (t := s.serving dt ⟨0x0B#8, tag, p⟩) rfl rfl rfl rfl).trans hv
    have hbound : (acceptedOrder p (s.serving dt ⟨0x0B#8, tag, p⟩)).mount = s.panel.mountCounter := by
      show ((s.serving dt ⟨0x0B#8, tag, p⟩).bindMount (Header.ofPayload p).mount).getD 0 = _
      simp [State.bindMount, h0, hpres, State.serving]
    refine ⟨acceptedOrder p (s.serving dt ⟨0x0B#8, tag, p⟩), ?_, rfl, rfl, hbound⟩
    refine hmake _ { s with manager := _, lamp := _ } rfl rfl ?_
    refine (finishAssembly_begun (s := s.serving dt _) hnum hvs hm).trans (congrArg (Prod.mk _) ?_)
    have hwanted : (accepted p (s.serving dt ⟨0x0B#8, tag, p⟩)).prewarmWanted = true :=
      prewarmWanted_iff.2 ⟨hpres, _, List.mem_append_right _ (List.mem_singleton_self _), rfl, hbound⟩
    refine (updatePrewarm_lights hwanted hrun hpre hoff hdark).trans ?_
    rw [← Lamp.warmTime]
    rfl
  · have hvs := (validate_congr (s := s) (t := s.serving dt ⟨0x0B#8, tag, p⟩) rfl rfl rfl rfl).trans hv
    refine ⟨acceptedOrder p (s.serving dt ⟨0x0B#8, tag, p⟩), ?_, rfl, rfl, rfl, rfl, rfl, rfl, ?_, rfl, ?_, rfl, rfl, rfl⟩
    · refine hmake _ { s with manager := _ } rfl rfl ?_
      refine (finishAssembly_begun (s := s.serving dt _) hnum hvs hm).trans (congrArg (Prod.mk _) ?_)
      exact updatePrewarm_unmounted (s := accepted p (s.serving dt _)) hpres hpre
    · exact bindMount_unmounted hpres (bindMount_of_valid hvs)
    · show captionOf ((((p.drop 20).take ((Header.ofPayload p).destCount + (Header.ofPayload p).captionLen)).drop
        (Header.ofPayload p).destCount).take (Header.ofPayload p).captionLen) = _
      rw [captionOf_eq, List.drop_take, List.take_take, Nat.add_sub_cancel_left, Nat.min_self]

end

end Sys2Proof.Machine
end

section
/-! PROOF. ORDER_PART (R14) and the assembly timer (R15). -/

namespace Sys2Proof.Machine

section
variable {s t : State}

/-! ## Updates of one order of the table -/

/-- With distinct numbers an update replaces the order of its number. -/
theorem map_updated_const {l : List Order} (h : (l.map Order.number).Nodup) {o : Order} (ho : o ∈ l) {n : Nat}
    (hn : o.number = n) (f : Order → Order) :
    l.map (fun x => if x.number = n then f x else x) = l.map (fun x => if x.number = n then f o else x) := by
  refine List.map_congr_left fun x hx => ?_
  split
  · rw [eq_of_number h hx ho (by omega)]
  · rfl

/-- A record updated and taken away is taken away. -/
theorem removeOrder_updateOrder {n : Nat} {f : Order → Order} (hf : ∀ o, (f o).number = o.number) (s : State) :
    removeOrder n (updateOrder n f s) = removeOrder n s := by
  simp only [removeOrder, updateOrder, onManager_onManager]
  congr 1
  funext m
  simp only [Function.comp_apply]
  congr 1
  induction m.table with
  | nil => rfl
  | cons o l ih =>
    by_cases hn : o.number = n
    · simp [hn, hf, ih]
    · simp [hn, ih]

/-! ## ORDER_PART, case by case -/

/-- The assembly timer is set, or stopped. -/
def setAssemblyTimer (x : Option Nat) (s : State) : State := s.onManager fun m => { m with assemblyTimer := x }

/-- The state with the fragment of `p` appended to the order it names (R14). -/
def partAppended (p : List Byte) (s : State) : State := updateOrder (wordAt p 0) (Order.addFragment (p.drop 3)) s

section
variable {p : List Byte} {o : Order}

theorem serveOrderPart_sequence (h : ∀ o, s.assemblingOrder = some o → o.number ≠ wordAt p 0) :
    serveOrderPart p s = (.refused .assemblySequence (wordAt p 0), s) := by
  unfold serveOrderPart
  cases ho : s.assemblingOrder with
  | none => rfl
  | some o => simp [h o ho]

section
variable (ho : s.assemblingOrder = some o) (hn : o.number = wordAt p 0)
include ho hn

theorem serveOrderPart_ninth (h8 : 8 ≤ o.fragments) :
    serveOrderPart p s = (.refused .orderCount 9, setAssemblyTimer none (removeOrder (wordAt p 0) s)) := by
  simp only [serveOrderPart, ho, hn, ne_eq, not_true_eq_false, if_false, h8, if_true]
  rfl

theorem serveOrderPart_more (h8 : o.fragments < 8) (hp : lastFlag p 2 = false) :
    serveOrderPart p s = (.ok (u16 (wordAt p 0)), setAssemblyTimer (some (s.now + sec 10)) (partAppended p s)) := by
  simp only [serveOrderPart, ho, hn, ne_eq, not_true_eq_false, if_false, Nat.not_le.2 h8, hp, Bool.false_eq_true]
  rfl

theorem serveOrderPart_last (h8 : o.fragments < 8) (hp : lastFlag p 2 = true) :
    serveOrderPart p s = finishAssembly (wordAt p 0) (setAssemblyTimer none (partAppended p s)) := by
  simp only [serveOrderPart, ho, hn, ne_eq, not_true_eq_false, if_false, Nat.not_le.2 h8, hp, if_true]
  rfl

end

theorem lengthAgrees_part (h1 : 3 ≤ p.length) (h2 : p.length ≤ 60) : lengthAgrees 0x0C#8 p = true := by
  simp [lengthAgrees, h1, h2]

/-! ## The last fragment -/

section
variable (hnum : s.NumberInv) (ho : s.assemblingOrder = some o) (hn : o.number = wordAt p 0)
include hnum ho hn

theorem findOrder_partAppended :
    (setAssemblyTimer none (partAppended p s)).findOrder (wordAt p 0) = some (o.addFragment (p.drop 3)) :=
  findOrder_updateOrder _ (fun _ => rfl) (findOrder_of_mem hnum.1 (assemblingOrder_some ho).1 hn)

theorem finishAssembly_partRefused {r : Reason} {q : Nat}
    (hv : validate (o.addFragment (p.drop 3)) s = some (r, q)) :
    finishAssembly (wordAt p 0) (setAssemblyTimer none (partAppended p s)) =
      (.refused r q, setAssemblyTimer none (removeOrder (wordAt p 0) s)) := by
  have hval : validate (o.addFragment (p.drop 3)) (setAssemblyTimer none (partAppended p s)) = some (r, q) :=
    (validate_congr (s := s) (t := setAssemblyTimer none (partAppended p s)) rfl rfl rfl rfl).trans hv
  rw [finishAssembly_refused (findOrder_partAppended hnum ho hn) hval]
  exact congrArg (fun u => (Reply.refused r q, setAssemblyTimer none u)) (removeOrder_updateOrder (n := wordAt p 0)
    (f := Order.addFragment (p.drop 3)) (fun _ => rfl) s)

theorem finishAssembly_partAccepted (hv : validate (o.addFragment (p.drop 3)) s = none)
    (hm : s.manager.state = .halted) (hpres : s.panel.mountPresent = false) (hpre : s.lamp.prewarm = false) :
    finishAssembly (wordAt p 0) (setAssemblyTimer none (partAppended p s)) = (.ok (u16 (wordAt p 0)),
      s.onManager fun m =>
        { m with
          table := m.table.map fun x => if x.number = wordAt p 0 then (o.addFragment (p.drop 3)).accept s else x
          assemblyTimer := none }) := by
  have hval : validate (o.addFragment (p.drop 3)) (setAssemblyTimer none (partAppended p s)) = none :=
    (validate_congr (s := s) (t := setAssemblyTimer none (partAppended p s)) rfl rfl rfl rfl).trans hv
  rw [finishAssembly_accepted (findOrder_partAppended hnum ho hn) hval hm]
  refine congrArg (Prod.mk _) ((updatePrewarm_unmounted (by exact hpres) (by exact hpre)).trans ?_)
  have hmap := map_updated_const hnum.1 (assemblingOrder_some ho).1 hn
    (Order.accept s ∘ Order.addFragment (p.drop 3))
  have htwice := updateOrder_updateOrder (n := wordAt p 0) (f := Order.accept s) (g := Order.addFragment (p.drop 3))
    (fun _ => rfl) s
  calc updateOrder (wordAt p 0) (Order.accept s) (setAssemblyTimer none (partAppended p s))
      = setAssemblyTimer none (updateOrder (wordAt p 0) (Order.accept s) (partAppended p s)) := rfl
    _ = setAssemblyTimer none (updateOrder (wordAt p 0) (Order.accept s ∘ Order.addFragment (p.drop 3)) s) :=
        congrArg (setAssemblyTimer none) htwice
    _ = _ := by
      simp only [setAssemblyTimer, updateOrder, State.onManager, hmap]
      rfl

end
end

/-- The assembly timer expires with an order ASSEMBLING (R15). -/
theorem assemblyExpired_some {o : Order} (h : s.assemblingOrder = some o) : assemblyExpired s =
    placeNotice (orderNotice o .discarded) (removeOrder o.number (setAssemblyTimer none s)) := by
  simp only [assemblyExpired, h]
  rfl

theorem due_some {x : Option Nat} {n now : Nat} (h : x = some n) (hd : n ≤ now) : due x now = true := by
  simp [due, h, hd]

/-- Settles O26: the cases of `serveOrderPart` and the expiry of the assembly timer. -/
theorem orderPartsAreAppended : Obligations.OrderPartsAreAppended := by
  intro dt s
  refine ⟨fun tag p hf h1 h2 => ?_, fun t o ht hdue ho => ?_⟩
  · have hserve : ∀ (a : Reply) (u : State), u.link.tx = s.link.tx → u.link.replySlot = s.link.replySlot →
        serveOrderPart p (s.serving dt ⟨0x0C#8, tag, p⟩) = (a, u.serving dt ⟨0x0C#8, tag, p⟩) →
        exec (.orderPart dt tag p) s = .next (u.answered dt ⟨0x0C#8, tag, p⟩ a) := by
      intro a u htx hslot he
      exact exec_request (i := .orderPart dt tag p) rfl hf h2 rfl (lengthAgrees_part h1 h2) a u htx hslot
        (congrArg answered he)
    refine ⟨fun hseq => ?_, fun o ho hn h8 => ?_, fun o ho hn h8 hp => ?_, fun o hnum ho hn h8 hp => ?_⟩
    · exact hserve _ s rfl rfl (serveOrderPart_sequence (s := s.serving dt _) hseq)
    · exact hserve _ { s with manager := _ } rfl rfl (serveOrderPart_ninth (s := s.serving dt _) ho hn h8)
    · rw [← List.length_drop]
      exact hserve _ { s with manager := _ } rfl rfl
        (serveOrderPart_more (s := s.serving dt _) ho hn h8 (lastFlag_false hp))
    · rw [← List.length_drop]
      have hlast := serveOrderPart_last (s := s.serving dt ⟨0x0C#8, tag, p⟩) ho hn h8 (lastFlag_true hp)
      refine ⟨fun reason q hv => ?_, fun hv hm hpres hpre => ?_⟩
      · exact hserve _ { s with manager := _ } rfl rfl
          (hlast.trans (finishAssembly_partRefused (s := s.serving dt _) hnum ho hn
            ((validate_congr (s := s) (t := s.serving dt _) rfl rfl rfl rfl).trans hv)))
      · have hvs : validate (o.addFragment (p.drop 3)) (s.serving dt ⟨0x0C#8, tag, p⟩) = none :=
          (validate_congr (s := s) (t := s.serving dt _) rfl rfl rfl rfl).trans hv
        refine ⟨(o.addFragment (p.drop 3)).accept (s.serving dt ⟨0x0C#8, tag, p⟩), ?_, hn, rfl, rfl, rfl, rfl, rfl,
          rfl, bindMount_unmounted hpres (bindMount_of_valid hvs), ?_, captionOf_eq _, rfl, rfl⟩
        · exact hserve _ { s with manager := _ } rfl rfl
            (hlast.trans (finishAssembly_partAccepted (s := s.serving dt _) hnum ho hn hvs hm hpres hpre))
        · exact List.map_map
  · have hexec : exec (.assemblyTimeout dt) s = .next (assemblyExpired (advance dt s)) :=
      congrArg Host.Outcome.next (if_pos (due_some (now := s.now + dt) ht hdue))
    rw [hexec, assemblyExpired_some (s := advance dt s) ho]
    rfl

end

end Sys2Proof.Machine
end

section
/-! PROOF. Notices placed while a request is in service, retirement with slip mode OFF (R25), and what makes slip mode
OFF: SLIP_CONTROL MODE and SETTINGS_SET (R186, R198). -/

namespace Sys2Proof.Machine

section
variable {s u : State} {dt : Nat} {r : Request}

/-! ## Notices while a request is in service -/

@[simp] theorem Link.enqueue_tx (n : Notice) (l : Link) : (l.enqueue n).tx = l.tx := by
  unfold Link.enqueue
  split <;> rfl

@[simp] theorem Link.enqueue_replySlot (n : Notice) (l : Link) : (l.enqueue n).replySlot = l.replySlot := by
  unfold Link.enqueue
  split <;> rfl

/-- The requests held have no part in a notice's queueing. -/
theorem Link.enqueue_holding (n : Notice) (l : Link) (hs : List Request) :
    ({ l with holding := hs } : Link).enqueue n = { l.enqueue n with holding := hs } := by
  unfold Link.enqueue
  dsimp only
  split <;> rfl

theorem State.LinkFree.slot (h : s.LinkFree) : s.link.replySlot = none := h.2.1

/-- A notice placed while a request is in service waits in the queue (R195). -/
theorem placeNotice_serving (h : u.link.replySlot = none) (n : Notice) :
    placeNotice n (u.serving dt r) = (u.noticed n).serving dt r := by
  have hp := place_serving (l := { u.link with holding := [r] }) (.inr ⟨h, by simp⟩) (u.now + dt) n
  unfold placeNotice State.onLink State.serving State.noticed
  dsimp only
  rw [hp, Link.enqueue_holding]

/-- Notices queued one after the other. -/
theorem foldl_enqueue_keeps {α : Type} (f : α → Notice) (xs : List α) (l : Link) :
    (xs.foldl (fun l x => l.enqueue (f x)) l).tx = l.tx ∧
      (xs.foldl (fun l x => l.enqueue (f x)) l).replySlot = l.replySlot := by
  induction xs generalizing l with
  | nil => exact ⟨rfl, rfl⟩
  | cons x xs ih => simpa using ih (l.enqueue (f x))

/-! ## Retirement with slip mode OFF -/

/-- Every FINISHED order has left the table with its notice (R25). -/
def State.retiredAll (s : State) : State :=
  { s with
    manager := { s.manager with table := s.manager.table.filter fun o => o.state != .finished }
    link := (s.manager.table.filter fun o => o.state == .finished).foldl
      (fun l o => l.enqueue (.order o.number o.header.hostRef .retired none)) s.link }

theorem State.retiredAll_none (h : s.oldestFinished = none) : s.retiredAll = s := by
  have hn : ∀ o ∈ s.manager.table, o.state ≠ .finished := by
    simpa [State.oldestFinished] using h
  have hk : s.manager.table.filter (fun o => o.state != .finished) = s.manager.table :=
    List.filter_eq_self.2 fun o ho => by simp [hn o ho]
  have hf : s.manager.table.filter (fun o => o.state == .finished) = [] :=
    List.filter_eq_nil_iff.2 fun o ho => by simp [hn o ho]
  simp [State.retiredAll, hk, hf]

/-- An order's departure from the table, with its notice queued. -/
def State.departed (o : Order) (s : State) : State :=
  (removeOrder o.number s).noticed (.order o.number o.header.hostRef .retired none)

/-- With distinct numbers, the oldest FINISHED order is the first of those that leave. -/
theorem State.retiredAll_departed (hd : (s.manager.table.map Order.number).Nodup) {o : Order}
    (h : s.oldestFinished = some o) : (s.departed o).retiredAll = s.retiredAll ∧
      (s.departed o).manager.table.length + 1 = s.manager.table.length ∧
      ((s.departed o).manager.table.map Order.number).Nodup := by
  obtain ⟨hfin, pre, post, htable, hpre⟩ := List.find?_eq_some_iff_append.1 h
  have hfin : o.state = .finished := by simpa using hfin
  have hne : ∀ x ∈ pre ++ post, x.number ≠ o.number := by
    rw [htable, List.map_append, List.map_cons, List.nodup_middle] at hd
    intro x hx e
    refine (List.nodup_cons.1 hd).1 ?_
    rw [← List.map_append, ← e]
    exact List.mem_map_of_mem hx
  have hleft : s.manager.table.filter (fun x => x.number != o.number) = pre ++ post := by
    have hpp : (pre ++ post).filter (fun x => x.number != o.number) = pre ++ post :=
      List.filter_eq_self.2 fun x hx => by simp [hne x hx]
    rw [htable]
    simpa [List.filter_append] using hpp
  have htab : (s.departed o).manager.table = pre ++ post := hleft
  have hnone : pre.filter (fun x => x.state == .finished) = [] :=
    List.filter_eq_nil_iff.2 fun x hx => by simpa using hpre x hx
  refine ⟨?_, ?_, ?_⟩
  · have hgone : s.manager.table.filter (fun x => x.state == .finished) = o :: post.filter fun x => x.state == .finished := by
      simp [htable, hnone, hfin]
    have hrest : (pre ++ post).filter (fun x => x.state == .finished) = post.filter fun x => x.state == .finished := by
      simp [hnone]
    have hstay : s.manager.table.filter (fun x => x.state != .finished) = (pre ++ post).filter fun x => x.state != .finished := by
      simp [htable, hfin]
    simp only [State.retiredAll, htab, hgone, hrest, hstay, List.foldl_cons]
    rfl
  · rw [htab, htable]
    simp
    omega
  · rw [htable, List.map_append, List.map_cons, List.nodup_middle] at hd
    rw [htab, List.map_append]
    exact (List.nodup_cons.1 hd).2

/-- One order at a time: with slip mode OFF every FINISHED order leaves, and no slip joins. -/
theorem retireUpTo_off (fuel : Nat) : ∀ u : State, u.link.replySlot = none → u.settings.slipMode = false →
    (u.manager.table.map Order.number).Nodup → u.manager.table.length ≤ fuel →
    retireUpTo fuel (u.serving dt r) = u.retiredAll.serving dt r := by
  induction fuel with
  | zero =>
    intro u _ _ _ hlen
    have hnil : u.manager.table = [] := List.length_eq_zero_iff.1 (by omega)
    rw [State.retiredAll_none (by simp [State.oldestFinished, hnil])]
    rfl
  | succ fuel ih =>
    intro u hslot hoff hd hlen
    have hoffs : (u.serving dt r).settings.slipMode = false := hoff
    cases ho : u.oldestFinished with
    | none =>
      have hos : (u.serving dt r).oldestFinished = none := ho
      rw [State.retiredAll_none ho]
      simp only [retireUpTo, hos]
    | some o =>
      have hos : (u.serving dt r).oldestFinished = some o := ho
      obtain ⟨hall, hless, hnodup⟩ := State.retiredAll_departed hd ho
      have hleave : leaveTable o (u.serving dt r) = (u.departed o).serving dt r :=
        placeNotice_serving (u := removeOrder o.number u) hslot _
      simp only [retireUpTo, hos, hoffs, Bool.false_eq_true, if_false, hleave]
      have hslot' : (u.departed o).link.replySlot = none := (Link.enqueue_replySlot _ _).trans hslot
      rw [ih (u.departed o) hslot' hoff hnodup (by omega), hall]

theorem retire_off (hslot : u.link.replySlot = none) (hoff : u.settings.slipMode = false)
    (hd : (u.manager.table.map Order.number).Nodup) : retire (u.serving dt r) = u.retiredAll.serving dt r :=
  retireUpTo_off _ u hslot hoff hd (le_refl _)

/-! ## The requests -/

theorem SettingsFields.firstOutOfRange_none {f : SettingsFields} (h : ∀ i, 1 ≤ i → i ≤ 12 → f.inRange i = true) :
    f.firstOutOfRange = none := by
  refine List.find?_eq_none.2 fun i hi => ?_
  have : 1 ≤ i ∧ i ≤ 12 := by
    simp only [List.mem_cons, List.not_mem_nil, or_false] at hi
    omega
  simp [h i this.1 this.2]

/-- SETTINGS_SET that turns slip mode OFF. -/
theorem serveSettingsSet_off {p : List Byte} (hr : s.runningOrder = none) (hon : s.settings.slipMode = true)
    (hf : (SettingsFields.ofPayload p).firstOutOfRange = none) (hoff : (SettingsFields.ofPayload p).slipMode = 0) :
    serveSettingsSet p s = (.ok [], retire { s with settings := (SettingsFields.ofPayload p).settings }) := by
  have h0 : (SettingsFields.ofPayload p).settings.slipMode = false := by
    simp [SettingsFields.settings, hoff]
  simp only [serveSettingsSet, hr, hf, hon, h0, Bool.not_false, Bool.and_self, if_true]

/-- SLIP_CONTROL MODE OFF with the mode ON. -/
theorem serveSlipMode_off (hon : s.settings.slipMode = true) : serveSlipMode 0 s =
    (.ok (u8 0), retire { s with settings := { s.settings with slipMode := false } }) := by
  simp [serveSlipMode, hon]

theorem serveSlipMode_off_off (hoff : s.settings.slipMode = false) : serveSlipMode 0 s = (.ok (u8 0), s) := by
  simp [serveSlipMode, hoff]

theorem serveSlipMode_on : serveSlipMode 1 s =
    (.ok (u8 1), { s with settings := { s.settings with slipMode := true } }) := by
  simp [serveSlipMode]

theorem serveSlipMode_refused {v : Nat} (h : 1 < v) : serveSlipMode v s = (.refused .fieldRange 2, s) := by
  have h0 : v ≠ 0 := by omega
  have h1 : v ≠ 1 := by omega
  simp [serveSlipMode, h0, h1]

/-- Settles O14: `retire_off` for the two requests that turn slip mode OFF. -/
theorem slipModeOffRetires : Obligations.SlipModeOffRetires := by
  intro dt tag s hf hnum
  have hkeeps := foldl_enqueue_keeps (fun o : Order => .order o.number o.header.hostRef .retired none)
    (s.manager.table.filter fun o => o.state == .finished) s.link
  have hmode : ∀ (v : Byte) (a : Reply) (u : State), u.link.tx = s.link.tx → u.link.replySlot = s.link.replySlot →
      serveSlipMode v.toNat (s.serving dt ⟨0x12#8, tag, [0#8, v]⟩) = (a, u.serving dt ⟨0x12#8, tag, [0#8, v]⟩) →
      exec (.slipControlMode dt tag [v]) s = .next (u.answered dt ⟨0x12#8, tag, [0#8, v]⟩ a) := by
    intro v a u htx hslot he
    exact exec_request (i := .slipControlMode dt tag [v]) rfl hf (by simp) rfl rfl a u htx hslot
      (congrArg answered he)
  refine ⟨fun hon => ?_, fun hoff => ?_, ?_, fun v hv => ?_, fun p hp hon hr hrange hoff => ?_⟩
  · refine hmode 0#8 _ _ hkeeps.1 hkeeps.2 ((serveSlipMode_off (s := s.serving dt _) hon).trans ?_)
    exact congrArg (Prod.mk _)
      (retire_off (u := { s with settings := { s.settings with slipMode := false } }) hf.slot rfl hnum.1)
  · exact hmode 0#8 _ s rfl rfl (serveSlipMode_off_off (s := s.serving dt _) hoff)
  · exact hmode 1#8 _ { s with settings := _ } rfl rfl serveSlipMode_on
  · exact hmode v _ s rfl rfl (serveSlipMode_refused hv)
  · have hoff' : (SettingsFields.ofPayload p).settings.slipMode = false := by
      simp [SettingsFields.settings, hoff]
    have hserve := (serveSettingsSet_off (s := s.serving dt ⟨0x02#8, tag, p⟩) hr hon
      (SettingsFields.firstOutOfRange_none hrange) hoff).trans (congrArg (Prod.mk _) (retire_off
        (u := { s with settings := (SettingsFields.ofPayload p).settings }) hf.slot hoff' hnum.1))
    exact exec_request (i := .settingsSet dt tag p) rfl hf (by simp [hp]) rfl (by simp [lengthAgrees, hp]) (.ok [])
      { s.retiredAll with settings := (SettingsFields.ofPayload p).settings } hkeeps.1 hkeeps.2
      (congrArg answered hserve)

end

end Sys2Proof.Machine
end

section
/-! PROOF. ORDER_INQUIRE (R22): its refusals, the query mark, and the fields of its reply. -/

namespace Sys2Proof.Machine

section
variable {s : State} {p : List Byte} {o : Order}

/-! ## The record an inquiry leaves -/

/-- The order after an inquiry with the reason code `c` (R22). -/
def Order.inquired (tod : Option Nat) (c : Nat) (o : Order) : Order :=
  match queryReason c with
  | some r => o.query tod r
  | none => o

theorem Order.inquired_eq {tod : Option Nat} {c : Nat} (h : c ≤ 2) : o.inquired tod c =
    if c = 0 then o else if c = 1 then o.query tod .hostTimeout else o.query tod .operator := by
  interval_cases c <;> rfl

/-! ## The fields of the reply -/

@[simp] theorem u8_length (n : Nat) : (u8 n).length = 1 := rfl
@[simp] theorem u16_length (n : Nat) : (u16 n).length = 2 := rfl
@[simp] theorem todBytes_length (x : Option Nat) : (todBytes x).length = 4 := rfl
@[simp] theorem codeByte_length (x : Option Nat) : (codeByte x).length = 1 := rfl

theorem summaryBytes_length (o : Order) (s : State) : (summaryBytes o s).length = 37 := by
  simp only [summaryBytes, List.length_append, u8_length, u16_length, todBytes_length, codeByte_length]

/-! ## ORDER_INQUIRE, case by case -/

theorem serveOrderInquire_section (h : 1 < byteAt p 2) : serveOrderInquire p s = (.refused .fieldRange 1, s) := by
  simp [serveOrderInquire, h]

section
variable (h2 : byteAt p 2 ≤ 1)
include h2

theorem serveOrderInquire_reason (h3 : 2 < byteAt p 3) : serveOrderInquire p s = (.refused .fieldRange 2, s) := by
  simp [serveOrderInquire, Nat.not_lt.2 h2, h3]

theorem serveOrderInquire_notFound (h3 : byteAt p 3 ≤ 2) (h : s.findOrder (wordAt p 0) = none) :
    serveOrderInquire p s = (.refused .notFound (wordAt p 0), s) := by
  simp [serveOrderInquire, Nat.not_lt.2 h2, Nat.not_lt.2 h3, h]

theorem serveOrderInquire_assembling (h3 : byteAt p 3 ≤ 2) (h : s.findOrder (wordAt p 0) = some o)
    (ha : o.state = .assembling) : serveOrderInquire p s = (.refused .state (wordAt p 0), s) := by
  simp [serveOrderInquire, Nat.not_lt.2 h2, Nat.not_lt.2 h3, h, ha]

theorem serveOrderInquire_ok (h3 : byteAt p 3 ≤ 2) (h : s.findOrder (wordAt p 0) = some o)
    (ha : o.state ≠ .assembling) : serveOrderInquire p s =
      (.ok (if byteAt p 2 = 0 then summaryBytes (o.inquired s.todNow (byteAt p 3)) s
        else destinationBytes (o.inquired s.todNow (byteAt p 3))),
      updateOrder (wordAt p 0) (fun _ => o.inquired s.todNow (byteAt p 3)) s) := by
  simp only [serveOrderInquire, Nat.not_lt.2 h2, Nat.not_lt.2 h3, h, ha, if_false]
  rfl

end

/-- Settles O29: the cases of `serveOrderInquire`. -/
theorem ordersAreInquired : Obligations.OrdersAreInquired := by
  intro dt tag p s hf hnum hp
  have hserve : ∀ (a : Reply) (u : State), u.link.tx = s.link.tx → u.link.replySlot = s.link.replySlot →
      serveOrderInquire p (s.serving dt ⟨0x0E#8, tag, p⟩) = (a, u.serving dt ⟨0x0E#8, tag, p⟩) →
      exec (.orderInquire dt tag p) s = .next (u.answered dt ⟨0x0E#8, tag, p⟩ a) := by
    intro a u htx hslot he
    exact exec_request (i := .orderInquire dt tag p) rfl hf (by simp [hp]) rfl (by simp [lengthAgrees, hp]) a u htx
      hslot (congrArg answered he)
  refine ⟨fun h2 => ?_, fun h2 h3 => ?_, fun h2 h3 => ⟨fun hno => ?_, fun o ho hn ha => ?_, fun o ho hn ha => ?_⟩⟩
  · exact hserve _ s rfl rfl (serveOrderInquire_section h2)
  · exact hserve _ s rfl rfl (serveOrderInquire_reason h2 h3)
  · exact hserve _ s rfl rfl (serveOrderInquire_notFound h2 h3 (findOrder_eq_none.2 hno))
  · exact hserve _ s rfl rfl (serveOrderInquire_assembling h2 h3 (findOrder_of_mem hnum.1 ho hn) ha)
  · intro marked q span
    have hq : o.inquired s.todNow (byteAt p 3) = q := Order.inquired_eq h3
    have hspan : ∀ d : Span, span d = u16 (d.value (s.now + dt)) := fun d => by cases d <;> rfl
    have hok := serveOrderInquire_ok (s := s.serving dt ⟨0x0E#8, tag, p⟩) h2 h3 (findOrder_of_mem hnum.1 ho hn) ha
    have hnow : (s.serving dt ⟨0x0E#8, tag, p⟩).todNow = s.todNow := rfl
    rw [hnow, hq] at hok
    refine ⟨_, hserve _ { s with manager := _ } rfl rfl hok, fun h0 => ?_, fun h1 => ?_⟩
    · rw [if_pos h0]
      refine ⟨summaryBytes_length q _, ?_⟩
      simp only [hspan]
      rfl
    · rw [if_neg (by omega)]
      rfl

end

end Sys2Proof.Machine
end

section
/-! PROOF. RESTART with the line IDLE (R27, R60, R88, R93, R201), each block in the words of its rule. -/

namespace Sys2Proof.Machine

section
variable {s : State} {now : Nat}

/-! ## The blocks at a RESTART -/

theorem Drum.restart_eq (keep : Bool) (hold now : Nat) (d : Drum) : d.restart keep hold now =
    if d.state = .calibrating ∨ d.state = .fault then d.spinDown now
    else if d.state = .stopped ∨ d.state = .spinningDown then { d with trim := .none, spinHoldTimer := none }
    else if keep then { d with trim := .none, spinHoldTimer := some (now + sec hold) }
    else d.spinDown now := by
  unfold Drum.restart
  cases d.state <;> simp

/-- From ADVANCING and FAULT, a closed home switch ends the movement at once. -/
theorem Carriage.restart_closed {c : Carriage} (hc : c.homeClosed = true)
    (hs : c.state = .advancing ∨ c.state = .fault) : c.restart now =
      { c with
        state := .home, position := some 0, stepsTaken := 0, target := none, stepAt := none, waitingMove := none } := by
  obtain hs | hs := hs
  all_goals simp only [Carriage.restart, hs, Carriage.seekHome, hc, if_true, Carriage.arriveHome]

theorem Carriage.restart_open {c : Carriage} (hc : c.homeClosed = false) : c.restart now =
    if c.state = .advancing then
      { c with state := .returning, stepsTaken := 0, target := none, stepAt := some now, waitingMove := none }
    else if c.state = .fault then
      { c with
        state := .homing, position := none, stepsTaken := 0, target := none, stepAt := some now, waitingMove := none }
    else { c with waitingMove := none } := by
  cases hs : c.state <;> simp [Carriage.restart, hs, Carriage.seekHome, hc]

theorem Carriage.restart_other {c : Carriage} (ha : c.state ≠ .advancing) (hf : c.state ≠ .fault) :
    c.restart now = { c with waitingMove := none } := by
  cases hs : c.state <;> simp_all [Carriage.restart]

theorem Carriage.restart_eq (c : Carriage) : c.restart now =
    if c.homeClosed = true ∧ (c.state = .advancing ∨ c.state = .fault) then
      { c with
        state := .home, position := some 0, stepsTaken := 0, target := none, stepAt := none, waitingMove := none }
    else if c.state = .advancing then
      { c with state := .returning, stepsTaken := 0, target := none, stepAt := some now, waitingMove := none }
    else if c.state = .fault then
      { c with
        state := .homing, position := none, stepsTaken := 0, target := none, stepAt := some now, waitingMove := none }
    else { c with waitingMove := none } := by
  by_cases hs : c.state = .advancing ∨ c.state = .fault
  · cases hc : c.homeClosed with
    | true => rw [if_pos ⟨rfl, hs⟩, Carriage.restart_closed hc hs, hc]
    | false => rw [if_neg (by simp), Carriage.restart_open hc, hc]
  · obtain ⟨ha, hf⟩ := not_or.1 hs
    rw [if_neg (fun e => hs e.2), if_neg ha, if_neg hf, Carriage.restart_other ha hf]

theorem Lamp.restart_eq (idle : Nat) (l : Lamp) : l.restart idle now =
    { l with
      prewarm := false, runReq := false, calReq := false, darkHold := false
      idleTimer := if l.state ≠ .off ∧ l.idleTimer = none then some (now + sec idle) else l.idleTimer } := by
  simp [Lamp.restart, Lamp.lit]

theorem LineUnit.restart_idle {l : LineUnit} (h : l.state = .idle) : l.restart now = l := by
  simp [LineUnit.restart, h]

/-! ## The request -/

theorem serveRestart_refused {p : List Byte} (h : 1 < byteAt p 0) :
    serveRestart p s = (some (.refused .fieldRange 1), s) := by
  simp [serveRestart, h]

/-- With the line IDLE the reply is made at once. -/
theorem serveRestart_idle {p : List Byte} (h : byteAt p 0 ≤ 1) (hl : s.line.state = .idle) :
    serveRestart p s = (some (restartReply (byteAt p 0 == 1)), carryOutRestart (byteAt p 0 == 1) s) := by
  have hidle : (carryOutRestart (byteAt p 0 == 1) s).line.state = .idle := by
    rw [show (carryOutRestart (byteAt p 0 == 1) s).line = s.line.restart s.now from rfl, LineUnit.restart_idle hl, hl]
  simp only [serveRestart, Nat.not_lt.2 h, if_false, hidle, if_true]

theorem restartReply_eq {k : Byte} (h : k.toNat ≤ 1) : restartReply (k.toNat == 1) = .ok [k] := by
  have hk : k = 0#8 ∨ k = 1#8 := by
    rcases Nat.le_one_iff_eq_zero_or_eq_one.1 h with h | h
    · exact .inl (BitVec.eq_of_toNat_eq h)
    · exact .inr (BitVec.eq_of_toNat_eq h)
  rcases hk with rfl | rfl <;> rfl

/-- Settles O33: `carryOutRestart` block by block. -/
theorem restartEmptiesThePart : Obligations.RestartEmptiesThePart := by
  intro dt tag k s hf now r d down drum carriage
  refine ⟨fun hk => ?_, fun hk hidle => ?_⟩
  · exact exec_request (i := .restart dt tag [k]) rfl hf (by simp) rfl rfl _ s rfl rfl (serveRestart_refused hk)
  · have hdrum : drum = s.drum.restart (k.toNat == 1) s.settings.spinHold now := by
      rw [Drum.restart_eq]
      have hkeep : k = 1#8 ↔ (k.toNat == 1) = true := by
        rw [beq_iff_eq, ← BitVec.toNat_inj]
        rfl
      simp only [drum, hkeep]
      rfl
    have hcarriage : carriage = s.carriage.restart now := (Carriage.restart_eq s.carriage).symm
    have hserve := serveRestart_idle (s := s.serving dt r) (p := [k]) hk hidle
    rw [show byteAt [k] 0 = k.toNat from rfl, restartReply_eq hk] at hserve
    refine exec_request (i := .restart dt tag [k]) rfl hf (by simp) rfl rfl (.ok [k]) _ ?_ ?_ (hserve.trans ?_)
    · rfl
    · rfl
    · rw [hdrum, hcarriage]
      refine congrArg (Prod.mk _) ?_
      simp only [carryOutRestart, State.serving, LineUnit.restart_idle hidle, Lamp.restart_eq]
      rfl

end

end Sys2Proof.Machine
end

section
/-! PROOF. A mount starts at DOOR_CLOSE or CLAMP_ENGAGE (R10, R12, R51, R57). -/

namespace Sys2Proof.Machine

section
variable {s : State}

/-- With no order that waits on a present mount and no request, the pre-warm request is neither made nor withdrawn (R12). -/
theorem updatePrewarm_unwanted (hw : s.prewarmWanted = false) (hl : s.lamp.prewarm = false) : updatePrewarm s = s := by
  simp [updatePrewarm, hw, lampWithdraw, Lamp.standing, hl]

theorem examineMount_not (h : ¬(s.panel.door = .closed ∧ s.panel.clamp = .engaged ∧ s.panel.mountPresent = false)) :
    examineMount s = s := if_neg h

/-- The panel when a mount has started (R10). -/
def Panel.mounted (p : Panel) : Panel := { p with mountCounter := nextOf p.mountCounter, mountPresent := true }

theorem examineMount_starts (hd : s.panel.door = .closed) (hc : s.panel.clamp = .engaged)
    (hp : s.panel.mountPresent = false) : examineMount s = select (updatePrewarm (s.onPanel Panel.mounted)) :=
  if_pos ⟨hd, hc, hp⟩

/-- A mount that no order waits on starts without an effect on the orders or the lamp. -/
theorem mountStart_unwanted (hl : s.lamp.prewarm = false)
    (h : ∀ o ∈ s.manager.table, o.state = .queued → o.mount ≠ nextOf s.panel.mountCounter) :
    select (updatePrewarm (s.onPanel Panel.mounted)) = s.onPanel Panel.mounted := by
  have hwait : ∀ o ∈ (s.onPanel Panel.mounted).manager.table, (s.onPanel Panel.mounted).waitsOnMount o = false := by
    intro o ho
    by_cases hq : o.state = .queued
    · have := h o ho hq
      simp [State.waitsOnMount, Panel.mounted, this]
    · simp [State.waitsOnMount, hq]
  have hw : (s.onPanel Panel.mounted).prewarmWanted = false := by
    simpa [State.prewarmWanted] using hwait
  rw [updatePrewarm_unwanted hw hl, select_none hwait]

/-- A mount that an order waits on starts under a HALTED manager: the pre-warm request lights the lamp. -/
theorem mountStart_waited (hl : s.lamp.prewarm = false) (hm : s.manager.state = .halted) (hr : s.run = none)
    (ho : s.lamp.state = .off) (hd : s.lamp.darkHold = false)
    (h : ∃ o ∈ s.manager.table, o.state = .queued ∧ o.mount = nextOf s.panel.mountCounter) :
    select (updatePrewarm (s.onPanel Panel.mounted)) =
      (s.onPanel Panel.mounted).onLamp (Lamp.warmed .prewarm s.now) := by
  have hw : (s.onPanel Panel.mounted).prewarmWanted = true := prewarmWanted_iff.2 ⟨rfl, h⟩
  rw [updatePrewarm_lights hw hr hl ho hd]
  exact select_halted hm

/-- Settles O37: the two commands set their level and then examine the mount. -/
theorem mountStarts : Obligations.MountStarts := by
  intro dt s c input panel other hcase now M
  obtain ⟨hexec, hwhen, hpres, hM⟩ : exec c s = .next (panelEvent input (some 0)
        (examineMount ((advance dt s).onPanel fun _ => panel))) ∧
      (other ↔ panel.door = .closed ∧ panel.clamp = .engaged) ∧
      panel.mountPresent = s.panel.mountPresent ∧ panel.mountCounter = s.panel.mountCounter := by
    rcases hcase with ⟨rfl, hlevel, rfl, rfl, rfl⟩ | ⟨rfl, hlevel, rfl, rfl, rfl⟩
    · exact ⟨congrArg Host.Outcome.next (if_pos hlevel), by simp, rfl, rfl⟩
    · exact ⟨congrArg Host.Outcome.next (if_pos hlevel), by simp, rfl, rfl⟩
  have hmounted : Panel.mounted panel = { panel with mountCounter := M, mountPresent := true } := by
    rw [Panel.mounted, hM]
    rfl
  have hM' : nextOf ((advance dt s).onPanel fun _ => panel).panel.mountCounter = M := congrArg nextOf hM
  have hstate : ((advance dt s).onPanel fun _ => panel).onPanel Panel.mounted =
      (advance dt s).onPanel fun _ => { panel with mountCounter := M, mountPresent := true } :=
    congrArg (fun q => (advance dt s).onPanel fun _ => q) hmounted
  refine ⟨fun hnot => ?_, fun ho hp hl hnone => ?_, fun ho hp hl hm hr hoff hdark hsome => ?_⟩
  · rw [hexec, examineMount_not]
    · simp only [panelEvent, onPanel_panel, hM, hpres]
      rfl
    · rintro ⟨hd, hc, hp⟩
      rcases hnot with hno | hyes
      · exact hno (hwhen.2 ⟨hd, hc⟩)
      · have : panel.mountPresent = false := hp
        simp [hpres, hyes] at this
  · obtain ⟨hd, hc⟩ := hwhen.1 ho
    have hstart := mountStart_unwanted (s := (advance dt s).onPanel fun _ => panel) hl (by rw [hM']; exact hnone)
    rw [hexec, examineMount_starts hd hc (hpres.trans hp), hstart, hstate]
    rfl
  · obtain ⟨hd, hc⟩ := hwhen.1 ho
    have hstart := mountStart_waited (s := (advance dt s).onPanel fun _ => panel) hl hm hr hoff hdark
      (by rw [hM']; exact hsome)
    intro cold
    rw [hexec, examineMount_starts hd hc (hpres.trans hp), hstart, hstate, ← Lamp.warmTime]
    rfl

end

end Sys2Proof.Machine
end

section
/-! PROOF. What a run's abort and a drum report leave of the table and the drum, and the STOP key (R20, R52, R165). -/

namespace Sys2Proof.Machine

/-! ## Orders apart from one number -/

/-- The manager's state stands, and every order but the one of number `n` stands in the table as it was. -/
structure State.Aside (n : Option Nat) (s t : State) : Prop where
  state : t.manager.state = s.manager.state
  others : ∀ o ∈ s.manager.table, n ≠ some o.number → o ∈ t.manager.table

section
variable {n : Option Nat} {k : Nat} {s t u : State} {f : Order → Order}

theorem State.Aside.refl (n : Option Nat) (s : State) : s.Aside n s := ⟨rfl, fun _ ho _ => ho⟩

theorem State.Aside.trans (h : s.Aside n t) (k : t.Aside n u) : s.Aside n u :=
  ⟨k.state.trans h.state, fun o ho hn => k.others o (h.others o ho hn) hn⟩

theorem State.Aside.frame (h : s.Aside n t) (e : u.manager = t.manager) : s.Aside n u :=
  ⟨e ▸ h.state, e ▸ h.others⟩

theorem State.Aside.updateOrder (h : s.Aside n t) (hk : n = some k) : s.Aside n (updateOrder k f t) where
  state := h.state
  others := fun o ho hn => by
    have hne : o.number ≠ k := fun e => hn (by rw [hk, e])
    exact List.mem_map.2 ⟨o, h.others o ho hn, by simp [hne]⟩

theorem State.Aside.enterState (h : s.Aside n t) (hk : n = some k) (st : OrderState) :
    s.Aside n (enterState k st t) :=
  (h.updateOrder hk).frame (enterState_manager k st t)

/-! ## The run's START and abort -/

theorem run_onRun_order {g : RunRecord → RunRecord} (hg : ∀ r, (g r).order = r.order)
    (hr : t.run.map RunRecord.order = n) : (t.onRun g).run.map RunRecord.order = n := by
  subst hr
  cases h : t.run with
  | none => simp [State.onRun, h]
  | some r => simp [State.onRun, h, hg]

section
variable (h : s.Aside n t) (hr : t.run.map RunRecord.order = n)
include h hr

theorem startToneBegun_aside : s.Aside n (startToneBegun t) := by
  unfold startToneBegun
  split
  · rename_i r hrun
    split
    · have hn : n = some r.order := by rw [← hr, hrun]; rfl
      exact ((h.updateOrder hn).enterState hn _).frame rfl
    · exact h
  · exact h

theorem reportIfStartTone_aside : s.Aside n (reportIfStartTone t) := by
  unfold reportIfStartTone
  split
  · exact startToneBegun_aside h hr
  · exact h

theorem lineStart_aside {fig : Figures} : s.Aside n (lineStart fig t) := by
  unfold lineStart
  split
  · exact reportIfStartTone_aside (h.frame rfl) hr
  · exact h

theorem examineStart_aside : s.Aside n (examineStart t) := by
  unfold examineStart
  split
  · exact h
  · split
    · exact h
    · split
      · refine lineStart_aside (t := t.onRun _) (h.frame rfl) (run_onRun_order ?_ hr)
        exact fun _ => rfl
      · exact h

theorem drumReportToRun_aside : s.Aside n (drumReportToRun t) := by
  refine examineStart_aside (h.frame rfl) (run_onRun_order ?_ hr)
  exact fun _ => rfl

end

section
variable (c : AbortCause) (r : RunRecord) (o : Order)

/-- A first cause changes the destinations of the run's order alone. -/
theorem firstAbort_manager : (firstAbort c r o s).manager =
    (updateOrder o.number (fun o => { o with dests := abortDests c o.dests }) s).manager := by
  unfold firstAbort
  split <;> split <;> simp [trimOff] <;> rfl

/-- A first cause changes no more of the drum than the trim request. -/
theorem firstAbort_drum : ∃ tr, (firstAbort c r o s).drum = { s.drum with trim := tr } := by
  unfold firstAbort
  by_cases h : o.state = .sending
  · exact ⟨.none, by split <;> simp [trimOff, h]⟩
  · exact ⟨s.drum.trim, by split <;> simp⟩

theorem runAbort_aside (h : s.Aside n t) (hr : t.run.map RunRecord.order = n) : s.Aside n (runAbort c t) := by
  unfold runAbort
  split
  · exact h
  · rename_i r hrun
    split
    · exact h
    · rename_i o ho
      split
      · exact h.frame (by simp)
      · split
        · have hn : n = some o.number := by rw [← hr, hrun, findOrder_number ho]; rfl
          exact (h.updateOrder hn).frame (firstAbort_manager c r o)
        · exact h

theorem runAbort_drum : ∃ tr, (runAbort c s).drum = { s.drum with trim := tr } := by
  unfold runAbort
  split
  · exact ⟨_, rfl⟩
  · split
    · exact ⟨_, rfl⟩
    · split
      · exact ⟨s.drum.trim, by simp⟩
      · split
        · exact firstAbort_drum c _ _
        · exact ⟨_, rfl⟩

end

theorem runAbort_none (h : s.run = none) (c : AbortCause) : runAbort c s = s := by
  simp [runAbort, h]

/-! ## The end of a calibration run by the door or the STOP key -/

theorem calAbort_none (h : s.cal = none) (o : CalOutcome) : calAbort o s = s := by
  simp [calAbort, h]

theorem calAbort_cal (o : CalOutcome) : (calAbort o s).cal = none := by
  unfold calAbort
  split
  · assumption
  · rename_i c hc
    simp only [calEnd, hc]
    split <;> simp [startSpinHold]

/-- Only a run that is done or has failed starts the spin-hold timer (R53). -/
theorem calAbort_drum {o : CalOutcome} (hd : o ≠ .done) (hf : o ≠ .failed) : (calAbort o s).drum = s.drum := by
  unfold calAbort
  split
  · rfl
  · rename_i c hc
    simp [calEnd, hc, hd, hf]

/-! ## Stop requests without a calibration run -/

theorem drumReportToCal_none (h : s.cal = none) : drumReportToCal s = s := by
  simp [drumReportToCal, h]

theorem enterSpinningDown_eq (h : s.cal = none) : enterSpinningDown s =
    drumReportToRun (drumEvent .state (s.onDrum (Drum.spinDown s.now))) := by
  unfold enterSpinningDown drumChanged reportDrum
  rw [drumReportToCal_none]
  simpa using h

/-- The drum turns or calibrates: a stop request spins it down (R39). -/
def DrumState.spins : DrumState → Bool
  | .spinningUp | .locked | .drift | .calibrating => true
  | _ => false

theorem stopRequest_spins {b : Bool} (h : s.drum.state.spins = true) : stopRequest b s = enterSpinningDown s := by
  unfold stopRequest
  split <;> simp_all [DrumState.spins]

theorem stopRequest_still (h : s.drum.state.spins = false) : stopRequest false s = s := by
  unfold stopRequest
  split <;> simp_all [DrumState.spins]

theorem DrumState.spins_iff {d : DrumState} : d.spins = true ↔
    d = .spinningUp ∨ d = .locked ∨ d = .drift ∨ d = .calibrating := by
  cases d <;> simp [DrumState.spins]

/-- A stop request without a calibration run changes neither the manager's state nor that. -/
theorem stopRequest_noCal (h : s.cal = none) :
    (stopRequest false s).manager.state = s.manager.state ∧ (stopRequest false s).cal = none := by
  by_cases hs : s.drum.state.spins = true
  · rw [stopRequest_spins hs, enterSpinningDown_eq h]
    refine ⟨(drumReportToRun_aside (s := s) ?_ rfl).state, ?_⟩
    · exact (State.Aside.refl _ s).frame (by simp)
    · simpa using h
  · rw [stopRequest_still (Bool.not_eq_true _ ▸ hs)]
    exact ⟨rfl, h⟩

/-! ## STOP_KEY -/

/-- The state that the stop request of a STOP key finds: HALTED, the run and the calibration run aborted. -/
def State.stopped (s : State) : State :=
  calAbort .stopped (runAbort .stop (s.onManager fun m => { m with state := .halted }))

theorem State.stopped_cal : s.stopped.cal = none := calAbort_cal _

theorem State.stopped_manager : s.stopped.manager.state = .halted := by
  have h := (runAbort_aside .stop (.refl _ (s.onManager fun m => { m with state := .halted })) rfl).state
  simpa [State.stopped] using h

theorem State.stopped_drum : ∃ tr, s.stopped.drum = { s.drum with trim := tr } := by
  obtain ⟨tr, h⟩ := runAbort_drum (s := s.onManager fun m => { m with state := .halted }) .stop
  refine ⟨tr, ?_⟩
  rw [State.stopped, calAbort_drum (by decide) (by decide), h]
  rfl

theorem State.stopped_idle (hr : s.run = none) (hc : s.cal = none) :
    s.stopped = s.onManager fun m => { m with state := .halted } := by
  unfold State.stopped
  rw [runAbort_none (s := s.onManager _) hr, calAbort_none (s := s.onManager _) hc]

theorem execStopKey_eq (dt : Nat) (s : State) : exec (.stopKey dt) s =
    .next (panelEvent .stop none (stopRequest false (advance dt s).stopped)) := rfl

/-- Settles O38: the stop request after the aborts. -/
theorem stopKeyHaltsAndSpinsDown : Obligations.StopKeyHaltsAndSpinsDown := by
  intro dt s now turns down notice
  obtain ⟨tr, hdrum⟩ := State.stopped_drum (s := advance dt s)
  have hcal := State.stopped_cal (s := advance dt s)
  have hman := State.stopped_manager (s := advance dt s)
  have hspins : s.drum.state.spins = true ↔ turns := DrumState.spins_iff
  have hstate : (advance dt s).stopped.drum.state = s.drum.state := by rw [hdrum]; rfl
  refine ⟨⟨_, execStopKey_eq dt s, ?_, ?_, fun h => ?_, fun h => ?_, ?_⟩, fun hr hc => ⟨fun h => ?_, fun h => ?_⟩⟩
  · simpa [hman] using (stopRequest_noCal hcal).1
  · simpa using (stopRequest_noCal hcal).2
  · rw [stopRequest_spins (hstate ▸ hspins.2 h), enterSpinningDown_eq hcal]
    simp [Drum.spinDown]
  · have hstill : s.drum.state.spins = false := Bool.not_eq_true _ ▸ mt hspins.1 h
    rw [stopRequest_still (hstate ▸ hstill)]
    simpa using hstate
  · refine ⟨?_, ?_, ?_, ?_, ?_, ?_, ?_, ?_, ?_, ?_⟩ <;> simp [State.stopped]
    rfl
  · have hstop := State.stopped_idle (s := advance dt s) hr hc
    rw [execStopKey_eq, stopRequest_spins (hstate ▸ hspins.2 h), enterSpinningDown_eq hcal, hstop,
      drumReportToRun_none (by exact hr)]
    rfl
  · have hstop := State.stopped_idle (s := advance dt s) hr hc
    have hstill : s.drum.state.spins = false := Bool.not_eq_true _ ▸ mt hspins.1 h
    rw [execStopKey_eq, stopRequest_still (hstate ▸ hstill), hstop]
    rfl

end

end Sys2Proof.Machine
end

section
/-! PROOF. A mount end at the door finishes the orders bound to the mount (R10, R11, R50). -/

namespace Sys2Proof.Machine

section
variable {s t : State} {M : Nat}

/-! ## Retirement with the slip queue full -/

/-- With slip mode ON and no room in the slip queue no order retires (R25). -/
theorem retire_full (hm : s.settings.slipMode = true) (hq : 8 ≤ s.slips.queue.length) : retire s = s := by
  unfold retire
  cases s.manager.table.length with
  | zero => rfl
  | succ n =>
    unfold retireUpTo
    cases s.oldestFinished with
    | none => rfl
    | some o => simp [hm, hq]

/-! ## The orders at a mount end -/

/-- The order waits on mount `M`. -/
def Order.boundTo (M : Nat) (o : Order) : Prop := o.state = .queued ∧ o.mount = M

/-- The order is FINISHED with MOUNT_GONE at the time of day `tod` (R3, R11). -/
def Order.goneAt (tod : Option Nat) (q : Order) : Prop :=
  q.state = .finished ∧ q.result = some .mountGone ∧ (∀ x ∈ q.dests, x.result ≠ .pending) ∧ q.ended = tod

theorem notCalled_pending (ds : List Dest) : ∀ x ∈ notCalled ds, x.result ≠ .pending := by
  intro x hx
  obtain ⟨d, _, rfl⟩ := List.mem_map.1 hx
  split
  · simp
  · assumption

theorem finish_goneAt (tod : Option Nat) (now : Nat) (o : Order) : (Order.finish .mountGone tod now o).goneAt tod :=
  ⟨rfl, rfl, notCalled_pending _, rfl⟩

/-- The part of a state that a mount's end keeps while the slip queue is full. -/
structure State.Full (s : State) : Prop where
  nodup : (s.manager.table.map Order.number).Nodup
  slipMode : s.settings.slipMode = true
  queue : 8 ≤ s.slips.queue.length

/-- One order number at a mount's end: its order, when bound to the mount, finishes; every other stands. -/
theorem mountGone_full (h : s.Full) (n : Nat) : (mountGone M s n).Full ∧
    (∀ o ∈ s.manager.table, ¬o.boundTo M ∨ o.number ≠ n → o ∈ (mountGone M s n).manager.table) ∧
    (∀ o ∈ s.manager.table, o.boundTo M → o.number = n →
      ∃ q ∈ (mountGone M s n).manager.table, q.number = o.number ∧ q.goneAt s.todNow) := by
  unfold mountGone
  cases hf : s.findOrder n with
  | none =>
    exact ⟨h, fun o ho _ => ho, fun o ho _ hn => absurd hn (findOrder_eq_none.1 hf o ho)⟩
  | some x =>
    have hx := findOrder_mem hf
    have hxn := findOrder_number hf
    have hthe : ∀ o ∈ s.manager.table, o.number = n → o = x := fun o ho hn =>
      eq_of_number h.nodup ho hx (hn.trans hxn.symm)
    dsimp only
    split
    · rename_i hbound
      rw [retire_full (by simpa using h.slipMode) (by simpa using h.queue)]
      have hmem : ∀ y, y ∈ (finishOrder n .mountGone s).manager.table ↔
          y = Order.finish .mountGone s.todNow s.now x ∨ y ∈ s.manager.table ∧ y.number ≠ x.number := by
        intro y
        rw [finishOrder_manager, ← hxn]
        exact mem_updated h.nodup hx
      refine ⟨⟨?_, by simpa using h.slipMode, by simpa using h.queue⟩, fun o ho hnot => ?_, fun o ho _ hn => ?_⟩
      · rw [finishOrder_manager]
        exact (numbers_updated s.manager.table n (f := Order.finish .mountGone s.todNow s.now) fun _ => rfl).symm ▸ h.nodup
      · refine (hmem o).2 (.inr ⟨ho, fun e => ?_⟩)
        have hon := e.trans hxn
        exact hnot.elim (fun hb => hb (hthe o ho hon ▸ hbound)) (fun hne => hne hon)
      · refine ⟨_, (hmem _).2 (.inl rfl), ?_, finish_goneAt _ _ _⟩
        exact hxn.trans hn.symm
    · rename_i hbound
      exact ⟨h, fun o ho _ => ho, fun o ho hb hn => absurd (hthe o ho hn ▸ hb) hbound⟩

/-- A mount's end over the order numbers `l`. -/
theorem foldl_mountGone_full (l : List Nat) : ∀ {s : State}, s.Full →
    (∀ o ∈ s.manager.table, ¬o.boundTo M → o ∈ (l.foldl (mountGone M) s).manager.table) ∧
    (∀ o ∈ s.manager.table, o.boundTo M → o.number ∈ l →
      ∃ q ∈ (l.foldl (mountGone M) s).manager.table, q.number = o.number ∧ q.goneAt s.todNow) := by
  induction l with
  | nil => exact fun _ => ⟨fun o ho _ => ho, fun o _ _ hn => absurd hn List.not_mem_nil⟩
  | cons n l ih =>
    intro s h
    obtain ⟨hfull, hstay, hgo⟩ := mountGone_full (M := M) h n
    obtain ⟨hkeep, hrest⟩ := ih hfull
    have htod : (mountGone M s n).todNow = s.todNow := by simp [State.todNow]
    refine ⟨fun o ho hb => hkeep o (hstay o ho (.inl hb)) hb, fun o ho hb hn => ?_⟩
    by_cases hon : o.number = n
    · obtain ⟨q, hq, hqn, hgone⟩ := hgo o ho hb hon
      refine ⟨q, hkeep q hq fun hqb => ?_, hqn, hgone⟩
      exact absurd (hgone.1.symm.trans hqb.1) (by decide)
    · have hl : o.number ∈ l := by simpa [hon] using hn
      exact htod ▸ hrest o (hstay o ho (.inr hon)) hb hl

/-- The mount end as the fold over the table's numbers. -/
theorem mountEnd_manager (h : s.panel.mountPresent = true) : (mountEnd s).manager =
    ((s.manager.table.map Order.number).foldl (mountGone s.panel.mountCounter)
      (s.onPanel fun p => { p with mountPresent := false })).manager := by
  simp [mountEnd, h]

theorem mountEnd_present : (mountEnd s).panel.mountPresent = false := by
  unfold mountEnd
  split
  · simp
  · simpa using ‹¬s.panel.mountPresent = true›

/-! ## The door -/

/-- The state whose mount the door interlock ends (R50). -/
def State.interlocked (s : State) : State :=
  let t := s.onDrum (Drum.interlock s.now)
  let t := if t.drum.state = s.drum.state then t else drumEvent .state t
  calAbort .doorOpen (runAbort .door (drumReportToRun t))

theorem doorInterlock_eq : doorInterlock s = mountEnd s.interlocked := rfl

theorem interlocked_keeps : s.interlocked.panel = s.panel ∧ s.interlocked.settings = s.settings ∧
    s.interlocked.clock = s.clock ∧ s.interlocked.slips = s.slips := by
  unfold State.interlocked
  dsimp only
  split <;> simp

theorem interlocked_quiet : s.Quiet s.interlocked := by
  unfold State.interlocked
  dsimp only
  refine calAbort_quiet (runAbort_quiet (drumReportToRun_quiet ?_))
  split
  · exact (State.Quiet.refl s).onDrum
  · exact drumEvent_quiet (State.Quiet.refl s).onDrum

theorem interlocked_aside : s.Aside (s.run.map RunRecord.order) s.interlocked := by
  unfold State.interlocked
  dsimp only
  have hreported : ∀ t : State, t.manager = s.manager → t.run = s.run →
      s.Aside (s.run.map RunRecord.order) (calAbort .doorOpen (runAbort .door (drumReportToRun t))) := by
    intro t hm hr
    have hn : t.run.map RunRecord.order = s.run.map RunRecord.order := by rw [hr]
    have hd := drumReportToRun_aside ((State.Aside.refl _ s).frame hm) hn
    have hdn := (drumReportToRun_quiet (State.Quiet.refl t)).runOrder.trans hn
    exact (runAbort_aside .door hd hdn).frame (by simp)
  split
  · exact hreported _ rfl rfl
  · exact hreported _ (by simp [drumEvent]) (by simp [drumEvent])

/-- With no mount present no order waits on it. -/
theorem select_unmounted (h : s.panel.mountPresent = false) : select s = s :=
  select_none fun o _ => by simp [State.waitsOnMount, h]

theorem openDoor_manager (s : State) :
    (openDoor s).manager = (doorInterlock (s.onPanel fun p => { p with door := .opened })).manager := by
  unfold openDoor selectAfterCal
  simp only [panelEvent_keeps]
  split
  · rw [doorInterlock_eq, select_unmounted mountEnd_present]
  · rfl

/-- Settles O36: the orders not of the run pass the interlock as they are, and then the mount's end. -/
theorem mountEndFinishesItsOrders : Obligations.MountEndFinishesItsOrders := by
  intro dt s hdoor hpres hnum hrun hmode hq
  let s1 := (advance dt s).onPanel fun p => { p with door := .opened }
  have hinv : s1.TableInv False False := ⟨hnum, (runInv_iff hnum.1).1 hrun, False.elim, False.elim⟩
  obtain ⟨hpanel, hsettings, hclock, hslips⟩ := interlocked_keeps (s := s1)
  have hpresent : s1.interlocked.panel.mountPresent = true := by rw [hpanel]; exact hpres
  have hM : s1.interlocked.panel.mountCounter = s.panel.mountCounter := by rw [hpanel]; rfl
  have hfull : (s1.interlocked.onPanel fun p => { p with mountPresent := false }).Full :=
    ⟨(hinv.quiet interlocked_quiet).nodup, hsettings ▸ hmode, (congrArg (8 ≤ ·.queue.length) hslips).mpr hq.ge⟩
  obtain ⟨hstay, hgo⟩ := foldl_mountGone_full (M := s.panel.mountCounter)
    (s1.interlocked.manager.table.map Order.number) hfull
  have haside : ∀ o ∈ s.manager.table, o.state.isRunning = false → o ∈ s1.interlocked.manager.table := by
    refine fun o ho hnot => interlocked_aside.others o ho fun e => ?_
    obtain ⟨r, hr, hro⟩ := Option.map_eq_some_iff.1 e
    obtain ⟨x, hx, hxn, hxrun⟩ := hrun.1 r hr
    rw [eq_of_number hnum.1 ho hx (hro.symm.trans hxn.symm), hxrun] at hnot
    exact absurd hnot (by decide)
  have hexec : exec (.doorOpen dt) s = .next (openDoor (advance dt s)) := congrArg Host.Outcome.next (if_pos hdoor)
  have hman := openDoor_manager (advance dt s)
  rw [doorInterlock_eq, mountEnd_manager hpresent, hM] at hman
  refine ⟨_, hexec, fun o ho hqueued hbound => ?_, fun o ho hother => ?_⟩
  · rw [hman]
    have hmem := haside o ho (by rw [hqueued]; rfl)
    obtain ⟨q, hq, hqn, hfin, hres, hdests, hended⟩ := hgo o hmem ⟨hqueued, hbound⟩ (List.mem_map_of_mem hmem)
    refine ⟨q, hq, hqn, hfin, hres, hdests, hended.trans ?_⟩
    simp [State.todNow, hclock, s1]
  · rw [hman]
    have hnot : o.state.isRunning = false ∧ ¬o.boundTo s.panel.mountCounter := by
      rcases hother with ⟨hqueued, hne⟩ | ha | hf
      · exact ⟨by rw [hqueued]; rfl, fun hb => hne hb.2⟩
      · exact ⟨by rw [ha]; rfl, fun hb => by simp [Order.boundTo, ha] at hb⟩
      · exact ⟨by rw [hf]; rfl, fun hb => by simp [Order.boundTo, hf] at hb⟩
    exact hstay o (haside o ho hnot.1) hnot.2

end

end Sys2Proof.Machine
end

section
/-! PROOF. The selection of an order by RESUME, and the start of its run with the drum LOCKED at its speed (R18, R150,
R151). -/

namespace Sys2Proof.Machine

section
variable {s : State} {o : Order}

/-! ## The candidate -/

theorem candidate_urgent (h : s.manager.table.find? (fun x => s.waitsOnMount x && x.urgent) = some o) :
    s.candidate = some o := by
  simp [State.candidate, h]

theorem candidate_routine (hu : s.manager.table.find? (fun x => s.waitsOnMount x && x.urgent) = none)
    (h : s.manager.table.find? s.waitsOnMount = some o) : s.candidate = some o := by
  simp [State.candidate, hu, h]

theorem waitsOnMount_present (h : s.panel.mountPresent = true) (x : Order) :
    s.waitsOnMount x = (x.state == .queued && x.mount == s.panel.mountCounter) := by
  simp [State.waitsOnMount, h]

theorem select_some (hm : s.mayRun = true) (hc : s.candidate = some o) : select s = selectOrder o s := by
  simp [select, hm, hc]

/-! ## The parts of a run's start -/

theorem lampJoin_run (q : LampRequest) (s : State) :
    ∃ f : RunRecord → RunRecord, (∀ r, ∃ b, f r = { r with lampReady := b }) ∧ (lampJoin q s).run = s.run.map f := by
  unfold lampJoin
  split
  · exact ⟨id, fun r => ⟨r.lampReady, rfl⟩, by simp⟩
  · exact ⟨_, fun r => ⟨_, rfl⟩, rfl⟩

theorem lampJoin_runReq (s : State) : (lampJoin .run s).lamp.runReq = true := by
  unfold lampJoin
  split
  · assumption
  · simp only [reportLamp_keeps, onLamp_lamp, Lamp.answer]
    split <;> rfl

/-- A speed request at speed changes nothing (R38 step 4). -/
theorem speedRequest_atSpeed {rpm : Nat} (h : s.drum.atSpeed rpm = true) : speedRequest rpm s = s := by
  simp [speedRequest, h]

theorem lineSeize_idle {n code : Nat} {net : Network} {ds : List DialSymbol} (h : s.line.state = .idle) :
    lineSeize n net code ds s =
      placeNotice (.line .seize n (some net) none none) (s.onLine (LineUnit.seized n net code ds s.now)) := by
  simp [lineSeize, LineUnit.takes, h]

/-- The order at its selection (R12, R24). -/
def Order.select (tod : Option Nat) (now : Nat) (o : Order) : Order :=
  { o with state := .preparing, started := tod, queue := o.queue.stop now, prepare := .running now }

/-- The state in which the run of a selected order starts. -/
def State.selected (o : Order) (s : State) : State :=
  updatePrewarm (enterState o.number .preparing (updateOrder o.number (fun o =>
    { o with started := s.todNow, queue := o.queue.stop s.now, prepare := .running s.now }) s))

theorem selectOrder_eq : selectOrder o s = runStart o (s.selected o) := rfl

theorem selected_manager : (s.selected o).manager = (updateOrder o.number (Order.select s.todNow s.now) s).manager := by
  simp only [State.selected, updatePrewarm_keeps, enterState_manager]
  rw [updateOrder_updateOrder]
  · rfl
  · exact fun _ => rfl

theorem selected_keeps : (s.selected o).now = s.now ∧ (s.selected o).settings = s.settings ∧
    (s.selected o).directory = s.directory ∧ (s.selected o).panel = s.panel ∧ (s.selected o).drum = s.drum ∧
    (s.selected o).motor = s.motor ∧ (s.selected o).carriage = s.carriage ∧ (s.selected o).line = s.line ∧
    (s.selected o).slips = s.slips := by
  simp [State.selected, enterState]

/-! ## The run's start at speed -/

/-- The drum LOCKED at the order's speed, and everything else that a speed request asks. -/
structure State.AtSpeed (o : Order) (s : State) : Prop where
  door : s.panel.door = .closed
  locked : s.drum.state = .locked
  target : s.drum.target = o.header.speed
  noLock : s.drum.noLock = false
  motor : s.motor.valid = true
  feasible : feasible s.motor o.header.speed = true

/-- The run begins: its record, its opened store and its lamp request. -/
def State.runOpened (o : Order) (s : State) : State :=
  lampJoin .run (({ s with run := some (runRecordFor o s) } : State).onStore fun _ =>
    Store.opened o.number o.header.samples o.lines)

theorem runStart_atSpeed (h : s.AtSpeed o) : runStart o s = lineSeize o.number o.network
    ((s.runOpened o).callCodeOf (o.stationAt 1)) ((s.runOpened o).digitsOf (o.stationAt 1)) (s.runOpened o) := by
  have htaken : s.speedTaken o.header.speed = true := by
    simp [State.speedTaken, h.door, h.locked, h.motor, h.feasible]
  have hspeed : ∀ t : State, t.drum = s.drum → speedRequest o.header.speed t = t := fun t ht =>
    speedRequest_atSpeed (by simp [Drum.atSpeed, ht, h.locked, h.target])
  have hbegun : runBegun o s = lineSeize o.number o.network
      ((s.runOpened o).callCodeOf (o.stationAt 1)) ((s.runOpened o).digitsOf (o.stationAt 1)) (s.runOpened o) := by
    unfold runBegun
    dsimp only
    rw [hspeed]
    · rfl
    · rfl
  have hdrum : (runBegun o s).drum = s.drum := by
    rw [hbegun]
    simp [State.runOpened]
  rw [runStart_eq, if_pos htaken, hdrum, h.noLock, hbegun]
  rfl

theorem runOpened_keeps : (s.runOpened o).now = s.now ∧ (s.runOpened o).settings = s.settings ∧
    (s.runOpened o).manager = s.manager ∧ (s.runOpened o).directory = s.directory ∧
    (s.runOpened o).panel = s.panel ∧ (s.runOpened o).drum = s.drum ∧ (s.runOpened o).carriage = s.carriage ∧
    (s.runOpened o).line = s.line ∧ (s.runOpened o).slips = s.slips := by
  simp [State.runOpened]

theorem runOpened_run : ∃ b, (s.runOpened o).run = some { runRecordFor o s with lampReady := b } := by
  obtain ⟨f, hf, hrun⟩ := lampJoin_run .run (({ s with run := some (runRecordFor o s) } : State).onStore fun _ =>
    Store.opened o.number o.header.samples o.lines)
  obtain ⟨b, hb⟩ := hf (runRecordFor o s)
  exact ⟨b, hrun.trans (congrArg some hb)⟩

theorem callCodeOf_congr {t : State} (h : t.directory = s.directory) (n : Nat) : t.callCodeOf n = s.callCodeOf n := by
  simp [State.callCodeOf, State.station, h]

theorem digitsOf_congr {t : State} (h : t.directory = s.directory) (n : Nat) : t.digitsOf n = s.digitsOf n := by
  simp [State.digitsOf, State.station, h]

/-! ## RESUME -/

/-- A request that its owner answers at once, on a free link: the reply is placed in the state the owner leaves. -/
theorem exec_served {i : Instr} {dt : Nat} {f : Frame} (hi : i.frame = some (dt, f)) (hf : s.LinkFree)
    (hp : f.payload.length ≤ 60) (hk : knownKind f.kind = true) (hl : lengthAgrees f.kind f.payload = true) {a : Reply}
    {t : State} (h : serveKind f.kind.toNat f.payload (s.serving dt ⟨f.kind, f.tag, f.payload⟩) = (some a, t)) :
    exec i s = .next (placeReply ⟨f.kind, f.tag, f.payload⟩ a t) := by
  rw [exec_frame hi, arrive_free hf hp, answer_known hk hl, h]

/-- RESUME of a HALTED manager selects (R18, R19). -/
theorem serveQueueControl_resume (h : s.manager.state = .halted) : serveQueueControl [1#8] s =
    (.ok (u8 ManagerState.running.code), select (s.onManager fun m => { m with state := .running })) := by
  have hb : byteAt [1#8] 0 = 1 := by decide
  simp [serveQueueControl, hb, h]

/-- Settles O39: the selection by RESUME, field by field of the run's start. -/
theorem selectionStartsTheRun : Obligations.SelectionStartsTheRun := by
  intro dt tag s o hf hnum hhalted hidle hrun hcal hcarriage hline hpres waits hfirst hdoor hlocked htarget hno hvalid
    hfeasible
  let u := (s.serving dt ⟨0x10#8, tag, [1#8]⟩).onManager fun m => { m with state := .running }
  have hwaits : u.waitsOnMount = waits := funext (waitsOnMount_present (s := u) hpres)
  have hcand : u.candidate = some o := by
    rcases hfirst with h | ⟨hn, h⟩
    · exact candidate_urgent (by rw [hwaits]; exact h)
    · exact candidate_routine (by rw [hwaits]; exact hn) (by rw [hwaits]; exact h)
  have hmay : u.mayRun = true := by
    have hr : u.runningOrder = none := hidle
    have hc : u.cal = none := hcal
    have hca : u.carriage.state ≠ .fault := hcarriage
    have hm : u.manager.state = .running := rfl
    simp [State.mayRun, State.orderRunning, hr, hc, hca, hm]
  obtain ⟨hvnow, hvset, hvdir, hvpanel, hvdrum, hvmotor, hvcar, hvline, hvslips⟩ := selected_keeps (s := u) (o := o)
  have hspeed : (u.selected o).AtSpeed o :=
    ⟨by rw [hvpanel]; exact hdoor, by rw [hvdrum]; exact hlocked, by rw [hvdrum]; exact htarget,
      by rw [hvdrum]; exact hno, by rw [hvmotor]; exact hvalid, by rw [hvmotor]; exact hfeasible⟩
  obtain ⟨hwnow, hwset, hwman, hwdir, hwpanel, hwdrum, hwcar, hwline, hwslips⟩ :=
    runOpened_keeps (s := u.selected o) (o := o)
  obtain ⟨b, hwrun⟩ := runOpened_run (s := u.selected o) (o := o)
  have hsel : select u = lineSeize o.number o.network (s.callCodeOf (o.stationAt 1)) (s.digitsOf (o.stationAt 1))
      ((u.selected o).runOpened o) := by
    have hdir : ((u.selected o).runOpened o).directory = s.directory := hwdir.trans hvdir
    rw [select_some hmay hcand, selectOrder_eq, runStart_atSpeed hspeed, callCodeOf_congr hdir, digitsOf_congr hdir]
  have hwl : ((u.selected o).runOpened o).line = s.line := hwline.trans hvline
  have hT := hsel.trans (lineSeize_idle (by rw [hwl]; exact hline))
  have hnow : ((u.selected o).runOpened o).now = s.now + dt := hwnow.trans hvnow
  rw [hnow] at hT
  have hexec := exec_served (i := .queueControlResume dt tag []) rfl hf (by simp) rfl rfl
    (congrArg answered (serveQueueControl_resume (s := s.serving dt ⟨0x10#8, tag, [1#8]⟩) hhalted))
  have hman : (select u).manager = (updateOrder o.number (Order.select u.todNow u.now) u).manager := by
    rw [hT, ← selected_manager, ← hwman]
    simp
  have hrunT : (select u).run = some { runRecordFor o (u.selected o) with lampReady := b } := by
    rw [hT, ← hwrun]
    simp
  have hready : (runRecordFor o (u.selected o)).drumReady = true := by
    simp [runRecordFor, hspeed.locked, hspeed.target]
  have hstoreT : (select u).store = Store.opened o.number o.header.samples o.lines := by
    rw [hT]
    simp [State.runOpened]
  have hlampT : (select u).lamp.runReq = true := by
    rw [hT]
    exact lampJoin_runReq _
  have hlineT : (select u).line = LineUnit.seized o.number o.network (s.callCodeOf (o.stationAt 1))
      (s.digitsOf (o.stationAt 1)) (s.now + dt) s.line := by
    rw [hT, ← hwl]
    simp
  have hrest : (select u).drum = s.drum ∧ (select u).carriage = s.carriage := by
    rw [hT]
    exact ⟨hwdrum.trans hvdrum, hwcar.trans hvcar⟩
  have hhold : (select u).link.holding = [⟨0x10#8, tag, [1#8]⟩] := (select_fits (.refl u)).holding
  obtain ⟨_, _, hsetT, _, hdirT, hpanelT, _, _, _, _, hslipsT⟩ := select_keeps u
  refine ⟨_, { runRecordFor o (u.selected o) with lampReady := b }, hexec, congrArg Manager.state hman,
    congrArg Manager.table hman, hrunT, rfl, rfl, rfl, rfl, rfl, rfl, rfl, rfl, rfl, hready, rfl, hstoreT, hlampT,
    congrArg LineUnit.state hlineT, congrArg LineUnit.loopClosed hlineT, congrArg LineUnit.orderNumber hlineT,
    congrArg LineUnit.network hlineT, fun hloop => ?_, fun hdial => ?_, hrest.1, hpanelT, hrest.2, hslipsT, hdirT,
    hsetT, (Link.kick_holding _ _).trans hhold⟩
  · rw [hloop] at hlineT
    exact ⟨congrArg LineUnit.activity hlineT, congrArg LineUnit.callCode hlineT, congrArg LineUnit.signal hlineT⟩
  · rw [hdial] at hlineT
    exact ⟨congrArg LineUnit.activity hlineT, congrArg LineUnit.dialDigits hlineT, congrArg LineUnit.signal hlineT⟩

end

end Sys2Proof.Machine
end

section
/-! PROOF. The end of the picture and the confirmation that follows (R145, R162, R163), and the line requests they make. -/

namespace Sys2Proof.Machine

section
variable {s : State} {r : RunRecord} {o : Order} {n : Nat}

/-! ## Reports to a run -/

theorem placeOrderEvent_some (h : s.findOrder n = some o) (e : EventState) :
    placeOrderEvent n e s = placeNotice (orderNotice o e) s := by
  simp [placeOrderEvent, h]

/-- An order enters a state: its record, then its ORDER_EVENT (R6, R8). -/
theorem enterState_some (h : s.findOrder n = some o) (st : OrderState) : enterState n st s =
    placeNotice (orderNotice { o with state := st } (.entered st)) (updateOrder n (fun o => { o with state := st }) s) := by
  unfold enterState
  refine placeOrderEvent_some ?_ _
  exact findOrder_updateOrder (fun o => { o with state := st }) (fun _ => rfl) h

/-- An order is updated as it enters a state. -/
theorem enterState_updateOrder {f : Order → Order} (hf : ∀ o, (f o).number = o.number) (h : s.findOrder n = some o)
    (st : OrderState) : enterState n st (updateOrder n f s) =
      placeNotice (orderNotice { f o with state := st } (.entered st))
        (updateOrder n (fun o => { f o with state := st }) s) := by
  rw [enterState_some (findOrder_updateOrder f hf h), updateOrder_updateOrder hf]
  rfl

theorem stopToneEndedReport_none (hr : s.run = none) : stopToneEndedReport s = s := by
  simp [stopToneEndedReport, hr]

theorem onRun_some (hr : s.run = some r) (f : RunRecord → RunRecord) : s.onRun f = { s with run := some (f r) } := by
  simp [State.onRun, hr]

section
variable (hr : s.run = some r) (ho : s.findOrder r.order = some o)
include hr ho

theorem withRun_live (ha : r.abort = none) (f : RunRecord → Order → State → State) : withRun f s = f r o s := by
  simp [withRun, hr, ho, ha]

theorem endOfPictureReport_sending (ha : r.abort = none) (hs : o.state = .sending) :
    endOfPictureReport s = trimOff (closeStore (enterState r.order .ending s)) := by
  rw [endOfPictureReport, withRun_live hr ho ha, if_pos hs]

/-- The order with its picture duration ended (R172). -/
def Order.pictureEnded (now : Nat) (o : Order) : Order := { o with picture := o.picture.stop now }

theorem stopToneEndedReport_aborted (ha : r.abort ≠ none) : stopToneEndedReport s =
    lineRelease (updateOrder r.order (Order.pictureEnded s.now) (s.onRun fun r => { r with action := .release })) := by
  simp only [stopToneEndedReport, hr, ho, Option.isSome_iff_ne_none.2 ha, if_true]
  rfl

/-- The order as it enters CONFIRMING (R163, R172). -/
def Order.confirming (now : Nat) (o : Order) : Order :=
  { o with state := .confirming, picture := o.picture.stop now, confirm := .running now }

/-- The state whose order has entered CONFIRMING (R163). -/
def State.confirming (n : Nat) (s : State) : State :=
  enterState n .confirming (updateOrder n (fun o =>
    { o with picture := o.picture.stop s.now, confirm := .running s.now }) s)

theorem stopToneEndedReport_ending (ha : r.abort = none) (he : o.state = .ending) : stopToneEndedReport s =
    match r.network with
    | .loop => pollNext (s.confirming r.order)
    | .dial => lineListen (s.confirming r.order) := by
  simp only [stopToneEndedReport, hr, ho, ha, he, Option.isSome_none, Bool.false_eq_true, if_false, if_true]
  rfl

omit hr in
theorem confirming_eq : s.confirming r.order = placeNotice (orderNotice o (.entered .confirming))
    (updateOrder r.order (Order.confirming s.now) s) := by
  rw [State.confirming, enterState_updateOrder _ ho]
  · rfl
  · exact fun _ => rfl

omit hr in
theorem confirming_found : (s.confirming r.order).findOrder r.order = some (o.confirming s.now) := by
  rw [confirming_eq ho]
  exact findOrder_updateOrder (Order.confirming s.now) (fun _ => rfl) ho

theorem pollNext_none (h : o.firstReady = none) : pollNext s = lineRelease s := by
  simp [pollNext, hr, ho, h]

theorem pollNext_some {i : Nat} (h : o.firstReady = some i) :
    pollNext s = lineCall .poll .polling (s.callCodeOf (o.stationAt i)) s := by
  simp [pollNext, hr, ho, h]

end

theorem firstReady_none (h : ∀ d ∈ o.dests, d.result ≠ .ready) : o.firstReady = none := by
  have : o.dests.findIdx? (fun d => d.result == .ready) = none :=
    List.findIdx?_eq_none_iff.2 fun d hd => by simp [h d hd]
  simp [Order.firstReady, this]

theorem firstReady_some {i : Nat} {d : Dest} (hi : o.dests[i]? = some d) (hd : d.result = .ready)
    (hb : ∀ j e, j < i → o.dests[j]? = some e → e.result ≠ .ready) : o.firstReady = some (i + 1) := by
  obtain ⟨hlt, he⟩ := List.getElem?_eq_some_iff.1 hi
  have : o.dests.findIdx? (fun d => d.result == .ready) = some i :=
    List.findIdx?_eq_some_iff_getElem.2 ⟨hlt, by simp [he, hd], fun j hj => by
      simpa using hb j o.dests[j] hj (by simp)⟩
  simp [Order.firstReady, this]

theorem stationAt_succ {i : Nat} {d : Dest} (hi : o.dests[i]? = some d) : o.stationAt (i + 1) = d.station := by
  simp [Order.stationAt, hi]

/-! ## Line requests in QUIET -/

section
variable (hs : s.line.state = .seized)
include hs

theorem lineRelease_seized : lineRelease s =
    s.onLine fun l => { l with lastRequest := some .release }.released .request s.now := if_pos hs

/-- A call in QUIET sounds at once when the turnaround guard is past (R133). -/
theorem lineCall_sounds {q : LineRequest} (hq : q = .call ∨ q = .poll) (hact : s.line.activity = some .quiet)
    (hguard : ∀ e, s.line.lastListenEnd = some e → e + 60000 ≤ s.now) (a : Activity) (code : Nat) :
    lineCall q a code s = s.onLine fun l =>
      { l with activity := some a, callCode := some code, lastRequest := some q, signal := .sounding s.now } := by
  have htakes : s.line.takes q = true := by
    rcases hq with rfl | rfl <;> simp [LineUnit.takes, hs, hact]
  rw [lineCall, if_pos htakes]
  unfold State.onLine LineUnit.beginSending
  cases he : s.line.lastListenEnd with
  | none => simp [he]
  | some e =>
    have : ¬s.now < e + guardTime := Nat.not_lt.2 (hguard e he)
    simp [he, this]

/-- A listen at the very end of a signal waits for the guard (R135). -/
theorem lineListen_guard (hact : s.line.activity = some .quiet) (hend : s.line.lastSignalEnd = some s.now) :
    lineListen s = s.onLine fun l =>
      { l with
        activity := some .listening, listenFor := some .dialConfirm, lastRequest := some .listen
        signal := .guardWait (s.now + 60000) } := by
  have htakes : s.line.takes .listen = true := by simp [LineUnit.takes, hs, hact]
  have hlt : s.now < s.now + guardTime := Nat.lt_add_of_pos_right (by decide)
  rw [lineListen, if_pos htakes]
  unfold State.onLine
  simp only [hend, hlt, if_true]
  rfl

end

/-! ## The commands -/

theorem boundaryDue_true {t : LineTimer} {f : Figures} {l : LineUnit} {now : Nat} (ht : l.timer = some t)
    (hf : l.figures = some f) (h : t.start + t.next * halfUp 60000000 f.speed ≤ now) : l.boundaryDue now = true := by
  simp only [LineUnit.boundaryDue, ht, hf]
  exact decide_eq_true h

theorem lineBoundary_picture {t : LineTimer} {f : Figures} (ht : s.line.timer = some t) (hf : s.line.figures = some f)
    (ha : s.line.activity = some .picture) : lineBoundary s = pictureBoundary f s := by
  simp [lineBoundary, ht, hf, ha]

theorem lastLineSent_true {x : SentLine} {f : Figures} {l : LineUnit} (hx : l.sent = some x) (hf : l.figures = some f)
    (hk : x.kind = .take) (hn : x.number = f.lines) : l.lastLineSent = true := by
  simp [LineUnit.lastLineSent, hx, hf, hk, hn]

theorem pictureBoundary_last {f : Figures} (h : s.line.lastLineSent = true) :
    pictureBoundary f s = endOfPictureReport (s.onLine (LineUnit.beginStopTone s.now)) := if_pos h

theorem soundedFor_iff {a : Activity} {t now b : Nat} {l : LineUnit} (ha : l.activity = some a)
    (hs : l.signal = .sounding b) : l.soundedFor a t now = true ↔ b + t ≤ now := by
  simp [LineUnit.soundedFor, ha, hs]

/-- The unit in QUIET, at the end of its stop tone (R145). -/
def State.quieted (s : State) : State :=
  s.onLine fun l => { l with activity := some .quiet, signal := .silent, lastSignalEnd := some s.now }

/-- STOP_TONE_END acts when the stop tone has lasted 3 s. -/
theorem execStopToneEnd_eq {b : Nat} (dt : Nat) (ha : s.line.activity = some .stopTone) (hb : s.line.signal = .sounding b) :
    exec (.stopToneEnd dt) s = .next
      (if b + 3000000 ≤ s.now + dt then stopToneEndedReport (advance dt s).quieted else advance dt s) := by
  have hiff := soundedFor_iff (t := sec 3) (now := s.now + dt) ha hb
  change Host.Outcome.next (if s.line.soundedFor .stopTone (sec 3) (s.now + dt) then _ else _) = _
  simp only [hiff]
  rfl

/-- Settles O50: the end of the picture, and the end of its stop tone. -/
theorem picturesEndAndAreConfirmed : Obligations.PicturesEndAndAreConfirmed := by
  intro dt s now l event table
  refine ⟨fun f t x r o hf ht ha hdue hx hk hn hr ho habort hstate => ?_, fun b ha hb => ?_⟩
  · have hexec : exec (.lineBoundary dt) s = .next (lineBoundary (advance dt s)) :=
      congrArg Host.Outcome.next (if_pos (boundaryDue_true ht hf hdue))
    have hlast : (advance dt s).line.lastLineSent = true := lastLineSent_true hx hf hk hn
    rw [hexec, lineBoundary_picture (s := advance dt s) ht hf ha, pictureBoundary_last hlast,
      endOfPictureReport_sending (s := (advance dt s).onLine _) hr ho habort hstate,
      enterState_some (s := (advance dt s).onLine _) ho]
    rfl
  · have hexec := execStopToneEnd_eq dt ha hb
    refine ⟨fun hearly => ?_, fun hdue hr => ?_, fun hdue hseized r o hr ho => ⟨fun habort => ?_, fun habort hstate => ?_⟩⟩
    · rw [hexec, if_neg (by omega)]
      rfl
    · rw [hexec, if_pos hdue, stopToneEndedReport_none (s := (advance dt s).quieted) hr]
      rfl
    · rw [hexec, if_pos hdue, stopToneEndedReport_aborted (s := (advance dt s).quieted) hr ho habort,
        onRun_some (s := (advance dt s).quieted) hr, lineRelease_seized]
      · rfl
      · exact hseized
    · intro confirming
      have hend := stopToneEndedReport_ending (s := (advance dt s).quieted) hr ho habort hstate
      have hconf := confirming_eq (s := (advance dt s).quieted) ho
      have hfound := confirming_found (s := (advance dt s).quieted) ho
      have hrun : ((advance dt s).quieted.confirming r.order).run = some r := by rw [hconf]; exact hr
      have hline : ((advance dt s).quieted.confirming r.order).line = (advance dt s).quieted.line := by rw [hconf]; rfl
      have hdir : ((advance dt s).quieted.confirming r.order).directory = s.directory := by rw [hconf]; rfl
      have hnow : ((advance dt s).quieted.confirming r.order).now = s.now + dt := by rw [hconf]; rfl
      have hs : ((advance dt s).quieted.confirming r.order).line.state = .seized := by rw [hline]; exact hseized
      have hact : ((advance dt s).quieted.confirming r.order).line.activity = some .quiet := by rw [hline]; rfl
      rw [if_pos hdue, hend] at hexec
      rw [hexec]
      refine ⟨fun hloop i d hi hd hb hguard => ?_, fun hloop hno => ?_, fun hdial => ?_⟩
      · have hpoll := pollNext_some hrun hfound (firstReady_some hi hd hb)
        rw [hloop]
        dsimp only
        rw [hpoll, stationAt_succ (by exact hi), callCodeOf_congr hdir,
          lineCall_sounds hs (.inr rfl) hact (by rw [hline, hnow]; exact hguard), hconf]
        rfl
      · have hpoll := pollNext_none hrun hfound (firstReady_none hno)
        rw [hloop]
        dsimp only
        rw [hpoll, lineRelease_seized hs, hconf]
        rfl
      · have hlast : ((advance dt s).quieted.confirming r.order).line.lastSignalEnd =
            some ((advance dt s).quieted.confirming r.order).now := by rw [hline, hnow]; rfl
        rw [hdial]
        dsimp only
        rw [lineListen_guard hs hact hlast, hconf]
        rfl

end

end Sys2Proof.Machine
end

section
/-! PROOF. The end of the clearing time ends the run (R131, R148, R171). -/

namespace Sys2Proof.Machine

section
variable {s : State} {r : RunRecord} {o : Order}

/-! ## The result of a run -/

/-- The run's result in the words of R164 and R165. -/
theorem runResult_eq (r : RunRecord) (o : Order) : runResult r o =
    match r.abort with
    | some .cancel => .cancelled
    | some .door => .doorOpen
    | some .stop => .stopped
    | some .drumFault => .drumFault
    | some .lampFault => .lampFault
    | some .carriageFault => .carriageFault
    | some .deferLimit => .prepTimeout
    | some .lineLoss => .lineLost
    | none =>
      if o.state = .preparing then .noStation
      else if ∀ d ∈ o.dests, d.result = .clean then .complete
      else .partialResult := by
  unfold runResult
  cases r.abort with
  | some c => cases c <;> rfl
  | none =>
    dsimp only
    unfold Order.normalResult
    simp only [List.all_eq_true, beq_iff_eq]

/-! ## What the end of a run gives back -/

theorem lampWithdraw_runReq (s : State) : (lampWithdraw .run s).lamp.runReq = false := by
  unfold lampWithdraw
  split
  · simp only [onLamp_lamp]
    split <;> rfl
  · simpa [Lamp.standing] using ‹¬s.lamp.standing .run = true›

theorem lampWithdraw_state (q : LampRequest) (s : State) : (lampWithdraw q s).lamp.state = s.lamp.state := by
  unfold lampWithdraw
  split
  · simp only [onLamp_lamp]
    split <;> cases q <;> rfl
  · rfl

/-- The run record, the store, the lamp request and the spin hold at a run's end, before its order finishes. -/
def State.runCleared (s : State) : State := startSpinHold (lampWithdraw .run (closeStore { s with run := none }))

theorem runCleared_keeps : s.runCleared.now = s.now ∧ s.runCleared.link = s.link ∧
    s.runCleared.settings = s.settings ∧ s.runCleared.clock = s.clock ∧ s.runCleared.manager = s.manager ∧
    s.runCleared.directory = s.directory ∧ s.runCleared.panel = s.panel ∧ s.runCleared.cal = s.cal ∧
    s.runCleared.carriage = s.carriage ∧ s.runCleared.scan = s.scan ∧ s.runCleared.line = s.line ∧
    s.runCleared.slips = s.slips ∧ s.runCleared.store = Store.closed ∧
    s.runCleared.drum = { s.drum with spinHoldTimer := some (s.now + sec s.settings.spinHold) } := by
  refine ⟨?_, ?_, ?_, ?_, ?_, ?_, ?_, ?_, ?_, ?_, ?_, ?_, ?_, ?_⟩ <;>
    simp [State.runCleared, closeStore, startSpinHold]

theorem runCleared_run : s.runCleared.run = none := by
  simp only [State.runCleared, startSpinHold_keeps]
  unfold lampWithdraw
  split <;> rfl

/-- A run ends under a HALTED manager with the slip queue full: its order finishes and stays (R25, R171). -/
theorem releasedReport_halted (hr : s.run = some r) (ho : s.findOrder r.order = some o)
    (hm : s.manager.state = .halted) (hmode : s.settings.slipMode = true) (hq : 8 ≤ s.slips.queue.length) :
    releasedReport s = placeNotice
      (orderNotice (Order.finish (runResult r o) s.todNow s.now o) (.entered .finished))
      (updateOrder r.order (Order.finish (runResult r o) s.todNow s.now) s.runCleared) := by
  obtain ⟨hnow, _, hset, hclock, hman, _, _, _, _, _, _, hslips, _, _⟩ := runCleared_keeps (s := s)
  have hfind : s.runCleared.findOrder r.order = some o := by
    rw [State.findOrder, hman]
    exact ho
  have htod : s.runCleared.todNow = s.todNow := by rw [State.todNow, hclock]; rfl
  have hfinish : finishOrder r.order (runResult r o) s.runCleared = placeNotice
      (orderNotice (Order.finish (runResult r o) s.todNow s.now o) (.entered .finished))
      (updateOrder r.order (Order.finish (runResult r o) s.todNow s.now) s.runCleared) := by
    rw [finishOrder_eq, hnow, htod]
    refine placeOrderEvent_some ?_ _
    exact findOrder_updateOrder _ (fun _ => rfl) hfind
  have hreport : releasedReport s = retire (select (finishOrder r.order (runResult r o) s.runCleared)) := by
    simp only [releasedReport, hr, ho]
    rfl
  rw [hreport, select_halted, retire_full, hfinish]
  · simpa [hset] using hmode
  · simpa [hslips] using hq
  · rw [finishOrder_manager]
    exact (congrArg Manager.state hman).trans hm

theorem releasedReport_none (hr : s.run = none) : releasedReport s = s := by
  simp [releasedReport, hr]

/-! ## RELEASE_CLEARED -/

/-- The line has come to IDLE and its LINE_EVENT RELEASE is placed (R131, R148). -/
def State.lineCleared (s : State) : State :=
  placeNotice (.line .release s.line.orderNumber s.line.network none (some s.line.releaseCause))
    (s.onLine LineUnit.idled)

theorem releaseCleared_report (h : s.line.releaseCause ≠ .restart) :
    releaseCleared s = releasedReport s.lineCleared := by
  simp only [releaseCleared, h, if_false]
  rfl

theorem due_iff {x : Option Nat} {now : Nat} : due x now = true ↔ ∃ e, x = some e ∧ e ≤ now := by
  cases x <;> simp [due]

/-- Settles O52: `releasedReport` after the line's notice. -/
theorem releasesEndTheRun : Obligations.ReleasesEndTheRun := by
  intro dt s now l idle cleared overdue
  have hdue : (advance dt s).line.state = .releasing ∧ due (advance dt s).line.releaseAt (advance dt s).now = true ↔
      overdue := and_congr_right fun _ => due_iff
  have hdone : overdue → l.releaseCause ≠ .restart →
      exec (.releaseCleared dt) s = .next (releasedReport (advance dt s).lineCleared) := fun h hc =>
    (congrArg Host.Outcome.next (if_pos (hdue.2 h))).trans
      (congrArg Host.Outcome.next (releaseCleared_report (s := advance dt s) hc))
  refine ⟨fun h => congrArg Host.Outcome.next (if_neg (mt hdue.1 h)), fun h hc hr => ?_,
    fun h hc r o hr ho hnum hm hmode hq => ?_⟩
  · rw [hdone h hc, releasedReport_none (s := (advance dt s).lineCleared) hr]
    rfl
  · intro result finished
    have hresult : result = runResult r o := (runResult_eq r o).symm
    have hfinished : finished = Order.finish (runResult r o) s.todNow now o := by
      rw [← hresult]
      rfl
    have hnumber : r.order = o.number := (findOrder_number ho).symm
    have hreport := releasedReport_halted (s := (advance dt s).lineCleared) hr ho hm hmode hq.ge
    have htable := map_updated_const hnum.1 (findOrder_mem ho) rfl (Order.finish (runResult r o) s.todNow now)
    obtain ⟨hnow, hlink, hset, _, hman, hdir, hpanel, hcal, hcar, hscan, hline, hslips, hstore, hdrum⟩ :=
      runCleared_keeps (s := (advance dt s).lineCleared)
    refine ⟨_, (hdone h hc).trans (congrArg Host.Outcome.next hreport), ?_, runCleared_run, hline, ?_,
      lampWithdraw_runReq _, lampWithdraw_state _ _, hdrum, hcar, hstore, hscan, hcal, hslips, hpanel, hset, hdir⟩
    · rw [hfinished, hnumber, ← htable]
      exact congrArg (fun m : Manager => { m with
        table := m.table.map fun x : Order =>
          if x.number = o.number then Order.finish (runResult r o) s.todNow now x else x }) hman
    · rw [hresult]
      exact congrArg₂ (fun k m => Link.place k (Notice.order o.number o.header.hostRef (.entered .finished)
        (some (runResult r o))) m) hnow hlink

end

end Sys2Proof.Machine
end

section
/-! PROOF. The slip unit: paper and rows (R180 to R185, R189). -/

namespace Sys2Proof.Machine

section
variable {s : State} {u : SlipUnit} {sl : Slip} {rest : List Slip} {resumed : Bool} {row : Nat}

/-! ## The start of a slip -/

/-- The printer when it has become free: the oldest slip's first row, or IDLE (R181, R183). -/
def SlipUnit.freed (now : Nat) (u : SlipUnit) : Printer :=
  if u.queue ≠ [] ∧ u.paper = .present then .printing false 0 now else .idle

theorem onSlips_idle (h : s.slips.printer = .idle) : s.onSlips (fun u => { u with printer := .idle }) = s := by
  have hkeep : ({ s.slips with printer := .idle } : SlipUnit) = s.slips := by rw [← h]
  exact congrArg (fun u => { s with slips := u }) hkeep

theorem startSlip_idle (h : s.slips.printer = .idle) :
    startSlip s = s.onSlips fun u => { u with printer := u.freed s.now } := by
  by_cases hnext : s.slips.queue ≠ [] ∧ s.slips.paper = .present
  · obtain ⟨sl, rest, hq⟩ := List.exists_cons_of_ne_nil hnext.1
    simp [startSlip, State.onSlips, SlipUnit.freed, h, hq, hnext.2]
  · have hstay : startSlip s = s := by
      unfold startSlip
      split
      · exact absurd ⟨by simp [*], by assumption⟩ hnext
      · rfl
    rw [hstay]
    exact (onSlips_idle h).symm.trans (congrArg (fun p => s.onSlips fun u => { u with printer := p }) (if_neg hnext).symm)

theorem printerFree_eq (s : State) : printerFree s = s.onSlips fun u => { u with printer := u.freed s.now } :=
  startSlip_idle rfl

theorem freed_code (now : Nat) (u : SlipUnit) :
    (u.freed now).code = if u.queue ≠ [] ∧ u.paper = .present then 1 else 0 := by
  unfold SlipUnit.freed
  split <;> rfl

/-! ## Rows and their times -/

theorem printedLines_length (sl : Slip) :
    sl.printedLines.length = sl.text.length + if sl.reprint then 1 else 0 := by
  unfold Slip.printedLines
  split <;> simp

theorem slipRows_eq (resumed : Bool) (sl : Slip) : slipRows resumed sl =
    (if resumed then 0 else 24) + 20 * (sl.text.length + if sl.reprint then 1 else 0) + 24 := by
  rw [← printedLines_length]
  rfl

/-- The rows before the first text line and after the last one are fed. -/
theorem slipRow_feed (h : row < leadRows resumed ∨ slipRows resumed sl ≤ row + 24) : slipRow resumed sl row = .feed := by
  unfold slipRow
  split
  · rfl
  · have hout : sl.printedLines.length ≤ (row - leadRows resumed) / 20 := by
      unfold slipRows at h
      omega
    rw [List.getElem?_eq_none hout]

theorem slipRow_dots (h : ¬(row < leadRows resumed ∨ slipRows resumed sl ≤ row + 24)) :
    ∃ line j, slipRow resumed sl row = .dots line j := by
  have hin : (row - leadRows resumed) / 20 < sl.printedLines.length := by
    unfold slipRows at h
    omega
  have hlead : ¬row < leadRows resumed := fun e => h (.inl e)
  refine ⟨sl.printedLines[(row - leadRows resumed) / 20], (row - leadRows resumed) % 20, ?_⟩
  simp [slipRow, hlead, List.getElem?_eq_getElem hin]

theorem rowEnded_feed (e : Nat) : rowEnded .feed e = true ↔ 1000 ≤ e := decide_eq_true_iff

/-- A dot row or a blank row of a text line takes 3 ms at least. -/
theorem rowEnded_dots_early {line : List Char} {j e : Nat} (h : e < 3000) : rowEnded (.dots line j) e = false := by
  have h3 : ¬ms 3 ≤ e := Nat.not_le.2 h
  have h7 : ¬ms 7 ≤ e := fun e7 => h3 (le_trans (by decide) e7)
  simp only [rowEnded]
  split <;> simp [h3, h7]

/-- 7 ms are enough for any row. -/
theorem rowEnded_late {k : RowKind} {e : Nat} (h : 7000 ≤ e) : rowEnded k e = true := by
  have h7 : ms 7 ≤ e := h
  have h3 : ms 3 ≤ e := le_trans (by decide) h7
  have h1 : ms 1 ≤ e := le_trans (by decide) h7
  cases k with
  | feed => simp [rowEnded, h1]
  | dots line j => simp [rowEnded, h3, h7]

/-! ## Paper -/

section
variable {left since : Nat}

theorem paperOut_printing (hp : u.printer = .printing resumed row since) (hq : u.queue = sl :: rest) : u.paperOut =
    { u with
      paper := .out, printer := .held
      queue := { sl with reprint := sl.reprint || dotRowPrinted resumed row } :: rest } := by
  simp [SlipUnit.paperOut, hp, hq]

theorem paperOut_recovery (hp : u.printer = .feeding .recovery left since) :
    u.paperOut = { u with paper := .out, printer := .held } := by
  simp [SlipUnit.paperOut, hp]

theorem paperOut_idle (hp : u.printer = .idle ∨ ∃ left since, u.printer = .feeding .host left since) :
    u.paperOut = { u with paper := .out, printer := .idle } := by
  rcases hp with hp | ⟨left, since, hp⟩
  · simp [SlipUnit.paperOut, hp]
  · simp [SlipUnit.paperOut, hp]

end

theorem paperReturns_held (h : s.slips.printer = .held) : paperReturns s =
    s.onSlips fun _ => { s.slips with paper := .present, printer := .feeding .recovery 12 s.now } := by
  simp [paperReturns, h, State.onSlips]

theorem paperReturns_idle (h : s.slips.printer = .idle) : paperReturns s = s.onSlips fun _ =>
    { s.slips with
      paper := .present, printer := ({ s.slips with paper := .present } : SlipUnit).freed s.now } := by
  have hs : paperReturns s = startSlip (s.onSlips fun u => { u with paper := .present }) := by
    simp [paperReturns, h]
  rw [hs, startSlip_idle (by exact h)]
  rfl

/-- A paper change with a slip HELD or PRINTING names it (R189). -/
theorem paperEvent_named {c : SlipCause} {n : Nat} (hn : u.queue.length = n) (h : u.concerned = some sl) :
    paperEvent c (s.onSlips fun _ => u) =
      placeNotice (.slip c sl.order sl.reprint u.printer.code u.paper n) (s.onSlips fun _ => u) := by
  subst hn
  simp [paperEvent, h, slipEvent]

theorem paperEvent_unnamed {c : SlipCause} {n : Nat} (hn : u.queue.length = n) (h : u.concerned = none) :
    paperEvent c (s.onSlips fun _ => u) =
      placeNotice (.slip c 0 false u.printer.code u.paper n) (s.onSlips fun _ => u) := by
  subst hn
  simp [paperEvent, h, slipEvent]

theorem concerned_held (hp : u.printer = .held) (hq : u.queue = sl :: rest) : u.concerned = some sl := by
  simp [SlipUnit.concerned, hp, hq]

theorem concerned_printing {since : Nat} (hp : u.printer = .printing resumed row since) (hq : u.queue = sl :: rest) :
    u.concerned = some sl := by
  simp [SlipUnit.concerned, hp, hq]

theorem execPaperOut_present {dt : Nat} (h : s.slips.paper = .present) :
    exec (.paperOut dt) s = .next (paperEvent .paperOut ((advance dt s).onSlips fun _ => s.slips.paperOut)) :=
  congrArg Host.Outcome.next (if_pos h)

theorem execPaperBack_out {dt : Nat} (h : s.slips.paper = .out) :
    exec (.paperBack dt) s = .next (paperEvent .paperBack (paperReturns (advance dt s))) :=
  congrArg Host.Outcome.next (if_pos h)

/-! ## Rows -/

theorem execRowStepEnd_due {dt : Nat} (h : s.slips.rowDue (s.now + dt) = true) :
    exec (.rowStepEnd dt) s = .next (rowStep (advance dt s)) := congrArg Host.Outcome.next (if_pos h)

theorem execRowStepEnd_early {dt : Nat} (h : ¬s.slips.rowDue (s.now + dt) = true) :
    exec (.rowStepEnd dt) s = .next (advance dt s) := congrArg Host.Outcome.next (if_neg h)

section
variable {now left since : Nat} {p : FeedPurpose}

theorem rowDue_feeding (hp : u.printer = .feeding p left since) : u.rowDue now = true ↔ since + 1000 ≤ now := by
  simp [SlipUnit.rowDue, hp, ms]

theorem rowDue_printing (hp : u.printer = .printing resumed row since) (hq : u.queue = sl :: rest) :
    u.rowDue now = rowEnded (slipRow resumed sl row) (now - since) := by
  simp [SlipUnit.rowDue, hp, hq]

theorem rowStep_feeding (hp : s.slips.printer = .feeding p left since) : rowStep s = fedRow p left s := by
  simp [rowStep, hp]

theorem rowStep_printing (hp : s.slips.printer = .printing resumed row since) (hq : s.slips.queue = sl :: rest) :
    rowStep s = printedRow resumed row sl s := by
  simp [rowStep, hp, hq]

end

theorem fedRow_more {p : FeedPurpose} {left : Nat} (h : 1 < left) :
    fedRow p left s = s.onSlips fun u => { u with printer := .feeding p (left - 1) s.now } := if_pos h

theorem rowDue_still (hp : u.printer = .idle ∨ u.printer = .held) (now : Nat) : u.rowDue now = false := by
  rcases hp with hp | hp <;> simp [SlipUnit.rowDue, hp]

/-- A printed slip leaves the queue, with its notice, and the next one begins (R183). -/
theorem slipPrinted_eq (h : ∀ o ∈ s.manager.table, o.state ≠ .finished) : slipPrinted sl s =
    (placeNotice (.slip .printed sl.order sl.reprint
        (({ s.slips with queue := s.slips.queue.tail, lastPrinted := some sl } : SlipUnit).freed s.now).code
        s.slips.paper s.slips.queue.tail.length) s).onSlips fun u =>
      { u with
        queue := u.queue.tail, lastPrinted := some sl
        printer := ({ u with queue := u.queue.tail, lastPrinted := some sl } : SlipUnit).freed s.now } := by
  unfold slipPrinted
  rw [retire_noneFinished (by exact h)]
  unfold printedEvent
  rw [printerFree_eq, printerFree_eq]
  rfl

/-- Settles O53: the printer state by state. -/
theorem paperAndRowsMoveTheSlips : Obligations.PaperAndRowsMoveTheSlips := by
  intro dt s now u passes feed rows next
  refine ⟨fun hpres => ⟨fun resumed row since sl rest hp hq => ?_, fun left since sl rest hp hq => ?_, fun hp => ?_, ?_⟩,
    fun hout => ⟨?_, fun hp => ?_, fun hp hq => ?_, fun sl rest hp hq => ?_⟩, fun hp => ?_,
    fun p left since hp => ⟨fun hearly => ?_, fun hdue hleft => ?_, fun hdue hleft hpur => ?_, fun hdue hleft hpur => ?_⟩,
    fun resumed row since sl rest hp hq => ?_⟩
  · rw [execPaperOut_present hpres, paperOut_printing hp hq, paperEvent_named rfl (concerned_held rfl rfl)]
    rfl
  · rw [execPaperOut_present hpres, paperOut_recovery hp, paperEvent_named (n := rest.length + 1) (sl := sl)]
    · rfl
    · exact congrArg List.length hq
    · exact concerned_held rfl hq
  · rw [execPaperOut_present hpres, paperOut_idle hp, paperEvent_unnamed rfl rfl]
    rfl
  · exact congrArg Host.Outcome.next (if_neg (by rw [advance_slips, hpres]; decide))
  · exact congrArg Host.Outcome.next (if_neg (by rw [advance_slips, hout]; decide))
  · rw [execPaperBack_out hout, paperReturns_held (s := advance dt s) hp, paperEvent_unnamed rfl rfl]
    rfl
  · have hfree : ({ u with paper := .present } : SlipUnit).freed now = .idle := if_neg fun e => e.1 hq
    rw [execPaperBack_out hout, paperReturns_idle (s := advance dt s) hp]
    simp only [advance_slips, advance_now]
    rw [hfree, paperEvent_unnamed (n := 0), hp]
    · rfl
    · exact congrArg List.length hq
    · rfl
  · have hfree : ({ u with paper := .present } : SlipUnit).freed now = .printing false 0 now :=
      if_pos ⟨by rw [hq]; simp, rfl⟩
    rw [execPaperBack_out hout, paperReturns_idle (s := advance dt s) hp]
    simp only [advance_slips, advance_now]
    rw [hfree, paperEvent_named (n := rest.length + 1) (sl := sl)]
    · rfl
    · exact congrArg List.length hq
    · exact concerned_printing rfl hq
  · exact execRowStepEnd_early (by rw [rowDue_still hp]; decide)
  · exact execRowStepEnd_early (by rw [rowDue_feeding hp]; omega)
  · rw [execRowStepEnd_due ((rowDue_feeding hp).2 hdue), rowStep_feeding (s := advance dt s) hp, fedRow_more hleft]
    rfl
  · rw [execRowStepEnd_due ((rowDue_feeding hp).2 hdue), rowStep_feeding (s := advance dt s) hp, hleft, hpur]
    rfl
  · rw [execRowStepEnd_due ((rowDue_feeding hp).2 hdue), rowStep_feeding (s := advance dt s) hp, hleft, hpur]
    exact congrArg Host.Outcome.next (printerFree_eq (advance dt s))
  · intro fed
    have hrows : rows resumed sl = slipRows resumed sl := (slipRows_eq resumed sl).symm
    have hfed : fed ↔ row < leadRows resumed ∨ slipRows resumed sl ≤ row + 24 := by rw [← hrows]; rfl
    have hdue := rowDue_printing (now := now) hp hq
    have hfeedDue : fed → since + 1000 ≤ now → s.slips.rowDue now = true := fun hf ht => by
      rw [hdue, slipRow_feed (hfed.1 hf), rowEnded_feed]
      omega
    refine ⟨fun hearly => execRowStepEnd_early ?_, fun hlate hmore => ?_, fun ht hlast hnone => ?_⟩
    · rw [hdue]
      by_cases hf : fed
      · rw [slipRow_feed (hfed.1 hf), rowEnded_feed]
        omega
      · obtain ⟨line, j, hdots⟩ := slipRow_dots (mt hfed.2 hf)
        rw [hdots, rowEnded_dots_early (by omega)]
        decide
    · have hd : s.slips.rowDue now = true := by
        rcases hlate with h7 | ⟨hf, h1⟩
        · rw [hdue, rowEnded_late (by omega)]
        · exact hfeedDue hf h1
      have hrow : row + 1 < slipRows resumed sl := hrows ▸ hmore
      rw [execRowStepEnd_due hd, rowStep_printing (s := advance dt s) hp hq, printedRow, if_pos hrow]
      rfl
    · have hd := hfeedDue (.inr (by omega)) ht
      have hrow : ¬row + 1 < slipRows resumed sl := by omega
      rw [execRowStepEnd_due hd, rowStep_printing (s := advance dt s) hp hq, printedRow, if_neg hrow,
        slipPrinted_eq (s := advance dt s) hnone]
      have htail : s.slips.queue.tail = rest := by rw [show s.slips.queue = sl :: rest from hq]; rfl
      simp only [advance_slips, advance_now, htail, freed_code, State.onSlips, placeNotice_keeps]
      rfl

end

end Sys2Proof.Machine
end

section
/-! PROOF. The slip of a cancelled order in the words of R176 to R179. -/

namespace Sys2Proof.Machine

section
variable {s : State} {o : Order} {now : Nat}

/-! ## Lines -/

theorem dateLine_eq (c : Option Clock) (ended : Option Nat) : dateLine c ended =
    (match c with
      | some c => c.date ++ [if c.stale then '*' else ' ']
      | none => "---------- ".toList) ++ ' ' :: timeText ended := by
  unfold dateLine
  rw [List.append_assoc]
  rfl

theorem destLine_eq (name : List Char) (r : DestResult) : destLine name r = padTo 12 name ++ ' ' :: r.name := by
  unfold destLine
  rw [List.append_assoc]
  rfl

theorem captionLines_eq (c : List Char) : captionLines c =
    [c.take 24, (c.drop 24).take 24, c.drop 48].filter (· ≠ []) := by
  unfold captionLines
  refine List.filter_congr fun t _ => ?_
  cases t <;> simp

theorem pairLine_eq (a b : List Char) : pairLine a b =
    if a.length + 1 + b.length ≤ 24 then [a ++ ' ' :: b] else [a, b] := by
  have hlen : (a ++ [' '] ++ b).length = a.length + 1 + b.length := by
    simp only [List.length_append, List.length_cons, List.length_nil]
  unfold pairLine
  rw [hlen, List.append_assoc]
  rfl

/-- The value of a duration that has stopped (R24). -/
def Span.fixed : Span → Nat
  | .ended k => k
  | _ => 0

/-- A duration that has stopped reads the same at any time. -/
theorem Span.value_stop (t : Nat) (d : Span) : (d.stop t).value now = (d.stop t).fixed := by
  cases d <;> rfl

/-- A query line, its reason's name with the space before it (R179). -/
def QueryMark.line (m : QueryMark) : List Char :=
  "Q ".toList ++ timeText m.tod ++
    (match m.reason with | .hostTimeout => " HOST_TIMEOUT".toList | .operator => " OPERATOR".toList)

theorem queryLine_eq (m : QueryMark) : "Q ".toList ++ timeText m.tod ++ [' '] ++ m.reason.name = m.line := by
  unfold QueryMark.line
  rw [List.append_assoc]
  cases m.reason <;> rfl

/-- The lines of a slip one after the other (R175 to R179). -/
theorem slipText_eq (o : Order) (s : State) : slipText o s =
    [headingLine s.settings.name o.number, dateLine s.clock o.ended, (o.result.map OrderResult.name).getD []]
      ++ captionLines o.caption
      ++ o.dests.map (fun d => destLine (s.stationName d.station) d.result)
      ++ ["LINES ".toList ++ decimal o.counts.sent ++ ['/'] ++ decimal o.lines]
      ++ pairLine ("REPEATS ".toList ++ decimal o.counts.repeats) ("RESCANS ".toList ++ decimal o.counts.rescans)
      ++ pairLine ("FLAGGED ".toList ++ decimal o.counts.flagged) ("EXTRA ".toList ++ decimal o.counts.extra)
      ++ pairLine ("QUEUE ".toList ++ tenthsText (o.queue.value s.now))
          ("PREP ".toList ++ tenthsText (o.prepare.value s.now) ++ " (".toList ++ tenthsText (o.defer.value s.now) ++ [')'])
      ++ pairLine ("PICT ".toList ++ tenthsText (o.picture.value s.now))
          ("CONF ".toList ++ tenthsText (o.confirm.value s.now))
      ++ o.marks.map (fun m => "Q ".toList ++ timeText m.tod ++ [' '] ++ m.reason.name)
      ++ (if o.marks.length < o.queryCount then ["QUERIES ".toList ++ decimal o.queryCount] else [])
      ++ ["END".toList] := by
  simp only [slipText, countLines, queryLines, List.append_assoc]

/-- The slip of a cancelled order in the words of R176 to R179, `o` being the order before and `s` the state. -/
def cancelText (tod : Option Nat) (now : Nat) (o : Order) (s : State) : List (List Char) :=
  [padTo 12 s.settings.name ++ " NO ".toList ++ decimal o.number,
    (match s.clock with
      | some c => c.date ++ [if c.stale then '*' else ' ']
      | none => "---------- ".toList) ++ ' ' :: timeText tod,
    "CANCELLED".toList]
    ++ [o.caption.take 24, (o.caption.drop 24).take 24, o.caption.drop 48].filter (· ≠ [])
    ++ (notCalled o.dests).map (fun d => padTo 12 (s.stationName d.station) ++ ' ' :: d.result.name)
    ++ ["LINES ".toList ++ decimal o.counts.sent ++ '/' :: decimal o.lines]
    ++ pairLine ("REPEATS ".toList ++ decimal o.counts.repeats) ("RESCANS ".toList ++ decimal o.counts.rescans)
    ++ pairLine ("FLAGGED ".toList ++ decimal o.counts.flagged) ("EXTRA ".toList ++ decimal o.counts.extra)
    ++ pairLine ("QUEUE ".toList ++ tenthsText (o.queue.stop now).fixed)
        ("PREP ".toList ++ tenthsText (o.prepare.stop now).fixed ++ " (".toList
          ++ tenthsText (o.defer.stop now).fixed ++ [')'])
    ++ pairLine ("PICT ".toList ++ tenthsText (o.picture.stop now).fixed)
        ("CONF ".toList ++ tenthsText (o.confirm.stop now).fixed)
    ++ o.marks.map QueryMark.line
    ++ (if o.marks.length < o.queryCount then ["QUERIES ".toList ++ decimal o.queryCount] else [])
    ++ ["END".toList]

/-- The slip text of an order finished CANCELLED. -/
theorem slipText_cancelled (tod : Option Nat) (now : Nat) (o : Order) (s : State) :
    slipText (Order.finish .cancelled tod now o) s = cancelText tod now o s := by
  have hdest : (fun d : Dest => destLine (s.stationName d.station) d.result) = fun d =>
      padTo 12 (s.stationName d.station) ++ ' ' :: d.result.name := funext fun d => destLine_eq _ _
  have hlines : "LINES ".toList ++ decimal o.counts.sent ++ ['/'] ++ decimal o.lines =
      "LINES ".toList ++ decimal o.counts.sent ++ '/' :: decimal o.lines := by
    rw [List.append_assoc]
    rfl
  have hmarks : (fun m : QueryMark => "Q ".toList ++ timeText m.tod ++ [' '] ++ m.reason.name) = QueryMark.line :=
    funext queryLine_eq
  rw [slipText_eq, captionLines_eq, dateLine_eq, hdest, hmarks]
  simp only [Order.finish, Span.value_stop, hlines]
  rfl

end

end Sys2Proof.Machine
end

section
/-! PROOF. ORDER_CANCEL of a QUEUED order (R21), its retirement (R25) and the pre-warm request it withdraws (R12). -/

namespace Sys2Proof.Machine

section
variable {s t u : State} {o q : Order} {dt n : Nat} {r : Request}

/-! ## Retirement of one order -/

theorem retireUpTo_noneFinished (h : ∀ x ∈ s.manager.table, x.state ≠ .finished) (fuel : Nat) :
    retireUpTo fuel s = s := by
  have hf : s.oldestFinished = none := List.find?_eq_none.2 fun x hx => by simp [h x hx]
  cases fuel <;> simp [retireUpTo, hf]

/-- The one FINISHED order leaves: no other retires after it. -/
theorem retireUpTo_left (hrest : ∀ x ∈ t.manager.table, x.state = .finished → x.number = q.number) (fuel : Nat) :
    retireUpTo fuel (leaveTable q t) = leaveTable q t := by
  refine retireUpTo_noneFinished (fun x hx hf => ?_) fuel
  have hx' : x ∈ t.manager.table.filter (fun y => y.number != q.number) := by
    simpa [leaveTable, removeOrder] using hx
  obtain ⟨hmem, hne⟩ := List.mem_filter.1 hx'
  exact absurd (hrest x hmem hf) (by simpa using hne)

section
variable (hq : s.oldestFinished = some q) (hrest : ∀ x ∈ s.manager.table, x.state = .finished → x.number = q.number)
include hq hrest

theorem retire_one_off (hoff : s.settings.slipMode = false) : retire s = leaveTable q s := by
  have hpos : 0 < s.manager.table.length := List.length_pos_of_mem (List.mem_of_find?_eq_some hq)
  obtain ⟨fuel, hfuel⟩ := Nat.exists_eq_add_of_lt hpos
  rw [retire, hfuel]
  simp only [retireUpTo, hq, hoff, Bool.false_eq_true, if_false]
  exact retireUpTo_left hrest _

theorem retire_one_slip (hon : s.settings.slipMode = true) (hroom : s.slips.queue.length < 8) :
    retire s = leaveTable q (joinSlip (composeSlip q s) s) := by
  have hpos : 0 < s.manager.table.length := List.length_pos_of_mem (List.mem_of_find?_eq_some hq)
  obtain ⟨fuel, hfuel⟩ := Nat.exists_eq_add_of_lt hpos
  rw [retire, hfuel]
  simp only [retireUpTo, hq, hon, hroom, if_true]
  exact retireUpTo_left (by simpa using hrest) _

end

theorem startSlip_busy (h : s.slips.printer ≠ .idle) : startSlip s = s := by
  unfold startSlip
  split
  · exact absurd ‹_› h
  · rfl

/-- A slip joins the newest end, and printing begins when the printer is IDLE with paper (R174, R181). -/
theorem joinSlip_eq (sl : Slip) (s : State) : joinSlip sl s = s.onSlips fun u =>
    { u with
      queue := u.queue ++ [sl]
      printer := if u.printer = .idle ∧ u.paper = .present then .printing false 0 s.now else u.printer } := by
  unfold joinSlip
  by_cases h : s.slips.printer = .idle
  · rw [startSlip_idle (by exact h)]
    simp [State.onSlips, SlipUnit.freed, h]
  · rw [startSlip_busy (by exact h)]
    simp [State.onSlips, h]

/-! ## The pre-warm request of the last order that waits -/

/-- The lamp's only request is withdrawn: the lamp-idle timer starts (R12, R86). -/
theorem updatePrewarm_withdraws (hw : s.prewarmWanted = false) (hp : s.lamp.prewarm = true)
    (hr : s.lamp.runReq = false) (hc : s.lamp.calReq = false) (hl : s.lamp.state ≠ .off) :
    updatePrewarm s = s.onLamp fun l =>
      { l with prewarm := false, idleTimer := some (s.now + sec s.settings.lampIdle) } := by
  simp [updatePrewarm, hw, lampWithdraw, Lamp.standing, hp, State.onLamp, Lamp.setRequest, Lamp.lit, Lamp.wanted, hr, hc, hl]

/-! ## ORDER_CANCEL, case by case -/

section
variable {p : List Byte}

theorem serveOrderCancel_notFound (h : s.findOrder (wordAt p 0) = none) :
    serveOrderCancel p s = (.refused .notFound (wordAt p 0), s) := by
  simp [serveOrderCancel, h]

theorem serveOrderCancel_state (h : s.findOrder (wordAt p 0) = some o)
    (hs : o.state = .assembling ∨ o.state = .ending ∨ o.state = .confirming ∨ o.state = .finished) :
    serveOrderCancel p s = (.refused .state (wordAt p 0), s) := by
  rcases hs with hs | hs | hs | hs <;> simp [serveOrderCancel, h, hs]

theorem serveOrderCancel_queued (h : s.findOrder (wordAt p 0) = some o) (hs : o.state = .queued) :
    serveOrderCancel p s = (.ok [], retire (updatePrewarm (finishOrder (wordAt p 0) .cancelled s))) := by
  simp [serveOrderCancel, h, hs]

end

/-- The state with order `n` FINISHED at the moment `now`, and its ORDER_EVENT queued. -/
def State.cancelled (n : Nat) (o : Order) (now : Nat) (s : State) : State :=
  (updateOrder n (Order.finish .cancelled s.todNow now) s).noticed
    (.order n o.header.hostRef (.entered .finished) (some .cancelled))

theorem finishOrder_serving (hslot : s.link.replySlot = none) (h : s.findOrder n = some o) :
    finishOrder n .cancelled (s.serving dt r) = (s.cancelled n o (s.now + dt)).serving dt r := by
  have hn := findOrder_number h
  have hfind : (updateOrder n (Order.finish .cancelled s.todNow (s.now + dt)) (s.serving dt r)).findOrder n =
      some (Order.finish .cancelled s.todNow (s.now + dt) o) := findOrder_updateOrder _ (fun _ => rfl) h
  rw [finishOrder_eq]
  refine (placeOrderEvent_some hfind _).trans ?_
  refine (placeNotice_serving (u := updateOrder n (Order.finish .cancelled s.todNow (s.now + dt)) s) hslot _).trans ?_
  subst hn
  rfl

section
variable {now : Nat} (hd : (s.manager.table.map Order.number).Nodup) (ho : o ∈ s.manager.table) (hn : o.number = n)
include hd ho hn

theorem mem_cancelled {x : Order} : x ∈ (s.cancelled n o now).manager.table ↔
    x = Order.finish .cancelled s.todNow now o ∨ x ∈ s.manager.table ∧ x.number ≠ n := by
  subst hn
  exact mem_updated hd ho

/-- With no other order FINISHED, the cancelled order is the one that may retire. -/
theorem oldestFinished_cancelled (h : ∀ x ∈ s.manager.table, x.state ≠ .finished) :
    (s.cancelled n o now).oldestFinished = some (Order.finish .cancelled s.todNow now o) ∧
      ∀ x ∈ (s.cancelled n o now).manager.table, x.state = .finished → x.number = n := by
  have honly : ∀ x ∈ (s.cancelled n o now).manager.table, x.state = .finished →
      x = Order.finish .cancelled s.todNow now o := fun x hx hf =>
    ((mem_cancelled hd ho hn).1 hx).resolve_right fun hx => h x hx.1 hf
  refine ⟨?_, fun x hx hf => by rw [honly x hx hf]; exact hn⟩
  cases hfind : (s.cancelled n o now).oldestFinished with
  | none =>
    have := List.find?_eq_none.1 hfind _ ((mem_cancelled hd ho hn).2 (.inl rfl))
    simp [Order.finish] at this
  | some x =>
    have hx : x.state = .finished := by simpa using List.find?_some hfind
    rw [honly x (List.mem_of_find?_eq_some hfind) hx]

omit hd ho in
/-- Once it has left, the table is the one before without it. -/
theorem leaveTable_cancelled (hslot : s.link.replySlot = none) :
    leaveTable (Order.finish .cancelled s.todNow now o) ((s.cancelled n o now).serving dt r) =
      (((removeOrder n s).noticed (.order n o.header.hostRef (.entered .finished) (some .cancelled))).noticed
        (.order n o.header.hostRef .retired none)).serving dt r := by
  subst hn
  have hgone := removeOrder_updateOrder (n := o.number) (f := Order.finish .cancelled s.todNow now) (fun _ => rfl) s
  have hslot' : (removeOrder o.number (s.cancelled o.number o now)).link.replySlot = none :=
    (Link.enqueue_replySlot _ _).trans hslot
  refine (placeNotice_serving hslot' _).trans ?_
  exact congrArg (fun v => ((State.noticed _ v).noticed _).serving dt r) hgone

end

/-- A slip has joined the queue at the moment `now`. -/
def State.slipJoined (sl : Slip) (now : Nat) (s : State) : State := s.onSlips fun u =>
  { u with
    queue := u.queue ++ [sl]
    printer := if u.printer = .idle ∧ u.paper = .present then .printing false 0 now else u.printer }

theorem joinSlip_serving (sl : Slip) : joinSlip sl (u.serving dt r) = (u.slipJoined sl (u.now + dt)).serving dt r :=
  joinSlip_eq sl _

/-- The two notices of a cancelled order that retires at once. -/
def State.cancelNoticed (n : Nat) (o : Order) (s : State) : State :=
  (s.noticed (.order n o.header.hostRef (.entered .finished) (some .cancelled))).noticed
    (.order n o.header.hostRef .retired none)

theorem cancelNoticed_link : (s.cancelNoticed n o).link.tx = s.link.tx ∧
    (s.cancelNoticed n o).link.replySlot = s.link.replySlot := by
  simp [State.cancelNoticed, State.noticed]

section
variable (hf : s.link.replySlot = none) (hd : (s.manager.table.map Order.number).Nodup) (ho : o ∈ s.manager.table)
  (hn : o.number = n) (hnone : ∀ x ∈ s.manager.table, x.state ≠ .finished)
include hf hd ho hn hnone

/-- A cancelled order retires without a slip (R25). -/
theorem retire_cancelled_off (hoff : s.settings.slipMode = false) :
    retire ((s.cancelled n o (s.now + dt)).serving dt r) = ((removeOrder n s).cancelNoticed n o).serving dt r := by
  obtain ⟨hold, hrest⟩ := oldestFinished_cancelled (now := s.now + dt) hd ho hn hnone
  rw [retire_one_off (s := (s.cancelled n o (s.now + dt)).serving dt r) hold (hn ▸ hrest) hoff]
  exact leaveTable_cancelled hn hf

/-- A cancelled order retires with its slip (R25, R175). -/
theorem retire_cancelled_slip (hon : s.settings.slipMode = true) (hroom : s.slips.queue.length < 8) {sl : Slip}
    (hslip : composeSlip (Order.finish .cancelled s.todNow (s.now + dt) o)
      ((s.cancelled n o (s.now + dt)).serving dt r) = sl) :
    retire ((s.cancelled n o (s.now + dt)).serving dt r) =
      ((removeOrder n (s.slipJoined sl (s.now + dt))).cancelNoticed n o).serving dt r := by
  obtain ⟨hold, hrest⟩ := oldestFinished_cancelled (now := s.now + dt) hd ho hn hnone
  rw [retire_one_slip (s := (s.cancelled n o (s.now + dt)).serving dt r) hold (hn ▸ hrest) hon hroom, hslip,
    joinSlip_serving]
  exact leaveTable_cancelled (s := s.slipJoined sl (s.now + dt)) hn hf

end

/-- With the cancelled order the only one that waited on the mount, the pre-warm request is wanted no more. -/
theorem prewarmWanted_cancelled {now : Nat} (hd : (s.manager.table.map Order.number).Nodup) (ho : o ∈ s.manager.table)
    (hn : o.number = n)
    (hlone : ∀ x ∈ s.manager.table, x.state = .queued → x.mount = s.panel.mountCounter → x.number = n) :
    (s.cancelled n o now).prewarmWanted = false := by
  refine Bool.eq_false_iff.2 fun hw => ?_
  obtain ⟨_, x, hx, hq, hM⟩ := prewarmWanted_iff.1 hw
  rcases (mem_cancelled hd ho hn).1 hx with rfl | ⟨hmem, hne⟩
  · simp [Order.finish] at hq
  · exact hne (hlone x hmem hq hM)

/-- Settles O27: the cases of `serveOrderCancel`, and of the retirement that follows. -/
theorem queuedOrderIsCancelled : Obligations.QueuedOrderIsCancelled := by
  intro dt tag p s hf hnum hp unmounted n cancel r stop finished event digit decimal' tenths time pad pair fixed text
  have hserve : ∀ (a : Reply) (u : State), u.link.tx = s.link.tx → u.link.replySlot = s.link.replySlot →
      serveOrderCancel p (s.serving dt r) = (a, u.serving dt r) → cancel = .next (u.answered dt r a) := by
    intro a u htx hslot he
    exact exec_request (i := .orderCancel dt tag p) rfl hf (by simp [hp]) rfl (by simp [lengthAgrees, hp]) a u htx
      hslot (congrArg answered he)
  have hstop : stop = Span.stop (s.now + dt) := funext fun d => by cases d <;> rfl
  have hfinished : finished = Order.finish .cancelled s.todNow (s.now + dt) := by
    simp only [finished, hstop]
    rfl
  have hqueued : ∀ o ∈ s.manager.table, o.number = n → o.state = .queued → ∀ u : State,
      u.link.tx = s.link.tx → u.link.replySlot = s.link.replySlot →
      retire (updatePrewarm ((s.cancelled n o (s.now + dt)).serving dt r)) = u.serving dt r →
      cancel = .next (u.answered dt r (.ok [])) := by
    intro o ho hn hs u htx hslot he
    have hfind := findOrder_of_mem hnum.1 ho hn
    refine hserve _ u htx hslot ((serveOrderCancel_queued (s := s.serving dt r) hfind hs).trans ?_)
    rw [finishOrder_serving hf.slot hfind, he]
  refine ⟨fun hno => ?_, fun o ho hn hs => ?_, fun o ho hn hs hun hmode hq => ?_, fun o ho hn hs hun hmode hnone => ?_,
    fun o ho hn hs hun hmode hroom hnone => ?_, fun o ho hn hs hmode hq hpres hlone hpre hrun hcal hlamp => ?_⟩
  · exact hserve _ s rfl rfl (serveOrderCancel_notFound (findOrder_eq_none.2 hno))
  · exact hserve _ s rfl rfl (serveOrderCancel_state (findOrder_of_mem hnum.1 ho hn) hs)
  · rw [hfinished]
    refine hqueued o ho hn hs (s.cancelled n o (s.now + dt)) (Link.enqueue_tx _ _) (Link.enqueue_replySlot _ _) ?_
    rw [updatePrewarm_unmounted (by exact hun.1) (by exact hun.2)]
    exact retire_full hmode hq.ge
  · refine hqueued o ho hn hs ((removeOrder n s).cancelNoticed n o) cancelNoticed_link.1 cancelNoticed_link.2 ?_
    rw [updatePrewarm_unmounted (by exact hun.1) (by exact hun.2)]
    exact retire_cancelled_off hf.slot hnum.1 ho hn hnone hmode
  · have hslip : composeSlip (Order.finish .cancelled s.todNow (s.now + dt) o)
        ((s.cancelled n o (s.now + dt)).serving dt r) = ⟨n, text o, false⟩ := by
      have htext : slipText (Order.finish .cancelled s.todNow (s.now + dt) o)
          ((s.cancelled n o (s.now + dt)).serving dt r) = text o := by
        rw [slipText_cancelled, cancelText, hn]
        simp only [pairLine_eq]
        rfl
      rw [composeSlip, htext]
      exact congrArg (fun k => Slip.mk k (text o) false) hn
    refine hqueued o ho hn hs ((removeOrder n (s.slipJoined ⟨n, text o, false⟩ (s.now + dt))).cancelNoticed n o)
      cancelNoticed_link.1 cancelNoticed_link.2 ?_
    rw [updatePrewarm_unmounted (by exact hun.1) (by exact hun.2)]
    exact retire_cancelled_slip hf.slot hnum.1 ho hn hnone hmode hroom hslip
  · rw [hfinished]
    refine hqueued o ho hn hs ((s.cancelled n o (s.now + dt)).onLamp fun l =>
      { l with prewarm := false, idleTimer := some (s.now + dt + sec s.settings.lampIdle) }) (Link.enqueue_tx _ _)
      (Link.enqueue_replySlot _ _) ?_
    have hw : ((s.cancelled n o (s.now + dt)).serving dt r).prewarmWanted = false :=
      prewarmWanted_cancelled hnum.1 ho hn hlone
    rw [updatePrewarm_withdraws hw hpre hrun hcal hlamp]
    exact retire_full hmode hq.ge

end

end Sys2Proof.Machine
end

section
/-! PROOF. The first abort cause of a run, with the line actions it makes (R157, R158, R165, R166). -/

namespace Sys2Proof.Machine

section
variable {s : State} {r : RunRecord} {o : Order} {c : AbortCause} {a : LineAction}

/-! ## The first cause -/

/-- A run with its first cause taken: its record, its order's READY destinations and its closed store (R165). -/
def State.aborted (c : AbortCause) (a : LineAction) (r : RunRecord) (s : State) : State :=
  { s with
    run := some { r with abort := some c, deferTimer := none, action := a }
    manager :=
      { s.manager with
        table := s.manager.table.map fun x =>
          if x.number = r.order then
            { x with dests := x.dests.map fun d => if d.result = .ready then { d with result := .aborted } else d }
          else x }
    store := Store.closed }

/-- In SENDING the trim request becomes NONE (R54, R165). -/
def State.untrimmed (o : Order) (s : State) : State := if o.state = .sending then trimOff s else s

theorem abortDests_eq (h : c ≠ .lineLoss) (ds : List Dest) : abortDests c ds =
    ds.map fun d => if d.result = .ready then { d with result := .aborted } else d := by
  unfold abortDests
  simp only [h, if_false]

section
variable (hr : s.run = some r) (ho : s.findOrder r.order = some o) (habort : r.abort = none)
  (hscan : r.scanStarted = false ∨ r.scanComplete = true) (hc : c ≠ .lineLoss) (hacts : c.actsIn o.state = true)
include hr ho habort hscan hc hacts

/-- The first cause, with no scan in progress, is taken and makes its line action. -/
theorem runAbort_first (ha : c.action o.state (r.rollEnded && o.anyReady) = a) :
    runAbort c s = makeLineAction a ((s.aborted c a r).untrimmed o) := by
  subst ha
  have hn := findOrder_number ho
  have hstop : (r.scanStarted && !r.scanComplete) = false := by
    rcases hscan with h | h <;> simp [h]
  have hfirst : runAbort c s = firstAbort c r o s := by
    simp [runAbort, hr, ho, habort, hacts]
  have hstate : closeStore (updateOrder o.number (fun o => { o with dests := abortDests c o.dests })
      (s.onRun fun r' =>
        { r' with abort := some c, deferTimer := none, action := c.action o.state (r.rollEnded && o.anyReady) })) =
      s.aborted c (c.action o.state (r.rollEnded && o.anyReady)) r := by
    rw [onRun_some hr, hn]
    simp only [abortDests_eq hc]
    rfl
  rw [hfirst, firstAbort]
  simp only [hstop, Bool.false_eq_true, if_false, hstate]
  rfl

end

/-! ## Line actions -/

/-- The unit released by a request (R131). -/
def LineUnit.letGo (now : Nat) (l : LineUnit) : LineUnit := { l with lastRequest := some .release }.released .request now

/-- The unit in its stop tone, asked for by a STOP_TONE (R145, R146). -/
def LineUnit.toneOn (now : Nat) (l : LineUnit) : LineUnit := { l.beginStopTone now with lastRequest := some .stopTone }

theorem makeLineAction_release (hs : s.line.state = .seized) :
    makeLineAction .release s = s.onLine (LineUnit.letGo s.now) := lineRelease_seized hs

theorem makeLineAction_stopTone (h : s.line.takes .stopTone = true) : makeLineAction .stopTone s = lineStopTone s := by
  simp [makeLineAction, h]

/-- A signal of the picture is sounding (R146). -/
def LineUnit.picturing (l : LineUnit) : Prop :=
  (l.activity = some .startTone ∨ l.activity = some .phasing ∨ l.activity = some .picture)
    ∧ ∃ since, l.signal = .sounding since

/-- A signal of the picture is cut off, and the stop tone begins at once. -/
theorem makeLineAction_sounding (hs : s.line.state = .seized) (hp : s.line.picturing) :
    makeLineAction .stopTone s = s.onLine (LineUnit.toneOn s.now) := by
  obtain ⟨ha, since, hsig⟩ := hp
  have htakes : s.line.takes .stopTone = true := by
    rcases ha with ha | ha | ha <;> simp [LineUnit.takes, hs, ha]
  rw [makeLineAction_stopTone htakes]
  unfold lineStopTone State.onLine
  rcases ha with ha | ha | ha <;> simp [htakes, ha, hsig] <;> rfl

/-- While HOLDING in silence with the guard past, the stop tone begins at once. -/
theorem makeLineAction_holding (hs : s.line.state = .seized) (ha : s.line.activity = some .holding)
    (hsig : s.line.signal = .silent) (htimer : s.line.timer = none) (hsent : s.line.sent = none)
    (hguard : ∀ e, s.line.lastListenEnd = some e → e + 60000 ≤ s.now) :
    makeLineAction .stopTone s = s.onLine (LineUnit.toneOn s.now) := by
  have htakes : s.line.takes .stopTone = true := by simp [LineUnit.takes, hs, ha]
  rw [makeLineAction_stopTone htakes]
  unfold lineStopTone State.onLine
  have hbegin : ∀ l : LineUnit, l.lastListenEnd = s.line.lastListenEnd →
      l.beginSending s.now = { l with signal := .sounding s.now } := by
    intro l hl
    unfold LineUnit.beginSending
    rw [hl]
    cases he : s.line.lastListenEnd with
    | none => rfl
    | some e => exact if_neg (Nat.not_lt.2 (hguard e he))
  simp [htakes, ha, hsig, hbegin, LineUnit.toneOn, LineUnit.beginStopTone, htimer, hsent]

/-! ## Drum reports without a START -/

theorem examineStart_notReady (h : ∀ r, s.run = some r → r.drumReady = false) : examineStart s = s := by
  unfold examineStart
  split
  · rfl
  · rename_i r hr
    split
    · rfl
    · simp [startConditions, h r hr]

/-- A drum that is not LOCKED is reported not ready, and no START follows (R58, R155). -/
theorem drumReportToRun_notReady (hr : s.run = some r) (hd : s.drum.state ≠ .locked) :
    drumReportToRun s = { s with run := some { r with drumReady := false } } := by
  have hready : (s.drum.state == .locked && s.drum.target == r.speed) = false := by simp [hd]
  have hrun : s.onRun (fun r => { r with drumReady := s.drum.state == .locked && s.drum.target == r.speed }) =
      { s with run := some { r with drumReady := false } } := by
    rw [onRun_some hr, hready]
  rw [drumReportToRun, hrun, examineStart_notReady]
  intro r' hr'
  cases hr'
  rfl

end

end Sys2Proof.Machine
end

section
/-! PROOF. A run's first abort cause from each command that can be one: ORDER_CANCEL, the defer limit, no-lock, a stall, the
eighth revolution of drift, the door and the STOP key (R21, R46, R47, R156, R157, R161, R165 to R167). -/

namespace Sys2Proof.Machine

section
variable {s : State} {r : RunRecord} {o : Order} {c : AbortCause} {a : LineAction}

/-! ## The first cause with its line action -/

theorem untrimmed_none (h : s.drum.trim = .none) : s.untrimmed o = s := by
  have hdrum : ({ s.drum with trim := .none } : Drum) = s.drum := by rw [← h]
  unfold State.untrimmed
  split
  · exact congrArg (fun d => { s with drum := d }) hdrum
  · rfl

theorem untrimmed_of_ne (h : o.state ≠ .sending) : s.untrimmed o = s := if_neg h

theorem untrimmed_drum : ∃ tr, s.untrimmed o = s.onDrum fun d => { d with trim := tr } := by
  unfold State.untrimmed
  split
  · exact ⟨_, rfl⟩
  · exact ⟨s.drum.trim, rfl⟩

section
variable (hr : s.run = some r) (ho : s.findOrder r.order = some o) (habort : r.abort = none)
  (hscan : r.scanStarted = false ∨ r.scanComplete = true) (hc : c ≠ .lineLoss) (hacts : c.actsIn o.state = true)
  (hs : s.line.state = .seized)
include hr ho habort hscan hc hacts hs

theorem runAbort_releases (ha : c.action o.state (r.rollEnded && o.anyReady) = .release) :
    runAbort c s = ((s.aborted c .release r).untrimmed o).onLine (LineUnit.letGo s.now) := by
  obtain ⟨tr, htr⟩ := untrimmed_drum (s := s.aborted c .release r) (o := o)
  rw [runAbort_first hr ho habort hscan hc hacts ha, htr]
  exact makeLineAction_release (s := (s.aborted c .release r).onDrum _) hs

theorem runAbort_sounds (ha : c.action o.state (r.rollEnded && o.anyReady) = .stopTone) (hp : s.line.picturing) :
    runAbort c s = ((s.aborted c .stopTone r).untrimmed o).onLine (LineUnit.toneOn s.now) := by
  obtain ⟨tr, htr⟩ := untrimmed_drum (s := s.aborted c .stopTone r) (o := o)
  rw [runAbort_first hr ho habort hscan hc hacts ha, htr]
  exact makeLineAction_sounding (s := (s.aborted c .stopTone r).onDrum _) hs hp

/-- The line action of a cause that releases in PREPARING and sounds the stop tone in the picture. -/
theorem runAbort_line (htrim : s.drum.trim = .none)
    (ha : c.action o.state (r.rollEnded && o.anyReady) = if o.state = .preparing then .release else .stopTone)
    (hp : o.state = .preparing ∨ s.line.picturing) :
    runAbort c s = (s.aborted c (if o.state = .preparing then .release else .stopTone) r).onLine fun l =>
      if o.state = .preparing then l.letGo s.now else l.toneOn s.now := by
  have hun : ∀ a, (s.aborted c a r).untrimmed o = s.aborted c a r := fun a => untrimmed_none htrim
  by_cases hprep : o.state = .preparing
  · simp only [hprep, if_true]
    rw [runAbort_releases hr ho habort hscan hc hacts hs (ha.trans (if_pos hprep)), hun]
  · simp only [hprep, if_false]
    rw [runAbort_sounds hr ho habort hscan hc hacts hs (ha.trans (if_neg hprep)) (hp.resolve_left hprep), hun]

end

/-! ## ORDER_CANCEL -/

theorem serveOrderCancel_running {p : List Byte} (h : s.findOrder (wordAt p 0) = some o)
    (hs : o.state = .preparing ∨ o.state = .phasing ∨ o.state = .sending) :
    serveOrderCancel p s = (.ok [], runAbort .cancel s) := by
  rcases hs with hs | hs | hs <;> simp [serveOrderCancel, h, hs]

/-! ## The defer limit -/

/-- The defer limit while the line holds in silence with its guard past (R156, R157). -/
theorem deferExpired_holding (hr : s.run = some r) (ho : s.findOrder r.order = some o) (habort : r.abort = none)
    (hstart : r.scanStarted = false) (hprep : o.state = .preparing) (hs : s.line.state = .seized)
    (hact : s.line.activity = some .holding) (hsig : s.line.signal = .silent) (htimer : s.line.timer = none)
    (hsent : s.line.sent = none) (hguard : ∀ e, s.line.lastListenEnd = some e → e + 60000 ≤ s.now) :
    deferExpired s = (s.aborted .deferLimit .stopTone r).onLine (LineUnit.toneOn s.now) := by
  let t : State := { s with run := some { r with deferTimer := none } }
  have habortt : runAbort .deferLimit t = makeLineAction .stopTone ((t.aborted .deferLimit .stopTone
      { r with deferTimer := none }).untrimmed o) :=
    runAbort_first (s := t) rfl ho habort (.inl hstart) (by decide) (by rw [hprep]; rfl) rfl
  rw [deferExpired, onRun_some hr, habortt, untrimmed_of_ne (by simp [hprep])]
  exact makeLineAction_holding (s := t.aborted .deferLimit .stopTone { r with deferTimer := none }) hs hact hsig htimer
    hsent hguard

/-! ## Without a calibration run -/

theorem selectAfterCal_noCal {t : State} (h : s.cal = none) : selectAfterCal s t = t := by
  simp [selectAfterCal, h]

theorem calFail_none (h : s.cal = none) (f : CalFailure) (n : Nat) : calFail f n s = s := by
  simp [calFail, h]

theorem noLockToCal_none (h : s.cal = none) : noLockToCal s = s := by
  simp [noLockToCal, h]

/-! ## The drum's causes -/

theorem noLockToRun_preparing (hr : s.run = some r) (ho : s.findOrder r.order = some o) (ha : r.abort = none)
    (hs : o.state = .preparing) : noLockToRun s = runAbort .drumFault s := by
  rw [noLockToRun, withRun_live hr ho ha, if_pos hs]

/-- The state after the loop step, with its CLIP notice when CLIP has risen (R43, R56). -/
def State.looped (P : Nat) (s : State) : State :=
  let t := s.onDrum (Drum.loopStep s.motor s.settings P s.now)
  if !s.drum.clip && t.drum.clip then drumEvent .clip t else t

theorem State.looped_eq (P : Nat) (s : State) : ∃ d l, s.looped P = { s with drum := d, link := l } ∧
    d.state = s.drum.state ∧ (s.drum.clip = true ∨ d.clip = false → l = s.link) := by
  unfold State.looped
  dsimp only
  split
  · rename_i hclip
    obtain ⟨hbefore, hafter⟩ := Bool.and_eq_true_iff.1 hclip
    refine ⟨_, _, rfl, rfl, fun h => ?_⟩
    rcases h with h | h
    · simp [h] at hbefore
    · exact absurd (hafter.symm.trans h) (by decide)
  · exact ⟨_, _, rfl, rfl, fun _ => rfl⟩

theorem regulate_same {P : Nat} {d : Drum}
    (hd : (s.looped P).drum.lockTest (withinWindow s.settings P s.drum.target) = d)
    (hstate : d.state = (s.looped P).drum.state) : regulate P s = { s.looped P with drum := d } := by
  subst hd
  exact if_pos hstate

/-- A revolution outside the window leaves the drum in DRIFT (R45). -/
theorem regulate_drift {P : Nat} (hd : s.drum.state = .drift)
    (hw : withinWindow s.settings P s.drum.target = false) :
    ∃ d' l, regulate P s = { s with drum := d', link := l } ∧ d'.state = .drift ∧
      (s.drum.clip = true ∨ d'.clip = false → l = s.link) := by
  obtain ⟨d, l, hloop, hstate, hlink⟩ := s.looped_eq P
  have hdrift : d.state = .drift := hstate.trans hd
  have htest : (s.looped P).drum.lockTest (withinWindow s.settings P s.drum.target) = { d with inCount := 0 } := by
    simp [hloop, hw, Drum.lockTest, hdrift]
  refine ⟨{ d with inCount := 0 }, l, ?_, hdrift, hlink⟩
  rw [regulate_same htest (by rw [hloop]), hloop]

/-- A revolution not locked takes the drift count to eight, and that is DRUM_FAULT (R161). -/
theorem revolutionToRun_eighth (hr : s.run = some r) (ho : s.findOrder r.order = some o)
    (hs : o.state = .phasing ∨ o.state = .sending) (h7 : r.drift = 7) :
    revolutionToRun false s = runAbort .drumFault { s with run := some { r with drift := 8 } } := by
  have hn : satSucc 8 r.drift = 8 := by rw [h7]; rfl
  simp [revolutionToRun, hr, ho, hs, hn, onRun_some hr]

theorem measure_period {d : Drum} {now P : Nat} (h : (d.measure now).period = some P) :
    ∃ t, d.lastIndex = some t ∧ now < t + sec 3 ∧ P = now - t := by
  unfold Drum.measure at h
  cases ht : d.lastIndex with
  | none => simp [ht] at h
  | some t =>
    simp only [ht, Option.ite_none_right_eq_some, Option.some.injEq] at h
    exact ⟨t, rfl, h.1, h.2.symm⟩

theorem revolutionReport_noScan {b : Bool} {x : Nat} (h : s.scan = none) :
    revolutionReport b x s = revolutionToRun b s := by
  simp [revolutionReport, revolutionToScan, beginRevolution, h]

/-- The drum measured at an index pulse, and the encoder's count cleared (R41, R94). -/
def State.measured (s : State) : State :=
  { s.onDrum (Drum.measure s.now) with encoder := { count := 0, high := true } }

/-- The measured drum after the loop step and the lock test of its period, when it has one (R41). -/
def State.regulated (s : State) : State :=
  match s.measured.drum.period with
  | some P => regulate P s.measured
  | none => s.measured

theorem indexPulse_regulated {x : Nat} (hd : s.drum.state = .drift) (hcal : s.cal = none) : indexPulse x s =
    revolutionReport (s.measured.drum.period.isSome && s.regulated.drum.state == .locked) x s.regulated := by
  unfold indexPulse
  simp only [hd, hcal, Option.map_none, Option.getD_none, Bool.false_eq_true, if_false] <;> rfl

/-- A revolution in DRIFT outside the window changes the drum and its notices, and leaves it in DRIFT (R41, R45). -/
theorem regulated_drift (hd : s.drum.state = .drift) (hw : ∀ t, s.drum.lastIndex = some t → s.now < t + sec 3 →
      withinWindow s.settings (s.now - t) s.drum.target = false) :
    ∃ d' l, s.regulated = { s with drum := d', link := l, encoder := ⟨0, true⟩ } ∧ d'.state = .drift ∧
      (s.drum.clip = true ∨ d'.clip = false → l = s.link) := by
  unfold State.regulated
  cases hp : s.measured.drum.period with
  | none => exact ⟨s.measured.drum, s.link, rfl, hd, fun _ => rfl⟩
  | some P =>
    obtain ⟨t, ht, hlt, rfl⟩ := measure_period hp
    exact regulate_drift (s := s.measured) hd (hw t ht hlt)

/-- The eighth revolution in a row not locked, in DRIFT without a scan and a calibration run, is DRUM_FAULT (R161). -/
theorem indexPulse_eighth {x : Nat} (hr : s.run = some r) (ho : s.findOrder r.order = some o)
    (hs : o.state = .phasing ∨ o.state = .sending) (h7 : r.drift = 7) (hd : s.drum.state = .drift) (hscan : s.scan = none)
    (hcal : s.cal = none) (hw : ∀ t, s.drum.lastIndex = some t → s.now < t + sec 3 →
      withinWindow s.settings (s.now - t) s.drum.target = false) :
    ∃ d' l, indexPulse x s = runAbort .drumFault
        { s with run := some { r with drift := 8 }, drum := d', link := l, encoder := ⟨0, true⟩ } ∧ d'.state = .drift ∧
      (s.drum.clip = true ∨ d'.clip = false → l = s.link) := by
  obtain ⟨d', l, hreg, hdrift, hlink⟩ := regulated_drift hd hw
  refine ⟨d', l, ?_, hdrift, hlink⟩
  have hlocked : (s.measured.drum.period.isSome && d'.state == .locked) = false := by simp [hdrift]
  rw [indexPulse_regulated hd hcal, hreg, hlocked, revolutionReport_noScan (by exact hscan)]
  refine revolutionToRun_eighth (r := r) (o := o) ?_ ?_ hs h7
  · exact hr
  · exact ho

/-! ## The door and the STOP key -/

/-- The drum spins down, with its DRUM_EVENT (R39, R56). -/
def State.spunDown (s : State) : State := drumEvent .state (s.onDrum (Drum.spinDown s.now))

theorem DrumState.spins_of_turning {d : DrumState} (h : d = .spinningUp ∨ d = .locked ∨ d = .drift) : d.spins = true := by
  rcases h with rfl | rfl | rfl <;> rfl

theorem interlock_spins {d : Drum} {now : Nat} (h : d.state.spins = true) : d.interlock now = d.spinDown now := by
  unfold Drum.interlock
  split <;> simp_all [DrumState.spins]

theorem interlocked_spins (h : s.drum.state.spins = true) (hcal : s.cal = none) :
    s.interlocked = runAbort .door (drumReportToRun s.spunDown) := by
  have hne : DrumState.spinningDown ≠ s.drum.state := fun e => by rw [← e] at h; exact absurd h (by decide)
  have hdrum : s.onDrum (Drum.interlock s.now) = s.onDrum (Drum.spinDown s.now) := by
    simp [State.onDrum, interlock_spins h]
  unfold State.interlocked
  rw [hdrum]
  dsimp only
  rw [if_neg (by exact hne), calAbort_none (by simpa using hcal)]
  rfl

/-- A mount's end with no order bound to the mount (R10, R51). -/
theorem mountEnd_unbound (hp : s.panel.mountPresent = true) (hl : s.lamp.prewarm = false)
    (hno : ∀ x ∈ s.manager.table, x.state = .queued → x.mount ≠ s.panel.mountCounter) :
    mountEnd s = s.onPanel fun p => { p with mountPresent := false } := by
  unfold mountEnd
  rw [if_pos hp]
  dsimp only
  rw [foldl_mountGone_none (by exact hno)]
  exact updatePrewarm_unmounted rfl hl

/-- The destinations of an aborted order are no part of its being bound to a mount. -/
theorem aborted_unbound {M : Nat} (h : ∀ x ∈ s.manager.table, x.state = .queued → x.mount ≠ M) :
    ∀ x ∈ (s.aborted c a r).manager.table, x.state = .queued → x.mount ≠ M := by
  intro x hx
  obtain ⟨y, hy, rfl⟩ := List.mem_map.1 hx
  split
  · exact h y hy
  · exact h y hy

/-- An order that has a cause of the door or the drum in PREPARING or in the picture. -/
theorem actsIn_drum {p : Prop} (h : o.state = .preparing ∨ (o.state = .phasing ∨ o.state = .sending) ∧ p) :
    AbortCause.actsIn .door o.state = true ∧ AbortCause.actsIn .drumFault o.state = true := by
  rcases h with h | ⟨h | h, _⟩ <;> simp [AbortCause.actsIn, h]

/-- DRUM_FAULT releases before the roll call's end and sounds the stop tone in the picture (R157, R166). -/
theorem drumFault_action {p : Prop}
    (h : o.state = .preparing ∧ r.rollEnded = false ∨ (o.state = .phasing ∨ o.state = .sending) ∧ p) :
    AbortCause.action .drumFault o.state (r.rollEnded && o.anyReady) =
      if o.state = .preparing then .release else .stopTone := by
  rcases h with ⟨hprep, hroll⟩ | ⟨hst | hst, _⟩
  · simp [AbortCause.action, hprep, hroll]
  · simp [AbortCause.action, hst]
  · simp [AbortCause.action, hst]

section
variable (hr : s.run = some r) (ho : s.findOrder r.order = some o) (habort : r.abort = none)
  (hscan : r.scanStarted = false ∨ r.scanComplete = true) (hs : s.line.state = .seized)
include hr ho habort hscan hs

/-- A drum that is reported not ready before the cause is taken (R58, R161, R167). -/
theorem runAbort_reported (hc : c ≠ .lineLoss) (hacts : c.actsIn o.state = true) (hd : s.drum.state ≠ .locked)
    (htrim : s.drum.trim = .none)
    (ha : c.action o.state (r.rollEnded && o.anyReady) = if o.state = .preparing then .release else .stopTone)
    (hp : o.state = .preparing ∨ s.line.picturing) :
    runAbort c (drumReportToRun s) =
      (s.aborted c (if o.state = .preparing then .release else .stopTone) { r with drumReady := false }).onLine fun l =>
        if o.state = .preparing then l.letGo s.now else l.toneOn s.now := by
  rw [drumReportToRun_notReady hr hd]
  exact runAbort_line (s := { s with run := some { r with drumReady := false } }) (r := { r with drumReady := false })
    rfl ho habort hscan hc hacts hs htrim ha hp

/-- The spin-up limit before the roll call's end (R46, R157). -/
theorem noLockFound_early (hcal : s.cal = none) (hprep : o.state = .preparing) (hroll : r.rollEnded = false) :
    noLockFound s = ((drumEvent .noLock (s.onDrum fun d => { d with noLock := true, spinUpTimer := none })).aborted
      .drumFault .release r).onLine (LineUnit.letGo s.now) := by
  let t := drumEvent .noLock (s.onDrum fun d => { d with noLock := true, spinUpTimer := none })
  have htaken : runAbort .drumFault t = ((t.aborted .drumFault .release r).untrimmed o).onLine (LineUnit.letGo t.now) :=
    runAbort_releases (s := t) hr ho habort hscan (by decide) (by rw [hprep]; rfl) hs
      (by simp [AbortCause.action, hprep, hroll])
  have hrun : noLockToRun t = runAbort .drumFault t := noLockToRun_preparing (s := t) hr ho habort hprep
  have hcalt : (runAbort .drumFault t).cal = none := by simpa [t] using hcal
  refine (congrArg noLockToCal hrun).trans ((noLockToCal_none hcalt).trans (htaken.trans ?_))
  rw [untrimmed_of_ne (by simp [hprep])]
  rfl

/-- A stall before the roll call's end or in the picture (R47, R157, R161). -/
theorem stallFound_run (hcal : s.cal = none)
    (hcase : o.state = .preparing ∧ r.rollEnded = false ∨ (o.state = .phasing ∨ o.state = .sending) ∧ s.line.picturing) :
    stallFound s = ((drumEvent .stall (s.onDrum Drum.stalled)).aborted .drumFault
      (if o.state = .preparing then .release else .stopTone) { r with drumReady := false }).onLine fun l =>
        if o.state = .preparing then l.letGo s.now else l.toneOn s.now := by
  have hwhen := hcase.imp_left And.left
  have htaken := runAbort_reported (s := drumEvent .stall (s.onDrum Drum.stalled)) hr ho habort hscan hs
    (c := .drumFault) (by decide) (actsIn_drum hwhen).2 (fun h => DrumState.noConfusion h) rfl (drumFault_action hcase)
    (hwhen.imp_right And.right)
  rw [stallFound, htaken, calFail_none (by exact hcal)]
  rfl

/-- The door opens with the drum turning and no order bound to the mount (R50, R51, R166, R167). -/
theorem openDoor_run (hcal : s.cal = none) (hpres : s.panel.mountPresent = true) (hpre : s.lamp.prewarm = false)
    (hspins : s.drum.state.spins = true)
    (hno : ∀ x ∈ s.manager.table, x.state = .queued → x.mount ≠ s.panel.mountCounter)
    (hcase : o.state = .preparing ∨ (o.state = .phasing ∨ o.state = .sending) ∧ s.line.picturing) :
    openDoor s = panelEvent .door (some Door.opened.code)
      (((((s.onPanel fun p => { p with door := .opened, mountPresent := false }).spunDown).aborted .door
        (if o.state = .preparing then .release else .stopTone) { r with drumReady := false })).onLine fun l =>
          if o.state = .preparing then l.letGo s.now else l.toneOn s.now) := by
  let p := s.onPanel fun p => { p with door := .opened }
  have haction : AbortCause.action .door o.state (r.rollEnded && o.anyReady) =
      if o.state = .preparing then .release else .stopTone := rfl
  have htaken := runAbort_reported (s := p.spunDown) hr ho habort hscan hs (c := .door) (by decide)
    (actsIn_drum hcase).1 (fun h => DrumState.noConfusion h) rfl haction (hcase.imp_right And.right)
  have hdown : p.interlocked = _ := (interlocked_spins (s := p) hspins hcal).trans htaken
  unfold openDoor
  dsimp only
  rw [selectAfterCal_noCal hcal, doorInterlock_eq, hdown, mountEnd_unbound (by exact hpres) (by exact hpre)
    (by exact aborted_unbound (s := p.spunDown) (c := .door) (a := LineAction.none) hno)]
  rfl

/-- The STOP key's abort, and then the drum's spin down. -/
theorem stopRequest_stopped (hcal : s.cal = none) (hrun : o.state.isRunning = true) (hspins : s.drum.state.spins = true) :
    stopRequest false (runAbort .stop s) =
      (s.spunDown.aborted .stop .release { r with drumReady := false }).onLine (LineUnit.letGo s.now) := by
  obtain ⟨tr, htr⟩ := untrimmed_drum (s := s.aborted .stop .release r) (o := o)
  rw [runAbort_releases (c := .stop) hr ho habort hscan (by decide) hrun hs rfl, htr, stopRequest_spins (by exact hspins),
    enterSpinningDown_eq (by exact hcal)]
  refine (drumReportToRun_notReady (r := { r with abort := some .stop, deferTimer := none, action := .release }) rfl
    (by simp [Drum.spinDown])).trans ?_
  rfl

end

/-- The eighth revolution of drift in the picture, with the drum and its notices as the revolution left them (R161). -/
theorem runAbort_eighth {e : Encoder} (ho : s.findOrder r.order = some o) (habort : r.abort = none)
    (hscan : r.scanStarted = false ∨ r.scanComplete = true) (hs : s.line.state = .seized)
    (hin : (o.state = .phasing ∨ o.state = .sending) ∧ s.line.picturing) (d' : Drum) (l : Link) :
    ∃ tr, runAbort .drumFault { s with run := some { r with drift := 8 }, drum := d', link := l, encoder := e } =
      (({ s with drum := { d' with trim := tr }, link := l, encoder := e } : State).aborted .drumFault .stopTone
        { r with drift := 8 }).onLine (LineUnit.toneOn s.now) := by
  let t : State := { s with run := some { r with drift := 8 }, drum := d', link := l, encoder := e }
  obtain ⟨tr, htr⟩ := untrimmed_drum (s := t.aborted .drumFault .stopTone { r with drift := 8 }) (o := o)
  have hnot : o.state ≠ .preparing := by rcases hin.1 with h | h <;> simp [h]
  have htaken := runAbort_sounds (s := t) (r := { r with drift := 8 }) rfl ho habort hscan (c := .drumFault) (by decide)
    (actsIn_drum (.inr hin)).2 hs ((drumFault_action (r := r) (.inr hin)).trans (if_neg hnot)) hin.2
  exact ⟨tr, htaken.trans (by rw [htr]; rfl)⟩

/-- Settles O28: the first cause with its line action, after what each command does before it. -/
theorem runsAreAborted : Obligations.RunsAreAborted := by
  intro dt s r o hr habort hnum ho hseized now aborted released stopTone
  have hfind : s.findOrder r.order = some o := ho
  refine ⟨?_, ?_, ?_⟩
  · intro tag p hf hp hn cancel req
    have hserve : ∀ u : State, u.link.tx = s.link.tx → u.link.replySlot = s.link.replySlot →
        (o.state = .preparing ∨ o.state = .phasing ∨ o.state = .sending) →
        runAbort .cancel (s.serving dt req) = u.serving dt req → cancel = .next (u.answered dt req (.ok [])) := by
      intro u htx hslot hst he
      have hwas : (s.serving dt req).findOrder (wordAt p 0) = some o := hn ▸ hfind
      have hanswer : serveOrderCancel p (s.serving dt req) = (.ok [], u.serving dt req) :=
        he ▸ serveOrderCancel_running hwas hst
      exact exec_request (i := .orderCancel dt tag p) rfl hf (by simp [hp]) rfl (by simp [lengthAgrees, hp]) (.ok []) u
        htx hslot (congrArg answered hanswer)
    refine ⟨fun hprep hstart => ?_, fun hsend hcomp hact hsig => ?_⟩
    · refine hserve _ rfl rfl (.inl hprep) ?_
      rw [runAbort_releases (s := s.serving dt req) hr hfind habort (.inl hstart) (by decide) (by rw [hprep]; rfl) hseized
        (by simp [AbortCause.action, hprep]), untrimmed_of_ne (by simp [hprep])]
      rfl
    · refine hserve _ rfl rfl (.inr (.inr hsend)) ?_
      rw [runAbort_sounds (s := s.serving dt req) hr hfind habort (.inr hcomp) (by decide) (by rw [hsend]; rfl) hseized
        (by simp [AbortCause.action, hsend]) ⟨.inr (.inr hact), hsig⟩, State.untrimmed, if_pos hsend]
      rfl
  · intro t ht hdue hprep hroll hready hstart hact hsig htimer hsent hguard
    have htaken : (advance dt s).run.bind RunRecord.deferTimer = some t := by
      have hrun : (advance dt s).run = some r := hr
      rw [hrun, Option.bind_some, ht]
    refine (congrArg Host.Outcome.next (if_pos (due_some htaken hdue))).trans (congrArg Host.Outcome.next ?_)
    exact deferExpired_holding (s := advance dt s) hr hfind habort hstart hprep hseized hact hsig htimer hsent hguard
  · intro hcal hscan d turning early sounding inPicture notReady down downEvent M
    refine ⟨fun t ht hdue hup hearly => ?_, fun t ht hdue hcase => ?_, fun x hd hsc h7 hin hw => ?_,
      fun hdoor hpres hpre hturn hno hcase => ?_, fun hrun hturn => ?_⟩
    · obtain ⟨hprep, hroll⟩ := hearly
      refine (congrArg Host.Outcome.next (if_pos ⟨due_some ht hdue, hup⟩)).trans (congrArg Host.Outcome.next ?_)
      rw [selectAfterCal_noCal (by exact hcal),
        noLockFound_early (s := advance dt s) hr hfind habort hscan hseized hcal hprep hroll, ← hup]
      rfl
    · refine (congrArg Host.Outcome.next (if_pos (due_some ht hdue))).trans (congrArg Host.Outcome.next ?_)
      rw [selectAfterCal_noCal (by exact hcal), stallFound_run (s := advance dt s) hr hfind habort hscan hseized hcal hcase]
      rfl
    · obtain ⟨d', l, hpulse, hdrift, hlink⟩ :=
        indexPulse_eighth (s := advance dt s) (x := x.toNat) hr hfind hin.1 h7 hd hsc hcal hw
      obtain ⟨tr, htaken⟩ := runAbort_eighth (s := advance dt s) (e := ⟨0, true⟩) hfind habort hscan hseized hin d' l
      refine ⟨{ d' with trim := tr }, l, (congrArg Host.Outcome.next ?_), hdrift, hlink⟩
      rw [selectAfterCal_noCal (by exact hcal), hpulse, htaken]
      rfl
    · refine (congrArg Host.Outcome.next (if_pos hdoor)).trans (congrArg Host.Outcome.next ?_)
      rw [openDoor_run (s := advance dt s) hr hfind habort hscan hseized hcal hpres hpre
        (DrumState.spins_of_turning hturn) hno hcase]
      rfl
    · have hstop := stopRequest_stopped (s := (advance dt s).onManager fun m => { m with state := .halted })
        hr hfind habort hscan hseized hcal hrun (DrumState.spins_of_turning hturn)
      rw [execStopKey_eq, State.stopped, calAbort_none (by simpa using hcal), hstop]
      rfl

end

end Sys2Proof.Machine
end

section
/-! PROOF. The station directory: what the checks of R31 establish, and that a valid load keeps the call codes distinct
(R28, R31, R32). -/

namespace Sys2Proof.Machine

section
variable {dir : List StationEntry} {f : StationFields}

/-- A check of a list of checks: it passes and the rest finds nothing. -/
theorem check_eq_none {p : Prop} [Decidable p] {i : Nat} {x : Option Nat} :
    (if p then some i else x) = none ↔ ¬p ∧ x = none := by
  split <;> simp [*]

/-- The checks of R31's steps 1 to 9 that an enabled entry passes after the first two. -/
structure StationFields.Valid (dir : List StationEntry) (f : StationFields) : Prop where
  name : 1 ≤ f.nameLen ∧ f.nameLen ≤ 12 ∧ f.name.all printable = true
  network : f.network ≤ 1
  code : f.network = 0 → f.code ≤ 9999
  digits : f.digitsOk = true
  speeds : 1 ≤ f.speeds ∧ f.speeds ≤ 7
  mods : 1 ≤ f.mods ∧ f.mods ≤ 3
  free : f.network = 0 → codeTaken f.number f.code dir = false

theorem fault_eq_none : f.fault dir = none ↔
    (1 ≤ f.number ∧ f.number ≤ 32) ∧ (f.enabled = 0 ∨ f.enabled = 1 ∧ f.Valid dir) := by
  unfold StationFields.fault
  rw [check_eq_none, check_eq_none]
  by_cases he : f.enabled = 0
  · simp only [he, if_true, true_or, and_true]
    omega
  · rw [if_neg he]
    simp only [check_eq_none, and_true]
    constructor
    · rintro ⟨hn, he1, hname, hnet, hcode, hdig, hsp, hmod, hfree⟩
      simp only [Bool.not_eq_true', not_or, Bool.not_eq_false] at hname
      exact ⟨by omega, .inr ⟨by omega,
        { name := ⟨by omega, by omega, hname.2.2⟩
          network := by omega
          code := fun h => by omega
          digits := by simpa using hdig
          speeds := by omega
          mods := by omega
          free := fun h => by simpa [h] using hfree }⟩⟩
    · rintro ⟨hn, he0 | ⟨he1, v⟩⟩
      · exact absurd he0 he
      · have hname := v.name
        have hnet := v.network
        have hsp := v.speeds
        have hmod := v.mods
        refine ⟨by omega, by omega, ?_, by omega, fun ⟨h0, h1⟩ => ?_, by simp [v.digits], by omega, by omega,
          fun ⟨h0, h1⟩ => by simp [v.free h0] at h1⟩
        · simp only [hname.2.2, Bool.not_true, Bool.false_eq_true, or_false]
          omega
        · have := v.code h0
          omega

/-- A call code that is not taken is the code of no other station. -/
theorem code_of_not_taken {n c i : Nat} (h : codeTaken n c dir = false) (hi : i < dir.length) (hne : i + 1 ≠ n) :
    (dir.getD i .disabled).code ≠ some c := by
  have hmem : (dir[i], i) ∈ dir.zipIdx := List.mem_zipIdx_iff_getElem?.2 (by simp [hi])
  have := List.any_eq_false.1 h _ hmem
  rw [List.getD_eq_getElem _ _ hi]
  cases he : dir[i] with
  | disabled => simp [StationEntry.code]
  | enabled st =>
    obtain ⟨name, address, _, _, _, _, _⟩ := st
    cases address with
    | dial ds => simp [StationEntry.code]
    | loop k =>
      simp only [he, Bool.and_eq_true, bne_iff_ne, ne_eq, hne, not_false_eq_true, beq_iff_eq, Address.loop.injEq,
        true_and] at this
      simpa [StationEntry.code] using this

/-- A valid entry's call code is taken by no other station. -/
theorem entry_code_free {c : Nat} (hf : f.fault dir = none) (hc : f.entry.code = some c) :
    codeTaken f.number c dir = false := by
  obtain ⟨_, h | ⟨he, v⟩⟩ := fault_eq_none.1 hf
  · simp [StationFields.entry, h, StationEntry.code] at hc
  · by_cases hn : f.network = 0
    · have hcode : f.entry.code = some f.code := by
        simp [StationFields.entry, StationFields.station, StationEntry.code, he, hn]
      exact Option.some.inj (hcode.symm.trans hc) ▸ v.free hn
    · simp [StationFields.entry, StationFields.station, StationEntry.code, he, hn] at hc

end

end Sys2Proof.Machine
end

section
/-! PROOF. The records that the host loads and the calibration measures (R28, R61 to R67, R197): the invariants block by block,
and what each writer of a record does to them. -/

namespace Sys2Proof.Machine

/-! ## The invariants block by block -/

/-- 32 entries, and no two of them hold the same call code (R28). -/
def CodesDistinct (dir : List StationEntry) : Prop :=
  dir.length = 32 ∧ ∀ i j c, i < 32 → j < 32 → (dir.getD i .disabled).code = some c →
    (dir.getD j .disabled).code = some c → i = j

/-- The motor part (R61, R65, R75). -/
def MotorPart.Inv (m : MotorPart) : Prop := (m.valid = true → m.s1 + 20000 ≤ m.s2) ∧ m.kp ≤ 1024 ∧ m.ki ≤ 256

/-- The scan part (R62, R64, R65). -/
structure ScanPart.Inv (p : ScanPart) : Prop where
  offset : p.offset ≤ 1023
  valid : p.valid = true → p.darkMark = true ∧ p.whiteMark = true
  white : p.whiteMark = true → p.offset + 512 ≤ p.wRaw ∧ p.gain = gainFor (p.wRaw - p.offset)

/-- The tone curve (R67, R81). -/
def CurveInv (t : List Nat) : Prop := t.length = 17 ∧ ∀ v ∈ t, v ≤ 4095

/-- The targets of a STEPS run (R79). -/
def CalRun.Inv (c : CalRun) : Prop := ∀ st ∈ c.steps, st.target ≤ 4095

/-- Every record of the state meets its invariant. -/
structure State.Recorded (s : State) : Prop where
  directory : CodesDistinct s.directory
  settings : s.settings.InRange
  motor : s.motor.Inv
  scanPart : s.scanPart.Inv
  curve : CurveInv s.curve
  cal : ∀ c, s.cal = some c → c.Inv

section
variable {s t : State}

theorem State.recorded_iff : s.Recorded ↔ s.RecordsInv ∧ s.CalibrationInv :=
  ⟨fun ⟨hd, hs, ⟨hv, hk⟩, ⟨ho, hm, hw⟩, hc, hr⟩ => ⟨⟨hd, hs⟩, hv, hk, ho, hm, hw, hc, hr⟩,
    fun ⟨⟨hd, hs⟩, hv, hk, ho, hm, hw, hc, hr⟩ => ⟨hd, hs, ⟨hv, hk⟩, ⟨ho, hm, hw⟩, hc, hr⟩⟩

/-- The fields that the invariants read. -/
def State.recordFields (s : State) := (s.directory, s.settings, s.motor, s.scanPart, s.curve, s.cal)

@[simp] theorem State.recordFields_eq : t.recordFields = s.recordFields ↔
    t.directory = s.directory ∧ t.settings = s.settings ∧ t.motor = s.motor ∧ t.scanPart = s.scanPart
      ∧ t.curve = s.curve ∧ t.cal = s.cal := by
  simp [State.recordFields]

/-- A change of other fields. -/
theorem State.Recorded.frame (h : s.Recorded) (e : t.recordFields = s.recordFields) : t.Recorded := by
  obtain ⟨hd, hs, hm, hp, hc, hr⟩ := State.recordFields_eq.1 e
  exact ⟨hd ▸ h.directory, hs ▸ h.settings, hm ▸ h.motor, hp ▸ h.scanPart, hc ▸ h.curve, hr ▸ h.cal⟩

/-- The calibration run goes on with the same steps. -/
theorem State.Recorded.onCal (h : s.Recorded) {f : CalRun → CalRun} (hf : ∀ c, (f c).steps = c.steps) :
    (s.onCal f).Recorded :=
  { h with
    cal := fun c hc => by
      simp only [onCal_cal, Option.map_eq_some_iff] at hc
      obtain ⟨b, hb, rfl⟩ := hc
      simpa only [CalRun.Inv, hf] using h.cal b hb }

/-- The calibration run is over. -/
theorem State.Recorded.noCal (h : s.Recorded) : State.Recorded { s with cal := none } :=
  { h with cal := fun _ e => nomatch e }

/-- Another calibration run stands. -/
theorem State.Recorded.withCal (h : s.Recorded) {c : CalRun} (hc : c.Inv) : State.Recorded { s with cal := some c } :=
  { h with
    cal := fun b e => by
      cases e
      exact hc }

end

/-! ## What the writers write -/

/-- A byte is a character of its own number. -/
theorem charOf_toNat (b : Byte) : (charOf b).toNat = b.toNat := by
  have hb : b.toNat < 256 := b.isLt
  have hv : b.toNat.isValidChar := .inl (by omega)
  simp [charOf, Char.ofNat, hv, Char.toNat, Char.ofNatAux]

/-- Only the entry loaded changes, and its call code is free (R31, R32). -/
theorem CodesDistinct.load {dir : List StationEntry} (h : CodesDistinct dir) {f : StationFields}
    (hf : f.fault dir = none) : CodesDistinct (dir.set (f.number - 1) f.entry) := by
  obtain ⟨hlen, hd⟩ := h
  obtain ⟨⟨hn1, hn32⟩, _⟩ := fault_eq_none.1 hf
  have hnew : (dir.set (f.number - 1) f.entry).getD (f.number - 1) .disabled = f.entry := by
    rw [List.getD_eq_getElem _ _ (by simp; omega), List.getElem_set_self]
  have hold : ∀ i, i ≠ f.number - 1 → (dir.set (f.number - 1) f.entry).getD i .disabled = dir.getD i .disabled :=
    fun i hi => by simp [List.getD_eq_getElem?_getD, List.getElem?_set_ne (Ne.symm hi)]
  have hfree : ∀ i c, i < 32 → i ≠ f.number - 1 → f.entry.code = some c → (dir.getD i .disabled).code ≠ some c :=
    fun i c hi hne hc => code_of_not_taken (entry_code_free hf hc) (by omega) (by omega)
  refine ⟨by simpa using hlen, fun i j c hi hj hci hcj => ?_⟩
  by_cases ei : i = f.number - 1 <;> by_cases ej : j = f.number - 1
  · rw [ei, ej]
  · rw [ei, hnew] at hci
    rw [hold j ej] at hcj
    exact absurd hcj (hfree j c hj ej hci)
  · rw [ej, hnew] at hcj
    rw [hold i ei] at hci
    exact absurd hci (hfree i c hi ei hcj)
  · rw [hold i ei] at hci
    rw [hold j ej] at hcj
    exact hd i j c hi hj hci hcj

/-- Fields in range give a record in range; a payload of 29 bytes holds the whole name (R197). -/
theorem SettingsFields.settings_inRange {p : List Byte} (hp : p.length = 29)
    (h : (SettingsFields.ofPayload p).firstOutOfRange = none) : (SettingsFields.ofPayload p).settings.InRange := by
  have hr : ∀ i ∈ [1, 2, 3, 4, 5, 6, 7, 8, 9, 10, 11, 12], (SettingsFields.ofPayload p).inRange i = true := by
    simpa [SettingsFields.firstOutOfRange, List.find?_eq_none] using h
  simp only [List.forall_mem_cons, SettingsFields.inRange, Bool.and_eq_true, decide_eq_true_eq] at hr
  obtain ⟨h1, ⟨⟨h2, h2'⟩, h2''⟩, h3, h4, h5, h6, h7, h8, h9, _, _, ⟨⟨hlen, hlen'⟩, hname⟩, _⟩ := hr
  refine ⟨h1, ⟨h2, h2', h2''⟩, h3, h4, h5, h6, h7, h8, h9, ?_, ?_⟩
  · simp only [SettingsFields.ofPayload] at hlen hlen'
    simp only [SettingsFields.settings, SettingsFields.ofPayload, List.length_map, List.length_take, List.length_drop]
    omega
  · simp only [SettingsFields.settings, List.mem_map]
    rintro _ ⟨b, hb, rfl⟩
    have := List.all_eq_true.1 hname b hb
    simpa [printable, charOf_toNat] using this

/-- The figures of a part that a valid CAL_LOAD names (R65, R66). -/
theorem CalFields.motorFault_none {f : CalFields} (h : f.motorFault = none) :
    f.s1 + 20000 ≤ f.s2 ∧ f.kp ≤ 1024 ∧ f.ki ≤ 256 := by
  simp only [CalFields.motorFault, check_eq_none] at h
  omega

theorem CalFields.scanFault_none {f : CalFields} (h : f.scanFault = none) :
    f.offset ≤ 1023 ∧ f.offset + 512 ≤ f.wRaw ∧ f.gain = gainFor (f.wRaw - f.offset) := by
  simp only [CalFields.scanFault, check_eq_none, not_not] at h
  omega

theorem CalFields.install_motor {f : CalFields} {m : MotorPart} (hm : m.Inv) (h : f.fault = none) :
    MotorPart.Inv (if f.namesMotor then { s1 := f.s1, s2 := f.s2, kp := f.kp, ki := f.ki, valid := true } else m) := by
  split
  · rename_i hn
    have hf : f.motorFault = none := by
      cases hf : f.motorFault <;> simp [CalFields.fault, hn, hf] at h
      rfl
    exact ⟨fun _ => (CalFields.motorFault_none hf).1, (CalFields.motorFault_none hf).2⟩
  · exact hm

theorem CalFields.install_scanPart {f : CalFields} {c : ScanPart} (hc : c.Inv) (h : f.fault = none) :
    ScanPart.Inv (if f.namesScan then
      { offset := f.offset, wRaw := f.wRaw, gain := f.gain, darkMark := true, whiteMark := true, valid := true } else c) := by
  split
  · rename_i hn
    have hf : f.scanFault = none := by
      unfold CalFields.fault at h
      split at h
      · cases h
      · simpa [hn] using h
    obtain ⟨ho, hw, hg⟩ := CalFields.scanFault_none hf
    exact ⟨ho, fun _ => ⟨rfl, rfl⟩, fun _ => ⟨hw, hg⟩⟩
  · exact hc

theorem curveInv_knotsOf {p : List Byte} (h : (knotsOf p).findIdx? (fun t => 4095 < t) = none) : CurveInv (knotsOf p) :=
  ⟨by simp [knotsOf], by simpa [List.findIdx?_eq_none_iff] using h⟩

theorem tabletSegment_le (x : Nat) (pairs : List (Nat × Nat)) : tabletSegment x pairs ≤ 4095 := by
  fun_induction tabletSegment x pairs with
  | case1 m1 v1 m2 v2 rest h =>
    have : ∀ y, (clamp 0 4095 y).toNat ≤ 4095 := fun y => by
      unfold clamp
      split_ifs <;> omega
    exact this _
  | case2 m1 v1 m2 v2 rest h ih => exact ih
  | case3 => omega

/-- Every knot of a new curve is a target of the tablet, or lies in a segment of it (R81). -/
theorem curveInv_tabletCurve {pairs : List (Nat × Nat)} (h : ∀ q ∈ pairs, q.2 ≤ 4095) : CurveInv (tabletCurve pairs) := by
  refine ⟨by simp [tabletCurve], ?_⟩
  simp only [tabletCurve, List.mem_map]
  rintro _ ⟨k, _, rfl⟩
  unfold tabletKnot
  split
  · rename_i hfirst hlast
    split_ifs
    · exact h _ (List.mem_of_head? hfirst)
    · exact h _ (List.mem_of_getLast? hlast)
    · exact tabletSegment_le _ _
  · omega

/-- A step's target has 12 bits (R78, R196). -/
theorem stepsOf_target (p : List Byte) : ∀ st ∈ stepsOf p, st.target ≤ 4095 := by
  simp only [stepsOf, List.mem_map]
  rintro _ ⟨i, _, rfl⟩
  simp only [TabletStep.ofNumber]
  omega

end Sys2Proof.Machine
end

section
/-! PROOF. Every operation keeps the records' invariants (R28, R61 to R67, R197): the operations of calibration, the drum and
the carriage, through which a calibration run ends or goes on, and those that install what it has measured. -/

namespace Sys2Proof.Machine

section
variable {s t : State}

/-! ## Calibration runs -/

theorem calEnd_recorded {o : CalOutcome} {f : Option CalFailure} {n : Nat} {fig : CalFigures} (h : s.Recorded) :
    (calEnd o f n fig s).Recorded := by
  unfold calEnd
  split
  · exact h
  · rename_i c _
    have hg : (calGiveBack c.kind (placeNotice (.cal c.kind o f n fig) { s with cal := none })).Recorded :=
      h.noCal.frame (by simp)
    exact Kept.when _ (hg.frame (by simp)) hg

theorem calFail_recorded {f : CalFailure} {n : Nat} (h : s.Recorded) : (calFail f n s).Recorded := by
  unfold calFail
  split
  · exact h
  · exact calEnd_recorded h

theorem calAbort_recorded {o : CalOutcome} (h : s.Recorded) : (calAbort o s).Recorded := by
  unfold calAbort
  split
  · exact h
  · exact calEnd_recorded h

theorem calExamine_recorded (h : s.Recorded) : (calExamine s).Recorded := by
  unfold calExamine
  split
  · exact h
  · exact Kept.when _ (h.onCal fun _ => rfl) h

theorem drumReportToCal_recorded (h : s.Recorded) : (drumReportToCal s).Recorded := by
  unfold drumReportToCal
  split
  · exact h
  · exact Kept.when _ h (Kept.when _ (calFail_recorded h) (calExamine_recorded h))

theorem noLockToCal_recorded (h : s.Recorded) : (noLockToCal s).Recorded := by
  unfold noLockToCal
  split
  · exact h
  · exact Kept.when _ (calFail_recorded h) h

theorem carriageFaultToCal_recorded (h : s.Recorded) : (carriageFaultToCal s).Recorded := by
  unfold carriageFaultToCal
  split
  · exact h
  · exact Kept.when _ (calFail_recorded h) h

theorem calArrived_recorded (h : s.Recorded) : (calArrived s).Recorded := calExamine_recorded (h.onCal fun _ => rfl)

theorem reportArrival_recorded (h : s.Recorded) : (reportArrival s).Recorded := Kept.when _ (calArrived_recorded h) h

theorem moveFromHome_recorded {p : Nat} (h : s.Recorded) : (moveFromHome p s).Recorded :=
  Kept.when _ (calArrived_recorded h) (reportArrival_recorded (h.frame (by simp)))

theorem moveTo_recorded {p : Nat} (h : s.Recorded) : (moveTo p s).Recorded :=
  Kept.when _ (moveFromHome_recorded h) (h.frame (by simp))

/-! ## What a run measures -/

/-- The dark offset joins the record at 0..1,023, and the white mark falls (R62, R76). -/
theorem darkOutcome_recorded {c : CalRun} (h : s.Recorded) : (darkOutcome c s).Recorded := by
  unfold darkOutcome
  dsimp only
  split
  · exact calEnd_recorded h
  · exact calEnd_recorded { h with scanPart := ⟨by dsimp only; omega, nofun, nofun⟩ }

/-- W_raw joins the record at least 512 above the offset, with the formula's gain (R64, R77). -/
theorem whiteOutcome_recorded {c : CalRun} (h : s.Recorded) : (whiteOutcome c s).Recorded := by
  unfold whiteOutcome
  dsimp only
  split
  · exact calEnd_recorded h
  · exact calEnd_recorded { h with
      scanPart := {
        offset := h.scanPart.offset
        valid := fun hv => ⟨((Bool.or_eq_true _ _).mp hv).elim (fun hv => (h.scanPart.valid hv).1) id, rfl⟩
        white := fun _ => ⟨by dsimp only; omega, rfl⟩ } }

/-- The curve built from the tablet replaces the curve (R81). -/
theorem stepsOutcome_recorded {c : CalRun} (h : s.Recorded) (hc : c.Inv) : (stepsOutcome c s).Recorded := by
  unfold stepsOutcome
  dsimp only
  split
  · exact calEnd_recorded h
  · refine calEnd_recorded { h with curve := curveInv_tabletCurve fun q hq => ?_ }
    obtain ⟨st, hst, e⟩ := List.mem_map.1 (List.of_mem_zip (a := q.1) (b := q.2) hq).2
    exact e ▸ hc st hst

theorem calOutcome_recorded {c : CalRun} (h : s.Recorded) (hc : c.Inv) : (calOutcome c s).Recorded := by
  unfold calOutcome
  split
  · exact h
  · exact darkOutcome_recorded h
  · exact whiteOutcome_recorded h
  · exact stepsOutcome_recorded h hc

theorem CalRun.Inv.countRevolution {c : CalRun} (hc : c.Inv) (locked : Bool) : (c.countRevolution locked).Inv := by
  unfold CalRun.countRevolution
  split
  · exact hc
  · exact hc

theorem calRevolutionEnd_recorded {locked : Bool} (h : s.Recorded) : (calRevolutionEnd locked s).Recorded := by
  unfold calRevolutionEnd
  split
  · exact h
  · rename_i c hcal
    have hc := (h.cal c hcal).countRevolution locked
    have ht := h.withCal hc
    exact Kept.when _ (calOutcome_recorded ht hc) (Kept.when _ (calFail_recorded ht) ht)

theorem revolutionToCal_recorded {locked : Bool} {x : Nat} (h : s.Recorded) : (revolutionToCal locked x s).Recorded := by
  unfold revolutionToCal
  split
  · exact h
  · exact Kept.when _ (State.Recorded.onCal (Kept.when _ (calRevolutionEnd_recorded h) h) fun _ => rfl) h

/-! ## The drum -/

theorem reportDrum_recorded (h : s.Recorded) : (reportDrum s).Recorded := drumReportToCal_recorded (h.frame (by simp))

theorem drumChanged_recorded (h : s.Recorded) : (drumChanged s).Recorded := reportDrum_recorded (h.frame (by simp))

theorem speedRequest_recorded {rpm : Nat} (h : s.Recorded) : (speedRequest rpm s).Recorded := by
  unfold speedRequest
  split_ifs
  · exact h
  · exact reportDrum_recorded (h.frame (by simp))
  · exact drumChanged_recorded (h.frame (by simp))
  · exact h

theorem enterSpinningDown_recorded (h : s.Recorded) : (enterSpinningDown s).Recorded :=
  drumChanged_recorded (h.frame (by simp))

theorem stopRequest_recorded {b : Bool} (h : s.Recorded) : (stopRequest b s).Recorded := by
  unfold stopRequest
  cases s.drum.state with
  | spinningUp | locked | drift | calibrating => exact enterSpinningDown_recorded h
  | fault => exact Kept.when _ (enterSpinningDown_recorded h) h
  | stopped | spinningDown => exact h

/-- Speeds far enough apart are installed, Kp and Ki as they were (R75). -/
theorem motorComplete_recorded {p1 p2 : Nat} (h : s.Recorded) : (motorComplete p1 p2 s).Recorded := by
  unfold motorComplete
  dsimp only
  split
  · rename_i hslope
    exact calEnd_recorded (stopRequest_recorded
      { h with motor := ⟨fun _ => of_decide_eq_true hslope, h.motor.2⟩ })
  · exact calEnd_recorded (stopRequest_recorded h)

theorem motorPeriod_recorded {p : Nat} (h : s.Recorded) : (motorPeriod p s).Recorded := by
  unfold motorPeriod
  split
  · exact h
  · rename_i c hcal
    have hc : c.Inv := h.cal c hcal
    dsimp only
    split
    · refine Kept.when _ { h with cal := fun b e => ?_ } (h.withCal hc)
      cases e
      exact hc
    · exact Kept.when _ (motorComplete_recorded h) (h.withCal hc)
    · exact h

theorem noLockFound_recorded (h : s.Recorded) : (noLockFound s).Recorded := noLockToCal_recorded (h.frame (by simp))

theorem stallFound_recorded (h : s.Recorded) : (stallFound s).Recorded := calFail_recorded (h.frame (by simp))

theorem regulate_recorded {P : Nat} (h : s.Recorded) : (regulate P s).Recorded := by
  unfold regulate
  have hl : (s.onDrum (Drum.loopStep s.motor s.settings P s.now)).Recorded := h.frame (by simp)
  have hc : State.Recorded (if !s.drum.clip && (s.onDrum (Drum.loopStep s.motor s.settings P s.now)).drum.clip then
      drumEvent .clip (s.onDrum (Drum.loopStep s.motor s.settings P s.now))
    else s.onDrum (Drum.loopStep s.motor s.settings P s.now)) := Kept.when _ (hl.frame (by simp)) hl
  exact Kept.when _ (hc.frame (by simp)) (drumChanged_recorded (hc.frame (by simp)))

theorem calTakeDrum_recorded {asks : Bool} (h : s.Recorded) : (calTakeDrum asks s).Recorded := by
  have hs : State.Recorded (if asks then speedRequest 60 s else s) := Kept.when _ (speedRequest_recorded h) h
  exact calExamine_recorded (Kept.when _ (noLockToCal_recorded hs) hs)

/-! ## Runs begin -/

theorem State.Recorded.begun (h : s.Recorded) (k : CalKind) {l : List TabletStep} (hl : ∀ st ∈ l, st.target ≤ 4095)
    (p : Nat) : State.Recorded { s with cal := some (newCalRun k l p s.now) } := h.withCal hl

theorem beginMotor_recorded (h : s.Recorded) : (beginMotor s).Recorded :=
  drumChanged_recorded ((h.begun .motor (l := []) (by simp) 0).frame (by simp))

theorem beginDark_recorded (h : s.Recorded) : (beginDark s).Recorded :=
  calTakeDrum_recorded ((h.begun .dark (l := []) (by simp) 0).frame (by simp))

theorem beginWhite_recorded (h : s.Recorded) : (beginWhite s).Recorded :=
  calTakeDrum_recorded ((h.begun .white (l := []) (by simp) 0).frame (by simp))

theorem beginSteps_recorded {p : Nat} {l : List TabletStep} (h : s.Recorded) (hl : ∀ st ∈ l, st.target ≤ 4095) :
    (beginSteps p l s).Recorded := by
  have ht := calTakeDrum_recorded (asks := true)
    ((h.begun .steps hl p).frame (t := lampJoin .calibration { s with cal := some (newCalRun .steps l p s.now) }) (by simp))
  exact Kept.when _ (moveTo_recorded ht) ht

/-! ## The index pulse -/

theorem measured_recorded (h : s.Recorded) : s.measured.Recorded := h.frame (by simp [State.measured])

theorem regulated_recorded (h : s.Recorded) : s.regulated.Recorded := by
  unfold State.regulated
  split
  · exact regulate_recorded (measured_recorded h)
  · exact measured_recorded h

theorem indexPulse_recorded {x : Nat} (h : s.Recorded) : (indexPulse x s).Recorded := by
  have hturn : ∀ measuring locked : Bool, State.Recorded
      (if measuring then revolutionToCal locked x (revolutionReport locked x s.regulated)
        else revolutionReport locked x s.regulated) := fun _ _ =>
    Kept.when _ (revolutionToCal_recorded ((regulated_recorded h).frame (by simp)))
      ((regulated_recorded h).frame (by simp))
  have hm := measured_recorded h
  unfold indexPulse
  dsimp only
  split
  · exact hturn _ _
  · exact hturn _ _
  · exact hturn _ _
  · exact h.frame (by simp)
  · split
    · exact motorPeriod_recorded hm
    · exact hm
  · exact hm
  · exact hm

/-! ## Selection and mounts -/

theorem runStart_recorded {o : Order} (h : s.Recorded) : (runStart o s).Recorded := by
  have hb : (runBegun o s).Recorded :=
    State.Recorded.frame (speedRequest_recorded (rpm := o.header.speed)
      (s := ({ s with run := some (runRecordFor o s) } : State).onStore fun _ =>
        Store.opened o.number o.header.samples o.lines) (h.frame (by simp))) (by simp [runBegun])
  rw [runStart_eq]
  exact Kept.when _ (Kept.when _ (hb.frame (by simp)) hb) (hb.frame (by simp))

theorem select_recorded (h : s.Recorded) : (select s).Recorded := by
  unfold select
  split
  · split
    · exact runStart_recorded (h.frame (by simp))
    · exact h
  · exact h

theorem selectAfterCal_recorded (h : t.Recorded) : (selectAfterCal s t).Recorded := Kept.when _ (select_recorded h) h

theorem mountStart_recorded (h : s.Recorded) : (mountStart s).Recorded := select_recorded (h.frame (by simp))

theorem examineMount_recorded (h : s.Recorded) : (examineMount s).Recorded := Kept.when _ (mountStart_recorded h) h

theorem panelEvent_recorded {i : PanelInput} {level : Option Nat} (h : s.Recorded) : (panelEvent i level s).Recorded :=
  h.frame (by simp)

theorem mountEnd_recorded (h : s.Recorded) : (mountEnd s).Recorded := h.frame (by simp)

theorem doorInterlock_recorded (h : s.Recorded) : (doorInterlock s).Recorded := by
  have hd : (s.onDrum (Drum.interlock s.now)).Recorded := h.frame (by simp)
  have hn : State.Recorded (if (s.onDrum (Drum.interlock s.now)).drum.state = s.drum.state then
      s.onDrum (Drum.interlock s.now) else drumEvent .state (s.onDrum (Drum.interlock s.now))) :=
    Kept.when _ hd (hd.frame (by simp))
  exact mountEnd_recorded (calAbort_recorded (hn.frame (by simp)))

theorem openDoor_recorded (h : s.Recorded) : (openDoor s).Recorded :=
  panelEvent_recorded (selectAfterCal_recorded (doorInterlock_recorded (h.frame (by simp))))

theorem releaseClamp_recorded (h : s.Recorded) : (releaseClamp s).Recorded :=
  panelEvent_recorded (selectAfterCal_recorded
    (Kept.when _ (doorInterlock_recorded (h.frame (by simp))) (h.frame (by simp))))

/-! ## Timers of the drum, the lamp and the carriage -/

theorem quietExpired_recorded (h : s.Recorded) : (quietExpired s).Recorded := drumChanged_recorded (h.frame (by simp))

theorem spinHoldExpired_recorded (h : s.Recorded) : (spinHoldExpired s).Recorded :=
  Kept.when _ (h.frame (by simp)) (Kept.when _ (stopRequest_recorded (h.frame (by simp))) (h.frame (by simp)))

theorem settleEnd_recorded (h : s.Recorded) : (settleEnd s).Recorded := h.onCal fun c => by split <;> rfl

theorem warmUpDone_recorded (h : s.Recorded) : (warmUpDone s).Recorded := calExamine_recorded (h.frame (by simp))

theorem carriageFailed_recorded (h : s.Recorded) : (carriageFailed s).Recorded :=
  carriageFaultToCal_recorded (h.frame (by simp))

theorem homeStep_recorded (h : s.Recorded) : (homeStep s).Recorded :=
  Kept.when _ (carriageFailed_recorded (h.frame (by simp))) (h.frame (by simp))

theorem carriageStep_recorded (h : s.Recorded) : (carriageStep s).Recorded :=
  Kept.when _ (homeStep_recorded h) (Kept.when _ (reportArrival_recorded (h.frame (by simp))) h)

theorem examineStart_recorded (h : s.Recorded) : (examineStart s).Recorded := h.frame (by simp)

theorem homeReached_recorded (h : s.Recorded) : (homeReached s).Recorded := by
  have hr : (reportCarriage (s.onCarriage fun c => { c.arriveHome with waitingMove := none })).Recorded := h.frame (by simp)
  unfold homeReached
  dsimp only
  split
  · exact examineStart_recorded (moveFromHome_recorded hr)
  · exact hr.frame (by simp)

/-- An encoder edge adds at most a sample to the run (R94). -/
theorem encoderEdge_recorded {e : Edge} {x : Nat} (h : s.Recorded) : (encoderEdge e x s).Recorded := by
  have hc := h.onCal (f := fun r => if r.revBegun then
      { r with samples := takeSample 1024 (if e = .rising then s.encoder.count + 1 else s.encoder.count) e x r.samples }
    else r) fun c => by split <;> rfl
  exact hc.frame (by simp [encoderEdge])

end

end Sys2Proof.Machine
end

section
/-! PROOF. Every request and every command keeps the records' invariants (R28, R31, R61 to R67, R197). -/

namespace Sys2Proof.Machine

section
variable {s t : State} {p : List Byte}

/-! ## Requests that write a record -/

theorem retire_recorded (h : s.Recorded) : (retire s).Recorded := h.frame (by simp)

theorem serveStationLoad_recorded (h : s.Recorded) : (serveStationLoad p s).2.Recorded := by
  unfold serveStationLoad
  dsimp only
  split
  · exact h
  · rename_i hf
    split
    · exact h
    · exact { h with directory := h.directory.load hf }

theorem serveSettingsSet_recorded (h : s.Recorded) (hp : p.length = 29) : (serveSettingsSet p s).2.Recorded := by
  unfold serveSettingsSet
  dsimp only
  split
  · exact h
  · split
    · exact h
    · rename_i hf
      have ht : State.Recorded { s with settings := (SettingsFields.ofPayload p).settings } :=
        { h with settings := SettingsFields.settings_inRange hp hf }
      exact Kept.when _ (retire_recorded ht) ht

theorem serveSlipMode_recorded {v : Nat} (h : s.Recorded) : (serveSlipMode v s).2.Recorded := by
  have hm : ∀ b, State.Recorded { s with settings := { s.settings with slipMode := b } } := fun b =>
    { h with settings := h.settings }
  unfold serveSlipMode
  split_ifs
  · exact retire_recorded (hm false)
  · exact h
  · exact hm true
  · exact h

theorem serveCalLoad_recorded (h : s.Recorded) : (serveCalLoad p s).2.Recorded := by
  unfold serveCalLoad
  dsimp only
  split
  · exact h
  · split
    · exact h
    · split
      · exact h
      · rename_i hf
        exact { h with motor := CalFields.install_motor h.motor hf, scanPart := CalFields.install_scanPart h.scanPart hf }

theorem serveCurveLoad_recorded (h : s.Recorded) : (serveCurveLoad p s).2.Recorded := by
  unfold serveCurveLoad
  split
  · exact h
  · split
    · exact h
    · rename_i hk
      exact { h with curve := curveInv_knotsOf hk }

/-! ## Requests that begin or end a run -/

theorem serveCalKind_recorded {k : CalKind} {f : State → State} (h : s.Recorded) (hf : (f s).Recorded) :
    (serveCalKind k f s).2.Recorded := by
  unfold serveCalKind
  split
  · exact h
  · exact Kept.when _ (select_recorded hf) hf

theorem serveCalRun_recorded (h : s.Recorded) : (serveCalRun p s).2.Recorded := by
  unfold serveCalRun
  split
  · exact serveCalKind_recorded h (beginMotor_recorded h)
  · exact serveCalKind_recorded h (beginDark_recorded h)
  · exact serveCalKind_recorded h (beginWhite_recorded h)
  · split
    · exact h
    · exact serveCalKind_recorded h (beginSteps_recorded h (stepsOf_target p))
  · exact h

theorem startSpinHold_recorded (h : s.Recorded) : (startSpinHold s).Recorded := h.frame (by simp)

theorem serveDrumSpin_recorded (h : s.Recorded) : (serveDrumSpin p s).2.Recorded := by
  unfold serveDrumSpin
  dsimp only
  split
  · exact h
  · exact Kept.when _ (stopRequest_recorded h) (startSpinHold_recorded (speedRequest_recorded h))

theorem finishAssembly_recorded {n : Nat} (h : s.Recorded) : (finishAssembly n s).2.Recorded := by
  unfold finishAssembly
  split
  · exact h
  · split
    · exact h.frame (by simp)
    · exact select_recorded (h.frame (by simp))

theorem serveOrderBegin_recorded (h : s.Recorded) : (serveOrderBegin p s).2.Recorded := by
  unfold serveOrderBegin
  split
  · exact h
  · split
    · exact h
    · dsimp only
      split
      · exact finishAssembly_recorded (h.frame (by simp))
      · exact h.frame (by simp)

theorem serveOrderPart_recorded (h : s.Recorded) : (serveOrderPart p s).2.Recorded := by
  unfold serveOrderPart
  dsimp only
  split
  · exact h
  · split_ifs
    · exact h
    · exact h.frame (by simp)
    · exact finishAssembly_recorded (h.frame (by simp))
    · exact h.frame (by simp)

theorem serveQueueControl_recorded (h : s.Recorded) : (serveQueueControl p s).2.Recorded := by
  unfold serveQueueControl
  split_ifs
  · exact h.frame (by simp)
  · exact h
  · exact select_recorded (h.frame (by simp))
  · exact h

theorem serveSlipControl_recorded (h : s.Recorded) : (serveSlipControl p s).2.Recorded := by
  unfold serveSlipControl
  split
  · exact serveSlipMode_recorded h
  · exact h.frame (by simp)
  · exact h.frame (by simp)
  · exact h

theorem serveRestart_recorded (h : s.Recorded) : (serveRestart p s).2.Recorded := by
  have hr : ∀ b, (carryOutRestart b s).Recorded := fun b => h.noCal.frame rfl
  unfold serveRestart
  dsimp only
  split_ifs
  · exact h
  · exact hr _
  · exact (hr (byteAt p 0 == 1)).frame (by simp)

/-! ## Serving -/

/-- Every owner's answer to a request of agreeing length. -/
theorem serveKind_recorded {k : Byte} (h : s.Recorded) (hl : lengthAgrees k p = true) :
    (serveKind k.toNat p s).2.Recorded := by
  unfold serveKind answered
  split
  · exact h.frame (by simp)
  · rename_i hk
    exact serveSettingsSet_recorded h (by simpa [lengthAgrees, hk] using hl)
  · exact h
  · exact h.frame (by simp)
  · exact serveStationLoad_recorded h
  · exact h.frame (by simp)
  · exact serveCalLoad_recorded h
  · exact h.frame (by simp)
  · exact serveCurveLoad_recorded h
  · exact serveCalRun_recorded h
  · exact serveOrderBegin_recorded h
  · exact serveOrderPart_recorded h
  · exact h.frame (by simp)
  · exact h.frame (by simp)
  · exact h
  · exact serveQueueControl_recorded h
  · exact serveDrumSpin_recorded h
  · exact serveSlipControl_recorded h
  · exact serveRestart_recorded h
  · exact h

theorem answer_recorded {r : Request} (h : s.Recorded) : (answer r s).2.Recorded := by
  unfold answer
  split_ifs with _ hl
  · exact serveKind_recorded h hl
  · exact h
  · exact h

theorem serveFront_recorded (h : s.Recorded) : (serveFront s).Recorded :=
  serveFront_ind h (fun _ => answer_recorded h) fun _ _ _ h => h.frame (by simp)

theorem onLink_recorded {f : Link → Link} (h : s.Recorded) : (s.onLink f).Recorded := h.frame (by simp)

theorem offerFrame_recorded {r : Request} (h : s.Recorded) : (offerFrame r s).Recorded :=
  Kept.when _ (serveFront_recorded (h.frame (by simp))) (h.frame (by simp))

theorem arrive_recorded {k tag : Byte} (h : s.Recorded) : (arrive k tag p s).Recorded :=
  Kept.when _ (h.frame (by simp)) (offerFrame_recorded h)

theorem receiveByte_recorded {b : Byte} (h : s.Recorded) : (receiveByte b s).Recorded := by
  unfold receiveByte
  dsimp only
  split
  · exact offerFrame_recorded (h.frame (by simp))
  · exact h.frame (by simp)

theorem frameDone_recorded (h : s.Recorded) : (frameDone s).Recorded := by
  unfold frameDone
  split
  · exact h
  · exact onLink_recorded (serveFront_recorded (onLink_recorded h))

/-! ## The end of a run -/

theorem releasedReport_recorded (h : s.Recorded) : (releasedReport s).Recorded := by
  unfold releasedReport
  split
  · exact h
  · split
    · exact h.frame (by simp)
    · exact retire_recorded (select_recorded (h.frame (by simp)))

theorem releaseCleared_recorded (h : s.Recorded) : (releaseCleared s).Recorded :=
  Kept.when _ (h.frame (by simp)) (releasedReport_recorded (h.frame (by simp)))

/-! ## Commands -/

theorem reset_recorded : State.reset.Recorded := State.recorded_iff.2 ⟨reset_recordsInv, reset_calibrationInv⟩

/-- Every command keeps the records' invariants. -/
theorem exec_recorded (i : Instr) (h : s.Recorded) : ∃ t, exec i s = .next t ∧ t.Recorded := by
  have ha : ∀ dt, (advance dt s).Recorded := fun _ => h.frame (by simp)
  cases hf : i.frame with
  | some f => exact ⟨_, exec_frame hf s, arrive_recorded (ha f.1)⟩
  | none =>
    cases i with
    | powerOn l => exact ⟨_, rfl, reset_recorded.frame rfl⟩
    | linkByteReceived dt b => exact ⟨_, rfl, receiveByte_recorded (ha dt)⟩
    | frameSent dt => exact ⟨_, rfl, Kept.when _ (frameDone_recorded (ha dt)) (ha dt)⟩
    | doorOpen dt => exact ⟨_, rfl, Kept.when _ (openDoor_recorded (ha dt)) (ha dt)⟩
    | doorClose dt | clampEngage dt =>
      exact ⟨_, rfl, Kept.when _ (panelEvent_recorded (examineMount_recorded ((ha dt).frame (by simp)))) (ha dt)⟩
    | clampRelease dt => exact ⟨_, rfl, Kept.when _ (releaseClamp_recorded (ha dt)) (ha dt)⟩
    | stopKey dt =>
      exact ⟨_, rfl, panelEvent_recorded (stopRequest_recorded (calAbort_recorded ((ha dt).frame (by simp))))⟩
    | indexPulse dt x => exact ⟨_, rfl, selectAfterCal_recorded (indexPulse_recorded (ha dt))⟩
    | spinUpLimitExpiry dt =>
      exact ⟨_, rfl, Kept.when _ (selectAfterCal_recorded (noLockFound_recorded (ha dt))) (ha dt)⟩
    | stall dt => exact ⟨_, rfl, Kept.when _ (selectAfterCal_recorded (stallFound_recorded (ha dt))) (ha dt)⟩
    | quietTimerExpiry dt => exact ⟨_, rfl, Kept.when _ (quietExpired_recorded (ha dt)) (ha dt)⟩
    | spinHoldExpiry dt =>
      exact ⟨_, rfl, Kept.when _ (selectAfterCal_recorded (spinHoldExpired_recorded (ha dt))) (ha dt)⟩
    | motorSettleEnd dt => exact ⟨_, rfl, Kept.when _ (settleEnd_recorded (ha dt)) (ha dt)⟩
    | darkLampSettled dt => exact ⟨_, rfl, Kept.when _ (calExamine_recorded (ha dt)) (ha dt)⟩
    | warmUpExpiry dt => exact ⟨_, rfl, Kept.when _ (warmUpDone_recorded (ha dt)) (ha dt)⟩
    | lampIdleExpiry dt => exact ⟨_, rfl, Kept.when _ (calExamine_recorded ((ha dt).frame (by simp))) (ha dt)⟩
    | carriageStep dt => exact ⟨_, rfl, Kept.when _ (selectAfterCal_recorded (carriageStep_recorded (ha dt))) (ha dt)⟩
    | homeSwitchClose dt => exact ⟨_, rfl, Kept.when _ (homeReached_recorded (ha dt)) ((ha dt).frame (by simp))⟩
    | homeSearchLimit dt => exact ⟨_, rfl, Kept.when _ (selectAfterCal_recorded (homeStep_recorded (ha dt))) (ha dt)⟩
    | releaseCleared dt => exact ⟨_, rfl, Kept.when _ (releaseCleared_recorded (ha dt)) (ha dt)⟩
    | encoderCount dt e x => exact ⟨_, rfl, Kept.when _ (encoderEdge_recorded (ha dt)) (ha dt)⟩
    | callEnd dt =>
      exact ⟨_, rfl, Kept.when _ ((ha dt).frame (by simp)) (Kept.when _ ((ha dt).frame (by simp)) (ha dt))⟩
    | loopCurrentReturn dt | replyQualified dt _ => exact ⟨_, rfl, (ha dt).frame (by simp)⟩
    | replyEnd dt | replyOverlong dt =>
      refine ⟨_, rfl, ?_⟩
      split
      · exact (ha dt).frame (by simp)
      · exact ha dt
    | gapTimerExpiry dt | assemblyTimeout dt | lineBoundary dt | startToneEnd dt | stopToneEnd dt | loopCurrentLost dt
    | lineLoss dt | guardExpiry dt | replyWindowExpiry dt | dialToneFound dt | noDialTone dt | dialDigitsEnd dt
    | holdBurst dt | holdBurstEnd dt | deferLimitExpiry dt | paperOut dt | paperBack dt | rowStepEnd dt
    | timeOfDayTick dt => exact ⟨_, rfl, Kept.when _ ((ha dt).frame (by simp)) (ha dt)⟩
    | _ => simp [Instr.frame] at hf

end

/-- Settles O59: each writer of a record keeps its block's invariant (`CodesDistinct.load`, `SettingsFields.settings_inRange`,
`curveInv_tabletCurve` and the outcomes of the runs), and every other command leaves the records as they were or ends a
calibration run (`exec_recorded`). -/
theorem everyStepKeepsTheRecords : Obligations.EveryStepKeepsTheRecords := by
  intro s t hr hc e
  have h : s.Recorded := State.recorded_iff.2 ⟨hr, hc⟩
  refine State.recorded_iff.1 ?_
  unfold step at e
  split at e
  · cases e
    exact h
  · obtain ⟨u, hu, hrec⟩ := exec_recorded (s := { s with pending := ‹_› }) ‹Instr› (h.frame (by simp))
    rw [hu] at e
    cases e
    exact hrec

end Sys2Proof.Machine
end

section
/-! PROOF. STATION_LOAD and STATION_READ case by case (R31, R32, R33). -/

namespace Sys2Proof.Machine

section
variable {s : State} {p : List Byte} {o : Order}

theorem serveStationLoad_refused {i : Nat} (hf : (StationFields.ofPayload p).fault s.directory = some i) :
    serveStationLoad p s = (.refused .fieldRange i, s) := by
  simp [serveStationLoad, hf]

theorem serveStationLoad_inUse (hf : (StationFields.ofPayload p).fault s.directory = none)
    (hu : s.firstUser (StationFields.ofPayload p).number = some o) :
    serveStationLoad p s = (.refused .inUse o.number, s) := by
  simp [serveStationLoad, hf, hu]

theorem serveStationLoad_ok (hf : (StationFields.ofPayload p).fault s.directory = none)
    (hu : s.firstUser (StationFields.ofPayload p).number = none) :
    serveStationLoad p s = (.ok (u16 (StationFields.ofPayload p).number),
      { s with directory :=
          s.directory.set ((StationFields.ofPayload p).number - 1) (StationFields.ofPayload p).entry }) := by
  simp [serveStationLoad, hf, hu]

theorem firstUser_eq_none {n : Nat} : s.firstUser n = none ↔ ∀ o ∈ s.manager.table, Order.names n o = false := by
  simp [State.firstUser, List.find?_eq_none]

theorem serveStationRead_refused (h : byteAt p 0 = 0 ∨ 32 < byteAt p 0) :
    serveStationRead p s = (.refused .fieldRange 1, s) := if_pos h

theorem serveStationRead_ok (h1 : 1 ≤ byteAt p 0) (h32 : byteAt p 0 ≤ 32) :
    serveStationRead p s =
      (.ok (entryBytes (byteAt p 0) (s.directory.getD (byteAt p 0 - 1) .disabled) ++ u8 (s.useCount (byteAt p 0))), s) :=
  if_neg (by omega)

end

/-- Settles O16: the cases of `serveStationLoad` and `serveStationRead`. -/
theorem stationLoadAndRead : Obligations.StationLoadAndRead := by
  intro dt tag s hf
  refine ⟨fun p h19 h60 hlen => ?_, fun n => ?_⟩
  · have hserve : ∀ (a : Reply) (u : State), u.link.tx = s.link.tx → u.link.replySlot = s.link.replySlot →
        serveStationLoad p (s.serving dt ⟨0x05#8, tag, p⟩) = (a, u.serving dt ⟨0x05#8, tag, p⟩) →
        exec (.stationLoad dt tag p) s = .next (u.answered dt ⟨0x05#8, tag, p⟩ a) := fun a u htx hslot he =>
      exec_request (i := .stationLoad dt tag p) rfl hf h60 rfl (by simp [lengthAgrees, h19, ← hlen]) a u htx hslot
        (congrArg answered he)
    refine ⟨fun i hi => ?_, fun hok o ho => ?_, fun hok hno => ?_⟩
    · exact hserve _ s rfl rfl (serveStationLoad_refused hi)
    · exact hserve _ s rfl rfl (serveStationLoad_inUse hok ho)
    · exact hserve _ { s with directory := _ } rfl rfl (serveStationLoad_ok hok (firstUser_eq_none.2 hno))
  · have hserve : ∀ a : Reply,
        serveStationRead [n] (s.serving dt ⟨0x06#8, tag, [n]⟩) = (a, s.serving dt ⟨0x06#8, tag, [n]⟩) →
        exec (.stationRead dt tag [n]) s = .next (s.answered dt ⟨0x06#8, tag, [n]⟩ a) := fun a he =>
      exec_request (i := .stationRead dt tag [n]) rfl hf (by simp) rfl rfl a s rfl rfl (congrArg answered he)
    exact ⟨fun h => hserve _ (serveStationRead_refused h), fun h1 h32 => hserve _ (serveStationRead_ok h1 h32)⟩

end Sys2Proof.Machine
end

section
/-! PROOF. The fields of a STATION_LOAD and the bytes that give them back: a station entry's reply is taken back as the same
entry (R28, R31, R32, R196). -/

namespace Sys2Proof.Machine

/-! ## Numbers and characters as bytes -/

theorem toNat_byte {n : Nat} (h : n < 256) : (BitVec.ofNat 8 n).toNat = n := by
  simpa using h

theorem byteAt_zero (b : Byte) (p : List Byte) : byteAt (b :: p) 0 = b.toNat := rfl

theorem byteAt_succ (b : Byte) (p : List Byte) (i : Nat) : byteAt (b :: p) (i + 1) = byteAt p i := rfl

theorem byteAt_append {a : List Byte} (p : List Byte) {n : Nat} (h : a.length = n) (i : Nat) :
    byteAt (a ++ p) (n + i) = byteAt p i := by
  simp [byteAt, List.getElem?_append_right, h]

theorem beNat_u16 {n : Nat} (h : n < 65536) : beNat (u16 n) = n := by
  simp only [beNat, u16, List.foldl_cons, List.foldl_nil, BitVec.toNat_ofNat]
  omega

@[simp] theorem textBytes_length (t : List Char) : (textBytes t).length = t.length := List.length_map _

theorem toNat_byteOf {c : Char} (h : c.toNat < 256) : (byteOf c).toNat = c.toNat := toNat_byte h

theorem charOf_byteOf {c : Char} (h : c.toNat < 256) : charOf (byteOf c) = c := by
  rw [charOf, toNat_byteOf h, Char.ofNat_toNat]

/-! ## The layout of a STATION_LOAD -/

/-- The fields up to the name, in the 15 bytes that `pad` fills (R196). -/
def StationFields.front (f : StationFields) (pad : List Byte) : List Byte :=
  u8 f.number ++ u8 f.enabled ++ u8 f.nameLen ++ (f.name ++ pad)

/-- The fields after the name (R196). -/
def StationFields.rest (f : StationFields) : List Byte :=
  u8 f.network ++ u16 f.code ++ u8 f.digits.length ++ (f.digits ++ (u8 f.speeds ++ u8 f.mods))

/-- Each field fits its bytes of the layout. -/
structure StationFields.Fits (f : StationFields) (pad : List Byte) : Prop where
  number : f.number < 256
  enabled : f.enabled < 256
  nameLen : f.name.length = f.nameLen
  padded : (f.name ++ pad).length = 12
  network : f.network < 256
  code : f.code < 65536
  digits : f.digits.length < 256
  speeds : f.speeds < 256
  mods : f.mods < 256

section
variable {f : StationFields} {pad : List Byte} (h : f.Fits pad)
include h

theorem front_length : (f.front pad).length = 15 := by
  simpa [StationFields.front, u8] using h.padded

theorem byteAt_front (p : List Byte) : byteAt (f.front pad ++ p) 0 = f.number ∧
    byteAt (f.front pad ++ p) 1 = f.enabled ∧ byteAt (f.front pad ++ p) 2 = f.nameLen := by
  have hlen : f.nameLen + pad.length = 12 := by simpa [h.nameLen] using h.padded
  exact ⟨toNat_byte h.number, toNat_byte h.enabled, toNat_byte (by omega)⟩

theorem name_front (p : List Byte) : (((f.front pad ++ p).drop 3).take 12).take f.nameLen = f.name := by
  change (((f.name ++ pad) ++ p).take 12).take f.nameLen = f.name
  rw [List.take_left' h.padded, List.take_left' h.nameLen]

theorem byteAt_rest (i : Nat) : byteAt (f.front pad ++ f.rest) (15 + i) = byteAt f.rest i :=
  byteAt_append _ (front_length h) i

theorem drop_rest (i : Nat) : (f.front pad ++ f.rest).drop (15 + i) = f.rest.drop i := by
  simp [List.drop_append, front_length h]

theorem byteAt_digits : byteAt (f.front pad ++ f.rest) 18 = f.digits.length :=
  (byteAt_rest h 3).trans (toNat_byte h.digits)

theorem byteAt_sets : byteAt (f.front pad ++ f.rest) (19 + f.digits.length) = f.speeds ∧
    byteAt (f.front pad ++ f.rest) (20 + f.digits.length) = f.mods := by
  have hsets : ∀ i, byteAt (f.front pad ++ f.rest) (19 + f.digits.length + i) = byteAt (u8 f.speeds ++ u8 f.mods) i := by
    intro i
    have hlen : (f.front pad ++ (u8 f.network ++ u16 f.code ++ u8 f.digits.length) ++ f.digits).length
        = 19 + f.digits.length := by
      simp [front_length h, u8, u16]
      omega
    simpa [StationFields.rest] using byteAt_append (u8 f.speeds ++ u8 f.mods) hlen i
  exact ⟨(hsets 0).trans (toNat_byte h.speeds), by
    rw [show 20 + f.digits.length = 19 + f.digits.length + 1 by omega]
    exact (hsets 1).trans (toNat_byte h.mods)⟩

/-- The bytes of fields are read back as the fields. -/
theorem ofPayload_bytes : StationFields.ofPayload (f.front pad ++ f.rest) = f := by
  obtain ⟨hnumber, henabled, hlen⟩ := byteAt_front h f.rest
  obtain ⟨hspeeds, hmods⟩ := byteAt_sets h
  have hnet : byteAt (f.front pad ++ f.rest) 15 = f.network := (byteAt_rest h 0).trans (toNat_byte h.network)
  have hcode : wordAt (f.front pad ++ f.rest) 16 = f.code := by
    rw [wordAt, drop_rest h 1]
    exact beNat_u16 h.code
  have hdigits : ((f.front pad ++ f.rest).drop 19).take f.digits.length = f.digits :=
    (congrArg (List.take _) (drop_rest h 4)).trans (List.take_left' rfl)
  simp only [StationFields.ofPayload, hnumber, henabled, hlen, name_front h, hnet, hcode, byteAt_digits h, hdigits,
    hspeeds, hmods]

/-- The length is the one that STATION_LOAD's layout gives. -/
theorem lengthAgrees_bytes : lengthAgrees 0x05#8 (f.front pad ++ f.rest) = true := by
  have hlen : (f.front pad ++ f.rest).length = 21 + f.digits.length := by
    simp [front_length h, StationFields.rest, u8, u16]
    omega
  simpa [lengthAgrees, byteAt_digits h, hlen] using (by omega : 19 ≤ 21 + f.digits.length)

end

/-! ## The fields of an entry -/

def Address.fieldNetwork : Address → Nat
  | .loop _ => Network.loop.code
  | .dial _ => Network.dial.code

def Address.fieldCode : Address → Nat
  | .loop c => c
  | .dial _ => 0

def Address.fieldDigits : Address → List Byte
  | .loop _ => []
  | .dial ds => textBytes (ds.map DialSymbol.char)

/-- The fields that STATION_READ gives of an entry (R33, R196). -/
def StationEntry.fields (n : Nat) : StationEntry → StationFields
  | .disabled => ⟨n, 0, 0, [], 0xFF, 0, [], 0, 0⟩
  | .enabled st => ⟨n, 1, st.name.length, textBytes st.name, st.address.fieldNetwork, st.address.fieldCode,
      st.address.fieldDigits, speedsByte st, modsByte st⟩

/-- The spaces after a name of `k` characters (R196). -/
def namePad (k : Nat) : List Byte := textBytes (List.replicate (12 - k) ' ')

theorem entryBytes_eq (n : Nat) (e : StationEntry) :
    entryBytes n e = (e.fields n).front (namePad (e.fields n).nameLen) ++ (e.fields n).rest := by
  cases e with
  | disabled => rfl
  | enabled st =>
    obtain ⟨name, address, _, _, _, _, _⟩ := st
    cases address <;>
      simp [entryBytes, StationEntry.fields, StationFields.front, StationFields.rest, namePad, padTo, textBytes, mark,
        Address.fieldNetwork, Address.fieldCode, Address.fieldDigits]

/-! ## Dial symbols and sets -/

theorem dialSymbolOf_char (d : DialSymbol) : dialSymbolOf (byteOf d.char) = some d := by
  cases d with
  | digit d => revert d; decide
  | star => rfl
  | hash => rfl

theorem dialSymbols_cons {b : Byte} {bs : List Byte} {d : DialSymbol} {ds : List DialSymbol}
    (hd : dialSymbolOf b = some d) (hs : dialSymbols bs = some ds) : dialSymbols (b :: bs) = some (d :: ds) := by
  rw [dialSymbols] at hs
  simp only [dialSymbols, List.foldr_cons, hd, hs]

theorem dialSymbols_textBytes (ds : List DialSymbol) : dialSymbols (textBytes (ds.map DialSymbol.char)) = some ds := by
  induction ds with
  | nil => rfl
  | cons d ds ih => exact dialSymbols_cons (dialSymbolOf_char d) ih

theorem speedsByte_bits (st : Station) : (speedsByte st % 2 == 1) = st.rpm60 ∧ (speedsByte st / 2 % 2 == 1) = st.rpm90 ∧
    (speedsByte st / 4 % 2 == 1) = st.rpm120 := by
  unfold speedsByte
  generalize st.rpm60 = a, st.rpm90 = b, st.rpm120 = c
  revert a b c
  decide

theorem speedsByte_range {st : Station} (h : (st.rpm60 || st.rpm90 || st.rpm120) = true) :
    1 ≤ speedsByte st ∧ speedsByte st ≤ 7 := by
  unfold speedsByte
  revert h
  generalize st.rpm60 = a, st.rpm90 = b, st.rpm120 = c
  revert a b c
  decide

theorem modsByte_bits (st : Station) : (modsByte st % 2 == 1) = st.fm ∧ (modsByte st / 2 % 2 == 1) = st.am := by
  unfold modsByte
  generalize st.fm = a, st.am = b
  revert a b
  decide

theorem modsByte_range {st : Station} (h : (st.fm || st.am) = true) : 1 ≤ modsByte st ∧ modsByte st ≤ 3 := by
  unfold modsByte
  revert h
  generalize st.fm = a, st.am = b
  revert a b
  decide

/-! ## The round trip -/

/-- A code 0..9999, or 1..20 dial symbols (R28). -/
def Address.InRange : Address → Prop
  | .loop c => c ≤ 9999
  | .dial ds => 1 ≤ ds.length ∧ ds.length ≤ 20

theorem codeTaken_disabled (n c k : Nat) : codeTaken n c (List.replicate k .disabled) = false := by
  simp only [codeTaken, List.any_eq_false]
  rintro ⟨e, i⟩ he
  have : e = .disabled := (List.mem_replicate.1 (List.fst_mem_of_mem_zipIdx he)).2
  simp [this]

section
variable {a : Address}

theorem fieldNetwork_le : a.fieldNetwork ≤ 1 := by
  cases a with
  | loop c => exact Nat.zero_le _
  | dial ds => exact Nat.le_refl _

theorem fieldCode_le (h : a.InRange) : a.fieldCode ≤ 9999 := by
  cases a with
  | loop c => exact h
  | dial ds => exact Nat.zero_le _

theorem fieldDigits_length (h : a.InRange) : a.fieldDigits.length ≤ 20 := by
  cases a with
  | loop c => exact Nat.zero_le _
  | dial ds => simpa [Address.fieldDigits] using h.2

/-- The digits that a network's fields hold are the ones the field check asks for (R31 step 6). -/
theorem digitsOk_of_address {f : StationFields} (h : a.InRange) (hn : f.network = a.fieldNetwork)
    (hd : f.digits = a.fieldDigits) : f.digitsOk = true := by
  cases a with
  | loop c => simp [StationFields.digitsOk, hn, hd, Address.fieldNetwork, Address.fieldDigits, Network.code]
  | dial ds =>
    obtain ⟨h1, h20⟩ := h
    simp [StationFields.digitsOk, hn, hd, Address.fieldNetwork, Address.fieldDigits, Network.code, dialSymbols_textBytes,
      h1, h20]

/-- The address is read back from the fields it gives. -/
theorem address_of_fields :
    (if a.fieldNetwork = 0 then .loop a.fieldCode else .dial ((dialSymbols a.fieldDigits).getD [])) = a := by
  cases a with
  | loop c => rfl
  | dial ds => simp [Address.fieldNetwork, Network.code, Address.fieldDigits, dialSymbols_textBytes]

end

/-- An enabled entry's fields as R28 describes them. -/
structure Station.InRange (st : Station) : Prop where
  name : 1 ≤ st.name.length ∧ st.name.length ≤ 12
  printable : ∀ c ∈ st.name, 0x20 ≤ c.toNat ∧ c.toNat ≤ 0x7E
  address : st.address.InRange
  speeds : (st.rpm60 || st.rpm90 || st.rpm120) = true
  mods : (st.fm || st.am) = true

section
variable {n : Nat} {st : Station} (h : st.InRange)

theorem disabled_fits (hn : n < 256) : (StationEntry.disabled.fields n).Fits (namePad 0) :=
  have h0 : 0 < 256 := by decide
  ⟨hn, h0, rfl, rfl, Nat.lt_succ_self 255, (by decide : 0 < 65536), h0, h0, h0⟩

include h

theorem charOf_name : (textBytes st.name).map charOf = st.name := by
  have hchar : ∀ c ∈ st.name, (charOf ∘ byteOf) c = id c := fun c hc =>
    charOf_byteOf ((h.printable c hc).2.trans_lt (by decide))
  rw [textBytes, List.map_map, List.map_congr_left hchar, List.map_id]

theorem printable_name : (textBytes st.name).all printable = true := by
  simp only [textBytes, List.all_map, List.all_eq_true]
  intro c hc
  have := h.printable c hc
  simpa [printable, toNat_byteOf (c := c) (by omega)] using this

theorem enabled_fits (hn : n < 256) :
    ((StationEntry.enabled st).fields n).Fits (namePad ((StationEntry.enabled st).fields n).nameLen) where
  number := hn
  enabled := by simp [StationEntry.fields]
  nameLen := textBytes_length _
  padded := by
    have := h.name
    simp [StationEntry.fields, namePad]
    omega
  network := fieldNetwork_le.trans_lt (by decide)
  code := (fieldCode_le h.address).trans_lt (by decide)
  digits := (fieldDigits_length h.address).trans_lt (by decide)
  speeds := (speedsByte_range h.speeds).2.trans_lt (by decide)
  mods := (modsByte_range h.mods).2.trans_lt (by decide)

theorem enabled_valid {k : Nat} : ((StationEntry.enabled st).fields n).Valid (List.replicate k .disabled) where
  name := ⟨h.name.1, h.name.2, printable_name h⟩
  network := fieldNetwork_le
  code := fun _ => fieldCode_le h.address
  digits := digitsOk_of_address h.address rfl rfl
  speeds := speedsByte_range h.speeds
  mods := modsByte_range h.mods
  free := fun _ => codeTaken_disabled _ _ _

theorem enabled_entry : ((StationEntry.enabled st).fields n).entry = .enabled st := by
  obtain ⟨h60, h90, h120⟩ := speedsByte_bits st
  obtain ⟨hfm, ham⟩ := modsByte_bits st
  exact congrArg StationEntry.enabled
    ((Station.mk.injEq ..).mpr ⟨charOf_name h, address_of_fields, h60, h90, h120, hfm, ham⟩)

end

/-- What `Obligations.StationEntryRoundTrip` asks of an entry's bytes, from the fields they are the bytes of. -/
theorem entryBytes_taken {n : Nat} {e : StationEntry} {dir : List StationEntry}
    (hfits : (e.fields n).Fits (namePad (e.fields n).nameLen)) (hfault : (e.fields n).fault dir = none)
    (hentry : (e.fields n).entry = e) :
    lengthAgrees 0x05#8 (entryBytes n e) = true ∧ (StationFields.ofPayload (entryBytes n e)).fault dir = none
      ∧ (StationFields.ofPayload (entryBytes n e)).number = n ∧ (StationFields.ofPayload (entryBytes n e)).entry = e := by
  have hnumber : (e.fields n).number = n := by cases e <;> rfl
  rw [entryBytes_eq, ofPayload_bytes hfits]
  exact ⟨lengthAgrees_bytes hfits, hfault, hnumber, hentry⟩

/-- Settles O17: an entry's bytes are the bytes of its fields (`entryBytes_eq`), which are read back (`ofPayload_bytes`),
pass the checks (`enabled_valid`) and give the entry (`enabled_entry`). -/
theorem stationEntryRoundTrip : Obligations.StationEntryRoundTrip := by
  intro n h1 h32
  refine ⟨fun st hname1 hname12 hchars haddress hspeeds hmods => ?_, ?_⟩
  · have h : st.InRange := ⟨⟨hname1, hname12⟩, hchars, haddress, hspeeds, hmods⟩
    exact entryBytes_taken (enabled_fits h (by omega)) (fault_eq_none.2 ⟨⟨h1, h32⟩, .inr ⟨rfl, enabled_valid h⟩⟩)
      (enabled_entry h)
  · exact entryBytes_taken (disabled_fits (by omega)) (fault_eq_none.2 ⟨⟨h1, h32⟩, .inl rfl⟩) rfl

end Sys2Proof.Machine
end

section
/-! PROOF. The drum invariant (R37 to R39, R43 to R48, R50, R74), first at the drum unit: each of its operations leaves the
drive, the brake, the counts and the timers in agreement with the drum state. -/

namespace Sys2Proof.Machine

/-- The clauses of `Drum.Inv`, named. -/
structure Drum.Sound (d : Drum) : Prop where
  drive : d.drive ≤ 4095
  brake : d.brake = true ↔ d.state = .stopped ∨ d.state = .spinningDown ∨ d.state = .fault
  braked : d.brake = true → d.drive = 0
  calibrating : d.state = .calibrating → d.drive = 1200 ∨ d.drive = 3600
  target : d.state.isTurning = false → d.target = 0
  fed : d.dff.isSome = true ↔ d.state.isTurning = true
  feed : ∀ f, d.dff = some f → 200 ≤ f ∧ f ≤ 3900
  integral : -1024 ≤ d.integral ∧ d.integral ≤ 1024
  counts : d.inCount < 4 ∧ d.outCount < 2
  stall : d.stallTimer.isSome = true ↔ 0 < d.drive
  spinUp : d.spinUpTimer.isSome = true ↔ d.state = .spinningUp ∧ d.noLock = false
  noLock : d.noLock = true → d.state = .spinningUp
  quiet : d.quietTimer.isSome = true ↔ d.state = .spinningDown

/-- A drum but for its trim request and its spin-hold timer, which the invariant does not read. -/
def Drum.core (d : Drum) : Drum := { d with trim := .none, spinHoldTimer := none }

section
variable {d : Drum} {now : Nat}

theorem Drum.inv_iff : d.Inv ↔ d.Sound :=
  ⟨fun ⟨drive, brake, braked, cal, target, fed, feed, integral, counts, stall, spinUp, noLock, quiet⟩ =>
      ⟨drive, brake, braked, cal, target, fed, feed, integral, counts, stall, spinUp, noLock, quiet⟩,
    fun ⟨drive, brake, braked, cal, target, fed, feed, integral, counts, stall, spinUp, noLock, quiet⟩ =>
      ⟨drive, brake, braked, cal, target, fed, feed, integral, counts, stall, spinUp, noLock, quiet⟩⟩

theorem Drum.core_sound : d.core.Sound ↔ d.Sound := by
  rw [← Drum.inv_iff, ← Drum.inv_iff]
  exact Iff.rfl

theorem Drum.state_of_core {d e : Drum} (h : d.core = e.core) : d.state = e.state ∧ d.brake = e.brake :=
  ⟨by have := congrArg Drum.state h; exact this, by have := congrArg Drum.brake h; exact this⟩

theorem Drum.sound_of_core {d e : Drum} (h : d.Sound) (he : e.core = d.core) : e.Sound :=
  Drum.core_sound.1 (he ▸ Drum.core_sound.2 h)

theorem DrumState.isTurning_iff {x : DrumState} : x.isTurning = true ↔ x = .spinningUp ∨ x = .locked ∨ x = .drift := by
  cases x <;> simp [DrumState.isTurning]

theorem DrumState.ne_calibrating {x : DrumState} (h : x.isTurning = true) : x ≠ .calibrating := by
  rintro rfl
  cases h

/-! ## Entries of the drum states -/

/-- SPINNING_UP at a feasible D_ff (R38, R44). -/
theorem Drum.spinUp_sound {rpm D : Nat} (hlow : 200 ≤ D) (hhigh : D ≤ 3900) : (d.spinUp rpm D now).Sound := by
  constructor <;> simp [Drum.spinUp, DrumState.isTurning] <;> omega

theorem Drum.spinDown_sound (h : d.Sound) : (d.spinDown now).Sound := by
  constructor <;> simp [Drum.spinDown, DrumState.isTurning, h.counts]

theorem Drum.calibrate_sound : (d.calibrate now).Sound := by
  constructor <;> simp [Drum.calibrate, DrumState.isTurning, driveLow]

theorem Drum.stalled_sound (h : d.Sound) : d.stalled.Sound := by
  constructor <;> simp [Drum.stalled, DrumState.isTurning, h.counts, h.integral]

/-- STOPPED, when the quiet timer has expired (R37, R39). -/
theorem Drum.quieted_sound (h : d.Sound) (hs : d.state = .spinningDown) :
    Drum.Sound { d with state := .stopped, drive := 0, brake := true, quietTimer := none } := by
  have hdff : d.dff = none := by simpa [hs, DrumState.isTurning] using h.fed
  have hstall : d.stallTimer = none := by
    simpa [h.braked (h.brake.2 (.inr (.inl hs)))] using h.stall
  have hspin : d.spinUpTimer = none := by simpa [hs] using h.spinUp
  have hlock : d.noLock = false := by simpa [hs] using h.noLock
  constructor <;> simp [DrumState.isTurning, hdff, hstall, hspin, hlock, h.counts, h.integral]
  exact h.target (by rw [hs]; rfl)

/-- The door interlock (R50). -/
theorem Drum.interlock_sound (h : d.Sound) : (d.interlock now).Sound ∧ (d.interlock now).brake = true ∧
    (d.interlock now).state ≠ .calibrating := by
  by_cases hs : d.state.spins = true
  · rw [interlock_spins hs]
    exact ⟨spinDown_sound h, rfl, nofun⟩
  · have hstill : d.state = .stopped ∨ d.state = .spinningDown ∨ d.state = .fault := by
      cases hd : d.state <;> simp_all [DrumState.spins]
    have hb := h.brake.2 hstill
    have e : d.interlock now = { d with spinHoldTimer := none } := by
      obtain ⟨hdrive, hstate⟩ := And.intro (h.braked hb) hstill
      unfold Drum.interlock
      split <;> simp_all
    rw [e]
    refine ⟨Drum.sound_of_core h rfl, hb, ?_⟩
    rcases hstill with hd | hd | hd <;> simp [hd]

/-- A RESTART (R60). -/
theorem Drum.restart_sound {keep : Bool} {hold : Nat} (h : d.Sound) : (d.restart keep hold now).Sound ∧
    (d.brake = true → (d.restart keep hold now).brake = true) ∧ (d.restart keep hold now).state ≠ .calibrating := by
  have hcore : ∀ e : Drum, e.core = d.core → d.state ≠ .calibrating →
      e.Sound ∧ (d.brake = true → e.brake = true) ∧ e.state ≠ .calibrating := fun e he hd =>
    ⟨Drum.sound_of_core h he, fun hb => (Drum.state_of_core he).2.trans hb,
      (Drum.state_of_core he).1 ▸ hd⟩
  have hdown : (d.spinDown now).Sound ∧ (d.brake = true → (d.spinDown now).brake = true) ∧
      (d.spinDown now).state ≠ .calibrating := ⟨spinDown_sound h, fun _ => rfl, nofun⟩
  rw [Drum.restart_eq]
  split_ifs with hrun hstill hkeep
  · exact hdown
  · exact hcore _ rfl fun e => by simp [e] at hrun
  · exact hcore _ rfl fun e => by simp [e] at hrun
  · exact hdown

/-! ## The revolution -/

/-- The measure moves a running stall timer on and starts none (R41, R47). -/
theorem Drum.measure_sound (h : d.Sound) : (d.measure now).Sound := by
  refine { h with stall := ?_ }
  have hs := h.stall
  simp only [Drum.measure]
  split
  · simpa
  · exact hs

theorem clamp_range {lo hi x : Int} (h : lo ≤ hi) : lo ≤ clamp lo hi x ∧ clamp lo hi x ≤ hi := by
  unfold clamp
  split_ifs <;> omega

/-- The brake is released in the turning states (R37). -/
theorem Drum.Sound.brake_turning (h : d.Sound) (ht : d.state.isTurning = true) : d.brake = false := by
  have hbrake := h.brake
  rcases DrumState.isTurning_iff.1 ht with e | e | e <;> simpa [e] using hbrake

/-- The loop step of a turning drum: the clamps of R43, and the stall timer with the drive (R47). -/
theorem Drum.loopStep_sound {m : MotorPart} {st : Settings} {P : Nat} (h : d.Sound) (ht : d.state.isTurning = true) :
    (d.loopStep m st P now).Sound := by
  have hne := DrumState.ne_calibrating ht
  have hb := h.brake_turning ht
  have hstall := h.stall
  refine { h with drive := ?_, braked := ?_, calibrating := fun e => absurd e hne, integral := ?_, stall := ?_ }
  · have := clamp_range (x := unclampedDrive m (d.dff.getD 0) (loopError P (targetPeriod st d))
      (integralAfter m (loopError P (targetPeriod st d)) d.integral)) (show (0 : Int) ≤ 4095 by omega)
    simp only [Drum.loopStep]
    omega
  · exact fun e => absurd (hb.symm.trans e) (by decide)
  · exact clamp_range (by omega)
  · simp only [Drum.loopStep]
    split_ifs with hD
    · simp [hD]
    · simpa using Nat.pos_of_ne_zero hD
    · simp_all; omega

/-- Other window counts, below 4 and 2. -/
theorem Drum.Sound.counted (h : d.Sound) {i o : Nat} (hi : i < 4) (ho : o < 2) :
    Drum.Sound { d with inCount := i, outCount := o } := { h with counts := ⟨hi, ho⟩ }

/-- From a turning state to LOCKED or DRIFT, the spin-up limit stopped (R45, R46). -/
theorem Drum.Sound.moved (h : d.Sound) (ht : d.state.isTurning = true) {x : DrumState} (hx : x = .locked ∨ x = .drift) :
    Drum.Sound { d with state := x, inCount := 0, outCount := 0, spinUpTimer := none, noLock := false } := by
  have hturn : x.isTurning = true := by rcases hx with rfl | rfl <;> rfl
  have hb := h.brake_turning ht
  have hq : d.quietTimer.isSome = false := by
    refine Bool.not_eq_true _ ▸ mt h.quiet.1 fun e => ?_
    simp [e, DrumState.isTurning] at ht
  exact { h with
    brake := by rcases hx with rfl | rfl <;> simp [hb]
    calibrating := by rcases hx with rfl | rfl <;> nofun
    target := fun e => absurd (hturn.symm.trans e) (by decide)
    fed := h.fed.trans (by simp [ht, hturn])
    counts := ⟨by simp, by simp⟩
    spinUp := by simp; rintro rfl; simp at hx
    noLock := nofun
    quiet := by rcases hx with rfl | rfl <;> simp [hq] }

theorem Drum.lockTest_reaching (hd : d.state = .spinningUp ∨ d.state = .drift) (within : Bool) :
    d.lockTest within =
      if within then
        if d.inCount = 3 then
          { d with state := .locked, inCount := 0, outCount := 0, spinUpTimer := none, noLock := false }
        else { d with inCount := d.inCount + 1 }
      else { d with inCount := 0 } := by
  rcases hd with hd | hd <;> simp [Drum.lockTest, hd]

theorem Drum.lockTest_locked (hd : d.state = .locked) (within : Bool) : d.lockTest within =
    if within then { d with outCount := 0 }
    else if d.outCount = 1 then { d with state := .drift, inCount := 0, outCount := 0 }
    else { d with outCount := d.outCount + 1 } := by
  simp [Drum.lockTest, hd]

/-- The lock test counts below 4 and 2, and leaves SPINNING_UP with the spin-up limit stopped (R45, R46). -/
theorem Drum.lockTest_sound {within : Bool} (h : d.Sound) (ht : d.state.isTurning = true) : (d.lockTest within).Sound := by
  obtain ⟨hin, hout⟩ := h.counts
  by_cases hd : d.state = .locked
  · have hspin : d.spinUpTimer = none := by simpa [hd] using h.spinUp
    have hlock : d.noLock = false := by simpa [hd] using h.noLock
    rw [lockTest_locked hd]
    split_ifs
    · exact h.counted hin (by omega)
    · have hm := h.moved ht (.inr rfl)
      rwa [← hspin, ← hlock] at hm
    · exact h.counted hin (by omega)
  · have hreach : d.state = .spinningUp ∨ d.state = .drift := by
      rcases DrumState.isTurning_iff.1 ht with e | e | e <;> simp_all
    rw [lockTest_reaching hreach]
    split_ifs
    · exact h.moved ht (.inl rfl)
    · exact h.counted (by omega) hout
    · exact h.counted (by omega) hout

/-- A turning drum turns on after the lock test. -/
theorem Drum.lockTest_turning {within : Bool} (ht : d.state.isTurning = true) :
    (d.lockTest within).state.isTurning = true := by
  by_cases hd : d.state = .locked
  · rw [lockTest_locked hd]
    split_ifs
    · exact ht
    · rfl
    · exact ht
  · rw [lockTest_reaching (by rcases DrumState.isTurning_iff.1 ht with e | e | e <;> simp_all)]
    split_ifs
    · rfl
    · exact ht
    · exact ht

end

end Sys2Proof.Machine
end

section
/-! PROOF. The drum invariant at the state (R37 to R39, R48, R50, R74): the drum under its door, and the calibration run with
it; the operations that leave the drum as it was but for its trim request and its spin-hold timer. -/

namespace Sys2Proof.Machine

/-- A run's phase is one of its kind's: only a MOTOR run settles and measures periods (R74). -/
def CalRun.Fits (c : CalRun) : Prop := c.kind = .motor ↔ c.phase ≠ .waiting ∧ c.phase ≠ .measuring

/-- The drum is sound and braked under an open door, and does not calibrate, whatever run stands. -/
structure State.DrumFree (s : State) : Prop where
  sound : s.drum.Sound
  door : s.panel.door = .opened → s.drum.brake = true
  free : s.drum.state ≠ .calibrating

/-- The clauses of `State.DrumInv`, named. -/
structure State.DrumSafe (s : State) : Prop where
  sound : s.drum.Sound
  door : s.panel.door = .opened → s.drum.brake = true
  motor : s.drum.state = .calibrating ↔ ∃ c, s.cal = some c ∧ c.kind = .motor
  fits : ∀ c, s.cal = some c → c.Fits

section
variable {s t : State} {c : CalRun}

theorem State.drumInv_iff : s.DrumInv ↔ s.DrumSafe :=
  ⟨fun ⟨hd, ho, hm, hf⟩ => ⟨Drum.inv_iff.1 hd, ho, hm, hf⟩,
    fun ⟨hd, ho, hm, hf⟩ => ⟨Drum.inv_iff.2 hd, ho, hm, hf⟩⟩

/-- The fields that the invariant reads. -/
def State.drumFields (s : State) := (s.drum.core, s.panel.door, s.cal)

@[simp] theorem State.drumFields_eq : t.drumFields = s.drumFields ↔
    t.drum.core = s.drum.core ∧ t.panel.door = s.panel.door ∧ t.cal = s.cal := by
  simp [State.drumFields]

theorem State.DrumFree.frame (h : s.DrumFree) (hd : t.drum.core = s.drum.core) (hp : t.panel.door = s.panel.door) :
    t.DrumFree := by
  obtain ⟨hstate, hbrake⟩ := Drum.state_of_core hd
  exact ⟨Drum.sound_of_core h.sound hd, by rw [hp, hbrake]; exact h.door, hstate ▸ h.free⟩

/-- A change of other fields. -/
theorem State.DrumSafe.frame (h : s.DrumSafe) (e : t.drumFields = s.drumFields) : t.DrumSafe := by
  obtain ⟨hd, hp, hc⟩ := State.drumFields_eq.1 e
  obtain ⟨hstate, hbrake⟩ := Drum.state_of_core hd
  exact ⟨Drum.sound_of_core h.sound hd, by rw [hp, hbrake]; exact h.door, by rw [hstate, hc]; exact h.motor,
    by rw [hc]; exact h.fits⟩

theorem State.DrumSafe.toFree (h : s.DrumSafe) (hs : s.drum.state ≠ .calibrating) : s.DrumFree := ⟨h.sound, h.door, hs⟩

/-- Only a MOTOR run keeps the drum in CALIBRATING. -/
theorem State.DrumSafe.free_of_kind (h : s.DrumSafe) (hc : s.cal = some c) (hk : c.kind ≠ .motor) : s.DrumFree :=
  h.toFree fun e => by
    obtain ⟨b, hb, hm⟩ := h.motor.1 e
    rw [hc] at hb
    exact hk (Option.some.inj hb ▸ hm)

theorem State.DrumSafe.kind_of_free (h : s.DrumSafe) (hs : s.drum.state ≠ .calibrating) (hc : s.cal = some c) :
    c.kind ≠ .motor := fun hk => hs (h.motor.2 ⟨c, hc, hk⟩)

theorem State.DrumFree.safe_of (h : s.DrumFree) (hc : ∀ c, s.cal = some c → c.kind ≠ .motor ∧ c.Fits) : s.DrumSafe :=
  ⟨h.sound, h.door, ⟨fun e => absurd e h.free, fun ⟨c, e, hk⟩ => absurd hk (hc c e).1⟩, fun c e => (hc c e).2⟩

theorem State.DrumFree.safe (h : s.DrumFree) (hc : s.cal = none) : s.DrumSafe :=
  h.safe_of fun c e => by simp [hc] at e

/-- The drum changes outside CALIBRATING, and the run stands. -/
theorem State.DrumFree.safe_again (ht : t.DrumFree) (h : s.DrumSafe) (hs : s.drum.state ≠ .calibrating)
    (hc : t.cal = s.cal) : t.DrumSafe :=
  ht.safe_of fun c e => ⟨h.kind_of_free hs (hc ▸ e), h.fits c (hc ▸ e)⟩

/-- The run goes on, of its kind and in a phase of its kind. -/
theorem State.DrumSafe.onCal (h : s.DrumSafe) {f : CalRun → CalRun} (hk : ∀ c, (f c).kind = c.kind)
    (hf : ∀ c, s.cal = some c → (f c).Fits) : (s.onCal f).DrumSafe where
  sound := h.sound
  door := h.door
  motor := by
    refine h.motor.trans ?_
    cases hc : s.cal <;> simp [hc, hk]
  fits := fun c e => by
    simp only [onCal_cal, Option.map_eq_some_iff] at e
    obtain ⟨b, hb, rfl⟩ := e
    exact hf b hb

end

/-! ## Operations on the trim request and the spin-hold timer alone -/

section
variable (s : State)

@[simp] theorem trimOff_core : (trimOff s).drum.core = s.drum.core := rfl
@[simp] theorem startSpinHold_core : (startSpinHold s).drum.core = s.drum.core := rfl

@[simp] theorem readStore_core : (readStore s).drum.core = s.drum.core := by
  simp only [readStore]
  (repeat' split) <;> simp [Drum.core]

@[simp] theorem runAbort_core (c : AbortCause) : (runAbort c s).drum.core = s.drum.core := by
  obtain ⟨tr, h⟩ := runAbort_drum (s := s) c
  rw [h]
  rfl

@[simp] theorem noLockToRun_core : (noLockToRun s).drum.core = s.drum.core := by
  simp only [noLockToRun, withRun]
  (repeat' split) <;> simp

@[simp] theorem revolutionToRun_core (b : Bool) : (revolutionToRun b s).drum.core = s.drum.core := by
  simp only [revolutionToRun]
  (repeat' split) <;> simp

@[simp] theorem deferExpired_core : (deferExpired s).drum.core = s.drum.core := by simp [deferExpired]

@[simp] theorem lampFault_core : (lampFault s).drum.core = s.drum.core := by simp [lampFault]

@[simp] theorem completeLine_core (b : Bool) (sc : ScanRecord) : (completeLine b sc s).drum.core = s.drum.core := by
  simp only [completeLine]
  split <;> simp

@[simp] theorem revolutionToScan_core (b : Bool) (x : Nat) : (revolutionToScan b x s).drum.core = s.drum.core := by
  simp only [revolutionToScan]
  (repeat' split) <;> simp

@[simp] theorem revolutionReport_core (b : Bool) (x : Nat) : (revolutionReport b x s).drum.core = s.drum.core := by
  simp [revolutionReport]

@[simp] theorem endOfPictureReport_core : (endOfPictureReport s).drum.core = s.drum.core := by
  simp only [endOfPictureReport, withRun]
  (repeat' split) <;> simp

@[simp] theorem pictureLine_core (S : Nat) : (pictureLine S s).drum.core = s.drum.core := by simp [pictureLine]

@[simp] theorem phasingBoundary_core (x : LineTimer) (f : Figures) : (phasingBoundary x f s).drum.core = s.drum.core := by
  simp only [phasingBoundary]
  split <;> simp

@[simp] theorem pictureBoundary_core (f : Figures) : (pictureBoundary f s).drum.core = s.drum.core := by
  simp only [pictureBoundary]
  (repeat' split) <;> simp

@[simp] theorem lineBoundary_core : (lineBoundary s).drum.core = s.drum.core := by
  simp only [lineBoundary]
  (repeat' split) <;> simp

@[simp] theorem lineLost_core : (lineLost s).drum.core = s.drum.core := by simp [lineLost]

/-! ## A calibration run's end and reports -/

@[simp] theorem calEnd_core (o : CalOutcome) (f : Option CalFailure) (n : Nat) (g : CalFigures) :
    (calEnd o f n g s).drum.core = s.drum.core := by
  simp only [calEnd]
  (repeat' split) <;> simp

theorem calEnd_cal (o : CalOutcome) (f : Option CalFailure) (n : Nat) (g : CalFigures) : (calEnd o f n g s).cal = none := by
  unfold calEnd
  split
  · assumption
  · dsimp only
    split <;> simp [startSpinHold]

@[simp] theorem calFail_core (f : CalFailure) (n : Nat) : (calFail f n s).drum.core = s.drum.core := by
  simp only [calFail]
  split <;> simp

@[simp] theorem calAbort_core (o : CalOutcome) : (calAbort o s).drum.core = s.drum.core := by
  simp only [calAbort]
  split <;> simp

@[simp] theorem drumReportToCal_core : (drumReportToCal s).drum.core = s.drum.core := by
  simp only [drumReportToCal]
  (repeat' split) <;> simp

@[simp] theorem drumChanged_core : (drumChanged s).drum.core = s.drum.core := by simp [drumChanged, reportDrum]

@[simp] theorem mountEnd_door : (mountEnd s).panel.door = s.panel.door := by
  simp only [mountEnd]
  split <;> simp

end

end Sys2Proof.Machine
end

section
/-! PROOF. Every operation keeps the drum invariant (R37 to R50, R72 to R75): calibration runs, the drum, the carriage and
the orders. -/

namespace Sys2Proof.Machine

section
variable {s t : State} {c : CalRun}

/-! ## Calibration runs -/

/-- With a free drum a run's end leaves the invariant, whatever run it was. -/
theorem calEnd_safe {o : CalOutcome} {f : Option CalFailure} {n : Nat} {g : CalFigures} (h : s.DrumFree) :
    (calEnd o f n g s).DrumSafe :=
  State.DrumFree.safe (h.frame (by simp) (by simp)) (calEnd_cal s o f n g)

theorem calFail_safe {f : CalFailure} {n : Nat} (h : s.DrumFree) : (calFail f n s).DrumSafe := by
  unfold calFail
  split
  · exact h.safe ‹_›
  · exact calEnd_safe h

theorem calAbort_safe {o : CalOutcome} (h : s.DrumFree) : (calAbort o s).DrumSafe :=
  State.DrumFree.safe (h.frame (by simp) (by simp)) (calAbort_cal o)

theorem calExamine_safe (h : s.DrumSafe) : (calExamine s).DrumSafe := by
  unfold calExamine
  split
  · exact h
  · rename_i c hc
    split_ifs with hw
    · refine h.onCal (fun _ => rfl) fun b hb => ?_
      obtain rfl : c = b := Option.some.inj (hc.symm.trans hb)
      simpa [CalRun.Fits, hw.1] using h.fits c hc
    · exact h

theorem drumReportToCal_safe (h : s.DrumSafe) : (drumReportToCal s).DrumSafe := by
  unfold drumReportToCal
  split
  · exact h
  · rename_i c hc
    split_ifs with hk
    · exact h
    · exact calFail_safe (h.free_of_kind hc hk)
    · exact calExamine_safe h

theorem noLockToCal_safe (h : s.DrumSafe) : (noLockToCal s).DrumSafe := by
  unfold noLockToCal
  split
  · exact h
  · rename_i c hc
    split_ifs with hk
    · exact calFail_safe (h.free_of_kind hc hk.1)
    · exact h

theorem carriageFaultToCal_safe (h : s.DrumSafe) : (carriageFaultToCal s).DrumSafe := by
  unfold carriageFaultToCal
  split
  · exact h
  · rename_i c hc
    split_ifs with hk
    · exact calFail_safe (h.free_of_kind hc (by simp [hk]))
    · exact h

theorem calArrived_safe (h : s.DrumSafe) : (calArrived s).DrumSafe :=
  calExamine_safe (h.onCal (fun _ => rfl) h.fits)

theorem reportArrival_safe (h : s.DrumSafe) : (reportArrival s).DrumSafe := Kept.when _ (calArrived_safe h) h

theorem moveFromHome_safe {p : Nat} (h : s.DrumSafe) : (moveFromHome p s).DrumSafe :=
  Kept.when _ (calArrived_safe h) (reportArrival_safe (h.frame (by simp)))

theorem moveTo_safe {p : Nat} (h : s.DrumSafe) : (moveTo p s).DrumSafe :=
  Kept.when _ (moveFromHome_safe h) (h.frame (by simp))

theorem calOutcome_safe (h : s.DrumSafe) (hc : s.cal = some c) : (calOutcome c s).DrumSafe := by
  unfold calOutcome
  split
  · exact h
  · have hfree := h.free_of_kind hc (by simp [*])
    exact Kept.when _ (calEnd_safe hfree) (calEnd_safe (hfree.frame rfl rfl))
  · have hfree := h.free_of_kind hc (by simp [*])
    exact Kept.when _ (calEnd_safe hfree) (calEnd_safe (hfree.frame rfl rfl))
  · have hfree := h.free_of_kind hc (by simp [*])
    unfold stepsOutcome
    dsimp only
    split
    · exact calEnd_safe hfree
    · exact calEnd_safe (hfree.frame rfl rfl)

theorem CalRun.countRevolution_kind (locked : Bool) (c : CalRun) :
    (c.countRevolution locked).kind = c.kind ∧ (c.countRevolution locked).phase = c.phase := by
  unfold CalRun.countRevolution
  split <;> exact ⟨rfl, rfl⟩

theorem calRevolutionEnd_safe {locked : Bool} (h : s.DrumSafe) (hk : ∀ c, s.cal = some c → c.kind ≠ .motor) :
    (calRevolutionEnd locked s).DrumSafe := by
  unfold calRevolutionEnd
  split
  · exact h
  · rename_i c hc
    obtain ⟨hkind, hphase⟩ := CalRun.countRevolution_kind locked c
    have hfree := h.free_of_kind hc (hk c hc)
    have ht : State.DrumSafe { s with cal := some (c.countRevolution locked) } :=
      State.DrumFree.safe_of (hfree.frame rfl rfl) fun b e => by
        cases e
        exact ⟨hkind ▸ hk c hc, by simpa [CalRun.Fits, hkind, hphase] using h.fits c hc⟩
    exact Kept.when _ (calOutcome_safe ht rfl) (Kept.when _ (calFail_safe (hfree.frame rfl rfl)) ht)

theorem revolutionToCal_safe {locked : Bool} {x : Nat} (h : s.DrumSafe) : (revolutionToCal locked x s).DrumSafe := by
  unfold revolutionToCal
  split
  · exact h
  · rename_i c hc
    split_ifs with hk hb
    · have he := calRevolutionEnd_safe (locked := locked) h fun b hb => by
        obtain rfl : c = b := Option.some.inj (hc.symm.trans hb)
        exact hk.1
      exact he.onCal (fun _ => rfl) he.fits
    · exact h.onCal (fun _ => rfl) h.fits
    · exact h

/-! ## The drum -/

theorem reportDrum_safe (h : s.DrumSafe) : (reportDrum s).DrumSafe := drumReportToCal_safe (h.frame (by simp))

theorem drumChanged_safe (h : s.DrumSafe) : (drumChanged s).DrumSafe := reportDrum_safe (h.frame (by simp))

/-- A speed request that is taken finds the door CLOSED, the drum neither in FAULT nor in CALIBRATING and D_ff within
200..3,900 (R38, R44). -/
theorem State.speedTaken_iff {rpm : Nat} : s.speedTaken rpm = true ↔
    s.panel.door = .closed ∧ s.drum.state ≠ .fault ∧ s.drum.state ≠ .calibrating ∧ s.motor.valid = true ∧
      feasible s.motor rpm = true := by
  simp [State.speedTaken, and_assoc]

theorem feedForward_range {m : MotorPart} {rpm : Nat} (h : feasible m rpm = true) :
    200 ≤ (feedForward m rpm).toNat ∧ (feedForward m rpm).toNat ≤ 3900 := by
  simp only [feasible, Bool.and_eq_true, decide_eq_true_eq] at h
  omega

theorem speedRequest_safe {rpm : Nat} (h : s.DrumSafe) : (speedRequest rpm s).DrumSafe := by
  by_cases ht : s.speedTaken rpm = true
  · obtain ⟨hd, -, hs, -, hf⟩ := State.speedTaken_iff.1 ht
    obtain ⟨hlow, hhigh⟩ := feedForward_range hf
    have hu : (s.onDrum (Drum.spinUp rpm (feedForward s.motor rpm).toNat s.now)).DrumFree :=
      ⟨Drum.spinUp_sound hlow hhigh, fun e => by simp [hd] at e, nofun⟩
    have hsafe := hu.safe_again h hs rfl
    unfold speedRequest
    rw [if_pos ht]
    exact Kept.when _ h (Kept.when _ (reportDrum_safe hsafe) (drumChanged_safe hsafe))
  · unfold speedRequest
    rwa [if_neg ht]

theorem enterSpinningDown_free (h : s.drum.Sound) : (enterSpinningDown s).DrumFree :=
  State.DrumFree.frame (s := s.onDrum (Drum.spinDown s.now)) ⟨Drum.spinDown_sound h, fun _ => rfl, nofun⟩
    (drumChanged_core _) (by simp [enterSpinningDown])

theorem enterSpinningDown_safe (h : s.DrumSafe) (hs : s.drum.state ≠ .calibrating) : (enterSpinningDown s).DrumSafe :=
  have hd : (s.onDrum (Drum.spinDown s.now)).DrumFree := ⟨Drum.spinDown_sound h.sound, fun _ => rfl, nofun⟩
  drumChanged_safe (hd.safe_again h hs rfl)

/-- A stop request leaves the drum free, a calibrating one too. -/
theorem stopRequest_free {b : Bool} (h : s.drum.Sound) (hd : s.panel.door = .opened → s.drum.brake = true) :
    (stopRequest b s).DrumFree := by
  unfold stopRequest
  cases hs : s.drum.state with
  | spinningUp | locked | drift | calibrating => exact enterSpinningDown_free h
  | fault =>
    dsimp only
    split
    · exact enterSpinningDown_free h
    · exact ⟨h, hd, by simp [hs]⟩
  | stopped | spinningDown => exact ⟨h, hd, by simp [hs]⟩

theorem stopRequest_safe {b : Bool} (h : s.DrumSafe) (hs : s.drum.state ≠ .calibrating) : (stopRequest b s).DrumSafe := by
  unfold stopRequest
  split
  · exact enterSpinningDown_safe h hs
  · exact enterSpinningDown_safe h hs
  · exact enterSpinningDown_safe h hs
  · exact enterSpinningDown_safe h hs
  · exact Kept.when _ (enterSpinningDown_safe h hs) h
  · exact h
  · exact h

theorem motorComplete_safe {p1 p2 : Nat} (h : s.DrumSafe) : (motorComplete p1 p2 s).DrumSafe :=
  Kept.when _ (calEnd_safe (stopRequest_free h.sound h.door)) (calEnd_safe (stopRequest_free h.sound h.door))

/-- In CALIBRATING the drive may go to D2 (R74). -/
theorem Drum.Sound.driveHigh {d : Drum} (h : d.Sound) (hs : d.state = .calibrating) :
    Drum.Sound { d with drive := Machine.driveHigh } := by
  have hb : d.brake = false := by simpa [hs] using h.brake
  have hstall : d.stallTimer.isSome = true := by
    have hd := h.calibrating hs
    exact h.stall.2 (by omega)
  exact { h with
    drive := by simp [Machine.driveHigh]
    braked := fun e => by simp [hb] at e
    calibrating := fun _ => .inr rfl
    stall := by simp [hstall, Machine.driveHigh] }

theorem State.DrumSafe.withCal (h : s.DrumSafe) (hc : s.cal = some c) {b : CalRun} (hk : b.kind = c.kind) (hb : b.Fits) :
    State.DrumSafe { s with cal := some b } where
  sound := h.sound
  door := h.door
  motor := h.motor.trans (by simp [hc, hk])
  fits := fun a e => by
    cases e
    exact hb

theorem motorPeriod_safe {p : Nat} (h : s.DrumSafe) (hs : s.drum.state = .calibrating) : (motorPeriod p s).DrumSafe := by
  unfold motorPeriod
  split
  · exact h
  · rename_i c hc
    obtain ⟨b, hb, hk⟩ := h.motor.1 hs
    obtain rfl : c = b := Option.some.inj (hc.symm.trans hb)
    have hnext : State.DrumSafe { s with cal := some (c.addPeriod p) } := h.withCal hc rfl (h.fits c hc)
    dsimp only
    split
    · split_ifs
      · have hcal : ∀ b : CalRun, b.kind = c.kind → b.phase = .settleHigh →
            State.DrumSafe { s with cal := some b, drum := { s.drum with drive := driveHigh } } := fun b hkb hp =>
          { h.withCal hc hkb (by simp [CalRun.Fits, hkb, hk, hp]) with sound := h.sound.driveHigh hs }
        exact hcal _ rfl rfl
      · exact hnext
    · exact Kept.when _ (motorComplete_safe h) hnext
    · exact h

theorem noLockFound_safe (h : s.DrumSafe) (hs : s.drum.state = .spinningUp) : (noLockFound s).DrumSafe := by
  have hd : Drum.Sound { s.drum with noLock := true, spinUpTimer := none } :=
    { h.sound with spinUp := by simp, noLock := fun _ => hs }
  have ht : (s.onDrum fun d => { d with noLock := true, spinUpTimer := none }).DrumFree := ⟨hd, h.door, by simp [hs]⟩
  exact noLockToCal_safe ((ht.safe_again h (by simp [hs]) rfl).frame (by simp))

theorem stallFound_safe (h : s.DrumSafe) : (stallFound s).DrumSafe := by
  have ht : (s.onDrum Drum.stalled).DrumFree := ⟨Drum.stalled_sound h.sound, fun _ => rfl, nofun⟩
  exact calFail_safe (ht.frame (by simp) (by simp))

theorem regulate_safe {P : Nat} (h : s.DrumSafe) (ht : s.drum.state.isTurning = true) : (regulate P s).DrumSafe := by
  have hb := h.sound.brake_turning ht
  have hclosed : s.panel.door ≠ .opened := fun e => by simp [h.door e] at hb
  have hloop := Drum.loopStep_sound (m := s.motor) (st := s.settings) (P := P) (now := s.now) h.sound ht
  have hturn : (s.drum.loopStep s.motor s.settings P s.now).state.isTurning = true := ht
  have htest : ∀ w, State.DrumSafe
      (s.onDrum fun d => (d.loopStep s.motor s.settings P s.now).lockTest w) := fun w =>
    State.DrumFree.safe_again ⟨Drum.lockTest_sound hloop hturn, fun e => absurd e hclosed, 
      DrumState.ne_calibrating (Drum.lockTest_turning hturn)⟩
      h (DrumState.ne_calibrating ht) rfl
  have hu : State.DrumSafe ((if !s.drum.clip && (s.onDrum (Drum.loopStep s.motor s.settings P s.now)).drum.clip then
      drumEvent .clip (s.onDrum (Drum.loopStep s.motor s.settings P s.now))
    else s.onDrum (Drum.loopStep s.motor s.settings P s.now)).onDrum
      (Drum.lockTest (withinWindow s.settings P s.drum.target))) := by
    refine (htest (withinWindow s.settings P s.drum.target)).frame ?_
    split <;> simp
  exact Kept.when _ hu (drumChanged_safe hu)

/-! ## Runs begin -/

theorem calTakeDrum_safe {asks : Bool} (h : s.DrumSafe) : (calTakeDrum asks s).DrumSafe := by
  have hs : State.DrumSafe (if asks then speedRequest 60 s else s) := Kept.when _ (speedRequest_safe h) h
  exact calExamine_safe (Kept.when _ (noLockToCal_safe hs) hs)

/-- A run that is not a MOTOR run begins beside a free drum. -/
theorem State.DrumFree.begun (h : s.DrumFree) {k : CalKind} (hk : k ≠ .motor) (l : List TabletStep) (p : Nat) :
    State.DrumSafe { s with cal := some (newCalRun k l p s.now) } :=
  State.DrumFree.safe_of (h.frame rfl rfl) fun c e => by
    cases e
    exact ⟨hk, by simp [CalRun.Fits, newCalRun, hk]⟩

theorem beginMotor_safe (hd : s.panel.door = .closed) : (beginMotor s).DrumSafe := by
  have hs : (({ s with cal := some (newCalRun .motor [] 0 s.now) } : State).onDrum (Drum.calibrate s.now)).DrumSafe :=
    { sound := Drum.calibrate_sound
      door := fun e => by simp [hd] at e
      motor := ⟨fun _ => ⟨_, rfl, rfl⟩, fun _ => rfl⟩
      fits := fun c e => by
        cases e
        simp [CalRun.Fits, newCalRun] }
  exact drumChanged_safe hs

theorem beginDark_safe (h : s.DrumFree) : (beginDark s).DrumSafe :=
  calTakeDrum_safe ((h.begun (k := .dark) (by decide) [] 0).frame (by simp))

theorem beginWhite_safe (h : s.DrumFree) : (beginWhite s).DrumSafe :=
  calTakeDrum_safe ((h.begun (k := .white) (by decide) [] 0).frame (by simp))

theorem beginSteps_safe {p : Nat} {l : List TabletStep} (h : s.DrumFree) : (beginSteps p l s).DrumSafe := by
  have ht := calTakeDrum_safe (asks := true) ((h.begun (k := .steps) (by decide) l p).frame
    (t := lampJoin .calibration { s with cal := some (newCalRun .steps l p s.now) }) (by simp))
  exact Kept.when _ (moveTo_safe ht) ht

/-! ## The index pulse -/

theorem measured_safe (h : s.DrumSafe) : s.measured.DrumSafe where
  sound := Drum.measure_sound h.sound
  door := h.door
  motor := h.motor
  fits := h.fits

theorem regulated_safe (h : s.DrumSafe) (ht : s.drum.state.isTurning = true) : s.regulated.DrumSafe := by
  unfold State.regulated
  split
  · exact regulate_safe (measured_safe h) ht
  · exact measured_safe h

/-- In SPINNING_DOWN a pulse restarts the quiet timer (R39). -/
theorem quietRestarted_safe (h : s.DrumSafe) (hs : s.drum.state = .spinningDown) (e : Nat) :
    (s.onDrum fun d => { d with quietTimer := some e }).DrumSafe where
  sound := { h.sound with quiet := by simp [hs] }
  door := h.door
  motor := h.motor
  fits := h.fits

theorem indexPulse_safe {x : Nat} (h : s.DrumSafe) : (indexPulse x s).DrumSafe := by
  have hturn : s.drum.state.isTurning = true → ∀ measuring locked : Bool, State.DrumSafe
      (if measuring then revolutionToCal locked x (revolutionReport locked x s.regulated)
        else revolutionReport locked x s.regulated) := fun ht _ _ =>
    Kept.when _ (revolutionToCal_safe ((regulated_safe h ht).frame (by simp)))
      ((regulated_safe h ht).frame (by simp))
  have hm := measured_safe h
  unfold indexPulse
  dsimp only
  split
  · exact hturn (by simp [*, DrumState.isTurning]) _ _
  · exact hturn (by simp [*, DrumState.isTurning]) _ _
  · exact hturn (by simp [*, DrumState.isTurning]) _ _
  · exact quietRestarted_safe hm ‹_› _
  · split
    · exact motorPeriod_safe hm ‹_›
    · exact hm
  · exact hm
  · exact hm

/-! ## Selection and mounts -/

theorem runStart_safe {o : Order} (h : s.DrumSafe) : (runStart o s).DrumSafe := by
  have hb : (runBegun o s).DrumSafe :=
    State.DrumSafe.frame (speedRequest_safe (rpm := o.header.speed)
      (s := ({ s with run := some (runRecordFor o s) } : State).onStore fun _ =>
        Store.opened o.number o.header.samples o.lines) (h.frame (by simp))) (by simp [runBegun])
  rw [runStart_eq]
  exact Kept.when _ (Kept.when _ (hb.frame (by simp)) hb) (hb.frame (by simp))

theorem select_safe (h : s.DrumSafe) : (select s).DrumSafe := by
  unfold select
  split
  · split
    · exact runStart_safe (h.frame (by simp))
    · exact h
  · exact h

theorem selectAfterCal_safe (h : t.DrumSafe) : (selectAfterCal s t).DrumSafe := Kept.when _ (select_safe h) h

theorem mountStart_safe (h : s.DrumSafe) : (mountStart s).DrumSafe := select_safe (h.frame (by simp))

theorem examineMount_safe (h : s.DrumSafe) : (examineMount s).DrumSafe := Kept.when _ (mountStart_safe h) h

theorem panelEvent_safe {i : PanelInput} {level : Option Nat} (h : s.DrumSafe) : (panelEvent i level s).DrumSafe :=
  h.frame (by simp)

theorem mountEnd_safe (h : s.DrumSafe) : (mountEnd s).DrumSafe := h.frame (by simp)

/-- The interlock brakes the drum, and the calibration run ends with it (R50, R73). -/
theorem doorInterlock_safe (h : s.drum.Sound) : (doorInterlock s).DrumSafe := by
  obtain ⟨hsound, hbrake, hfree⟩ := Drum.interlock_sound (now := s.now) h
  have hd : (s.onDrum (Drum.interlock s.now)).DrumFree := ⟨hsound, fun _ => hbrake, hfree⟩
  have hn : State.DrumFree (if (s.onDrum (Drum.interlock s.now)).drum.state = s.drum.state then
      s.onDrum (Drum.interlock s.now) else drumEvent .state (s.onDrum (Drum.interlock s.now))) :=
    Kept.when _ hd (hd.frame (by simp) (by simp))
  exact mountEnd_safe (calAbort_safe (hn.frame (by simp) (by simp)))

theorem openDoor_safe (h : s.DrumSafe) : (openDoor s).DrumSafe :=
  panelEvent_safe (selectAfterCal_safe (doorInterlock_safe h.sound))

theorem releaseClamp_safe (h : s.DrumSafe) : (releaseClamp s).DrumSafe :=
  panelEvent_safe (selectAfterCal_safe (Kept.when _ (doorInterlock_safe h.sound) (mountEnd_safe (h.frame (by simp)))))

/-- A closing door takes no condition from the drum. -/
theorem State.DrumSafe.closed (h : s.DrumSafe) : (s.onPanel fun p => { p with door := .closed }).DrumSafe where
  sound := h.sound
  door := nofun
  motor := h.motor
  fits := h.fits

/-! ## Timers of the drum, the lamp and the carriage -/

theorem quietExpired_safe (h : s.DrumSafe) (hs : s.drum.state = .spinningDown) : (quietExpired s).DrumSafe := by
  have ht : (s.onDrum fun d => { d with state := .stopped, drive := 0, brake := true, quietTimer := none }).DrumFree :=
    ⟨Drum.quieted_sound h.sound hs, fun _ => rfl, nofun⟩
  exact drumChanged_safe (ht.safe_again h (by simp [hs]) rfl)

theorem spinHoldExpired_safe (h : s.DrumSafe) : (spinHoldExpired s).DrumSafe := by
  have ht : (s.onDrum fun d => { d with spinHoldTimer := none }).DrumSafe := h.frame (by simp [Drum.core])
  unfold spinHoldExpired
  dsimp only
  split_ifs with _ hturn
  · exact ht
  · exact stopRequest_safe ht (DrumState.ne_calibrating hturn)
  · exact ht

theorem settleEnd_safe (h : s.DrumSafe) : (settleEnd s).DrumSafe := by
  refine h.onCal (fun c => by split <;> rfl) fun c hc => ?_
  have := h.fits c hc
  split <;> simp_all [CalRun.Fits]

theorem warmUpDone_safe (h : s.DrumSafe) : (warmUpDone s).DrumSafe := calExamine_safe (h.frame (by simp))

theorem carriageFailed_safe (h : s.DrumSafe) : (carriageFailed s).DrumSafe := carriageFaultToCal_safe (h.frame (by simp))

theorem homeStep_safe (h : s.DrumSafe) : (homeStep s).DrumSafe :=
  Kept.when _ (carriageFailed_safe (h.frame (by simp))) (h.frame (by simp))

theorem carriageStep_safe (h : s.DrumSafe) : (carriageStep s).DrumSafe :=
  Kept.when _ (homeStep_safe h) (Kept.when _ (reportArrival_safe (h.frame (by simp))) h)

theorem examineStart_safe (h : s.DrumSafe) : (examineStart s).DrumSafe := h.frame (by simp)

theorem homeReached_safe (h : s.DrumSafe) : (homeReached s).DrumSafe := by
  have hr : (reportCarriage (s.onCarriage fun c => { c.arriveHome with waitingMove := none })).DrumSafe :=
    h.frame (by simp)
  unfold homeReached
  dsimp only
  split
  · exact examineStart_safe (moveFromHome_safe hr)
  · exact hr.frame (by simp)

theorem encoderEdge_safe {e : Edge} {x : Nat} (h : s.DrumSafe) : (encoderEdge e x s).DrumSafe := by
  have hc := h.onCal (f := fun r => if r.revBegun then
      { r with samples := takeSample 1024 (if e = .rising then s.encoder.count + 1 else s.encoder.count) e x r.samples }
    else r) (fun c => by split <;> rfl) fun c hc => by
      have := h.fits c hc
      split <;> exact this
  exact hc.frame (by simp [encoderEdge])

end

end Sys2Proof.Machine
end

section
/-! PROOF. Every request and every command keeps the drum invariant (R37 to R60, R69, R72 to R75, R201). -/

namespace Sys2Proof.Machine

section
variable {s t : State} {p : List Byte}

/-! ## Requests that begin or end a run, or turn the drum -/

/-- A CAL_RUN that passes its checks finds no run, the door CLOSED and the drum not in FAULT (R69). -/
theorem calRunFault_none {k : CalKind} (h : calRunFault k s = none) : s.runningOrder = none ∧ s.cal = none ∧
    s.panel.door = .closed ∧ s.drum.state ≠ .fault := by
  unfold calRunFault at h
  split at h
  · cases h
  · refine ⟨‹_›, ?_⟩
    split_ifs at h with hc hd hf
    all_goals
      refine ⟨by simpa using hc, ?_, hf⟩
      cases hp : s.panel.door
      · simp_all
      · simp_all

theorem serveCalKind_safe {k : CalKind} {f : State → State} (h : s.DrumSafe)
    (hf : s.panel.door = .closed → s.DrumFree → (f s).DrumSafe) : (serveCalKind k f s).2.DrumSafe := by
  unfold serveCalKind
  split
  · exact h
  · rename_i hk
    obtain ⟨-, hc, hd, -⟩ := calRunFault_none hk
    have hfree : s.DrumFree := h.toFree fun e => by
      obtain ⟨b, hb, -⟩ := h.motor.1 e
      simp [hc] at hb
    exact Kept.when _ (select_safe (hf hd hfree)) (hf hd hfree)

theorem serveCalRun_safe (h : s.DrumSafe) : (serveCalRun p s).2.DrumSafe := by
  unfold serveCalRun
  split
  · exact serveCalKind_safe h fun hd _ => beginMotor_safe hd
  · exact serveCalKind_safe h fun _ => beginDark_safe
  · exact serveCalKind_safe h fun _ => beginWhite_safe
  · split
    · exact h
    · exact serveCalKind_safe h fun _ => beginSteps_safe
  · exact h

theorem startSpinHold_safe (h : s.DrumSafe) : (startSpinHold s).DrumSafe := h.frame (by simp [startSpinHold, Drum.core])


/-- A DRUM_SPIN that passes its checks finds no order running and no calibration run (R55). -/
theorem drumSpinFault_none {rpm : Nat} (h : drumSpinFault rpm s = none) : s.runningOrder = none ∧ s.cal = none := by
  unfold drumSpinFault at h
  split at h
  · cases h
  · split at h
    · cases h
    · refine ⟨‹_›, ?_⟩
      by_cases hc : s.cal = none
      · exact hc
      · rw [if_pos (Option.isSome_iff_ne_none.2 hc)] at h
        cases h

theorem serveDrumSpin_safe (h : s.DrumSafe) : (serveDrumSpin p s).2.DrumSafe := by
  unfold serveDrumSpin
  dsimp only
  split
  · exact h
  · rename_i hf
    have hs : s.drum.state ≠ .calibrating := fun e => by
      obtain ⟨b, hb, -⟩ := h.motor.1 e
      simp [(drumSpinFault_none hf).2] at hb
    exact Kept.when _ (stopRequest_safe h hs) (startSpinHold_safe (speedRequest_safe h))

theorem onLink_safe {f : Link → Link} (h : s.DrumSafe) : (s.onLink f).DrumSafe := h.frame (by simp)

/-- A RESTART leaves the drum in no CALIBRATING, its brake as it was or applied, and no run (R60). -/
theorem carryOutRestart_safe {b : Bool} (h : s.DrumSafe) : (carryOutRestart b s).DrumSafe := by
  obtain ⟨hsound, hbrake, hfree⟩ := Drum.restart_sound (keep := b) (hold := s.settings.spinHold) (now := s.now) h.sound
  have ht : (carryOutRestart b s).DrumFree := ⟨hsound, fun e => hbrake (h.door e), hfree⟩
  exact ht.safe rfl

theorem serveRestart_safe (h : s.DrumSafe) : (serveRestart p s).2.DrumSafe := by
  unfold serveRestart
  dsimp only
  split_ifs
  · exact h
  · exact carryOutRestart_safe h
  · exact (carryOutRestart_safe (b := byteAt p 0 == 1) h).frame (by simp)

/-! ## Requests on orders -/

theorem finishAssembly_safe {n : Nat} (h : s.DrumSafe) : (finishAssembly n s).2.DrumSafe := by
  unfold finishAssembly
  split
  · exact h
  · split
    · exact h.frame (by simp)
    · exact select_safe (h.frame (by simp))

theorem serveOrderBegin_safe (h : s.DrumSafe) : (serveOrderBegin p s).2.DrumSafe := by
  unfold serveOrderBegin
  split
  · exact h
  · split
    · exact h
    · dsimp only
      split
      · exact finishAssembly_safe (h.frame (by simp))
      · exact h.frame (by simp)

theorem serveOrderPart_safe (h : s.DrumSafe) : (serveOrderPart p s).2.DrumSafe := by
  unfold serveOrderPart
  dsimp only
  split
  · exact h
  · split_ifs
    · exact h
    · exact h.frame (by simp)
    · exact finishAssembly_safe (h.frame (by simp))
    · exact h.frame (by simp)

theorem serveOrderCancel_safe (h : s.DrumSafe) : (serveOrderCancel p s).2.DrumSafe := by
  refine h.frame ?_
  simp only [serveOrderCancel]
  (repeat' split) <;> simp

theorem serveQueueControl_safe (h : s.DrumSafe) : (serveQueueControl p s).2.DrumSafe := by
  unfold serveQueueControl
  split_ifs
  · exact h.frame (by simp)
  · exact h
  · exact select_safe (h.frame (by simp))
  · exact h

/-! ## Serving -/

theorem serveKind_safe {k : Nat} (h : s.DrumSafe) : (serveKind k p s).2.DrumSafe := by
  unfold serveKind answered
  split
  · exact h.frame (by simp)
  · exact h.frame (by simp)
  · exact h
  · exact h.frame (by simp)
  · exact h.frame (by simp)
  · exact h.frame (by simp)
  · exact h.frame (by simp)
  · exact h.frame (by simp)
  · exact h.frame (by simp)
  · exact serveCalRun_safe h
  · exact serveOrderBegin_safe h
  · exact serveOrderPart_safe h
  · exact serveOrderCancel_safe h
  · exact h.frame (by simp)
  · exact h
  · exact serveQueueControl_safe h
  · exact serveDrumSpin_safe h
  · exact h.frame (by simp)
  · exact serveRestart_safe h
  · exact h

theorem answer_safe {r : Request} (h : s.DrumSafe) : (answer r s).2.DrumSafe := by
  unfold answer
  split_ifs
  · exact serveKind_safe h
  · exact h
  · exact h

theorem serveFront_safe (h : s.DrumSafe) : (serveFront s).DrumSafe :=
  serveFront_ind h (fun _ => answer_safe h) fun _ _ _ h => h.frame (by simp)

theorem offerFrame_safe {r : Request} (h : s.DrumSafe) : (offerFrame r s).DrumSafe :=
  Kept.when _ (serveFront_safe (onLink_safe h)) (onLink_safe h)

theorem arrive_safe {k tag : Byte} (h : s.DrumSafe) : (arrive k tag p s).DrumSafe :=
  Kept.when _ (onLink_safe h) (offerFrame_safe h)

theorem receiveByte_safe {b : Byte} (h : s.DrumSafe) : (receiveByte b s).DrumSafe := by
  unfold receiveByte
  dsimp only
  split
  · exact offerFrame_safe (onLink_safe h)
  · exact onLink_safe h

theorem frameDone_safe (h : s.DrumSafe) : (frameDone s).DrumSafe := by
  unfold frameDone
  split
  · exact h
  · exact onLink_safe (serveFront_safe (onLink_safe h))

/-! ## The end of a run -/

theorem retire_safe (h : s.DrumSafe) : (retire s).DrumSafe := h.frame (by simp)

theorem releasedReport_safe (h : s.DrumSafe) : (releasedReport s).DrumSafe := by
  unfold releasedReport
  split
  · exact h
  · split
    · exact h.frame (by simp)
    · exact retire_safe (select_safe (h.frame (by simp)))

theorem releaseCleared_safe (h : s.DrumSafe) : (releaseCleared s).DrumSafe :=
  Kept.when _ (h.frame (by simp)) (releasedReport_safe (h.frame (by simp)))

/-! ## Commands -/

/-- At power-on the drum stands STOPPED with the brake applied, and no run stands. -/
theorem powerOn_safe (l : Levels) (q : List Instr) : State.DrumSafe { State.atPower l with pending := q } :=
  State.DrumFree.safe ⟨(State.drumInv_iff.1 reset_drumInv).sound, fun _ => rfl, nofun⟩ rfl

/-- The stop request of a STOP key finds no calibration run, in CALIBRATING too (R52, R73). -/
theorem stopKey_safe (h : s.DrumSafe) : (stopRequest false s.stopped).DrumSafe := by
  have hcore : s.stopped.drum.core = s.drum.core := by simp [State.stopped]
  have hdoor : s.stopped.panel.door = s.panel.door := by simp [State.stopped]
  refine (stopRequest_free (Drum.sound_of_core h.sound hcore) ?_).safe (stopRequest_noCal State.stopped_cal).2
  rw [hdoor, (Drum.state_of_core hcore).2]
  exact h.door

/-- Every command keeps the drum invariant. -/
theorem exec_safe (i : Instr) (h : s.DrumSafe) : ∃ t, exec i s = .next t ∧ t.DrumSafe := by
  have ha : ∀ dt, (advance dt s).DrumSafe := fun _ => h.frame (by simp)
  cases hf : i.frame with
  | some f => exact ⟨_, exec_frame hf s, arrive_safe (ha f.1)⟩
  | none =>
    cases i with
    | powerOn l => exact ⟨_, rfl, powerOn_safe l _⟩
    | linkByteReceived dt b => exact ⟨_, rfl, receiveByte_safe (ha dt)⟩
    | frameSent dt => exact ⟨_, rfl, Kept.when _ (frameDone_safe (ha dt)) (ha dt)⟩
    | doorOpen dt => exact ⟨_, rfl, Kept.when _ (openDoor_safe (ha dt)) (ha dt)⟩
    | doorClose dt => exact ⟨_, rfl, Kept.when _ (panelEvent_safe (examineMount_safe (ha dt).closed)) (ha dt)⟩
    | clampEngage dt =>
      exact ⟨_, rfl, Kept.when _ (panelEvent_safe (examineMount_safe ((ha dt).frame (by simp)))) (ha dt)⟩
    | clampRelease dt => exact ⟨_, rfl, Kept.when _ (releaseClamp_safe (ha dt)) (ha dt)⟩
    | stopKey dt => exact ⟨_, rfl, panelEvent_safe (stopKey_safe (ha dt))⟩
    | indexPulse dt x => exact ⟨_, rfl, selectAfterCal_safe (indexPulse_safe (ha dt))⟩
    | spinUpLimitExpiry dt =>
      refine ⟨_, rfl, ?_⟩
      split_ifs with hs
      · exact selectAfterCal_safe (noLockFound_safe (ha dt) hs.2)
      · exact ha dt
    | stall dt => exact ⟨_, rfl, Kept.when _ (selectAfterCal_safe (stallFound_safe (ha dt))) (ha dt)⟩
    | quietTimerExpiry dt =>
      refine ⟨_, rfl, ?_⟩
      split_ifs with hs
      · exact quietExpired_safe (ha dt) hs.2
      · exact ha dt
    | spinHoldExpiry dt =>
      exact ⟨_, rfl, Kept.when _ (selectAfterCal_safe (spinHoldExpired_safe (ha dt))) (ha dt)⟩
    | motorSettleEnd dt => exact ⟨_, rfl, Kept.when _ (settleEnd_safe (ha dt)) (ha dt)⟩
    | darkLampSettled dt => exact ⟨_, rfl, Kept.when _ (calExamine_safe (ha dt)) (ha dt)⟩
    | warmUpExpiry dt => exact ⟨_, rfl, Kept.when _ (warmUpDone_safe (ha dt)) (ha dt)⟩
    | lampIdleExpiry dt => exact ⟨_, rfl, Kept.when _ (calExamine_safe ((ha dt).frame (by simp))) (ha dt)⟩
    | carriageStep dt => exact ⟨_, rfl, Kept.when _ (selectAfterCal_safe (carriageStep_safe (ha dt))) (ha dt)⟩
    | homeSwitchClose dt => exact ⟨_, rfl, Kept.when _ (homeReached_safe (ha dt)) ((ha dt).frame (by simp))⟩
    | homeSearchLimit dt => exact ⟨_, rfl, Kept.when _ (selectAfterCal_safe (homeStep_safe (ha dt))) (ha dt)⟩
    | releaseCleared dt => exact ⟨_, rfl, Kept.when _ (releaseCleared_safe (ha dt)) (ha dt)⟩
    | encoderCount dt e x => exact ⟨_, rfl, Kept.when _ (encoderEdge_safe (ha dt)) (ha dt)⟩
    | callEnd dt =>
      exact ⟨_, rfl, Kept.when _ ((ha dt).frame (by simp)) (Kept.when _ ((ha dt).frame (by simp)) (ha dt))⟩
    | loopCurrentReturn dt | replyQualified dt _ => exact ⟨_, rfl, (ha dt).frame (by simp)⟩
    | replyEnd dt | replyOverlong dt =>
      refine ⟨_, rfl, ?_⟩
      split
      · exact (ha dt).frame (by simp)
      · exact ha dt
    | gapTimerExpiry dt | assemblyTimeout dt | lineBoundary dt | startToneEnd dt | stopToneEnd dt | loopCurrentLost dt
    | lineLoss dt | guardExpiry dt | replyWindowExpiry dt | dialToneFound dt | noDialTone dt | dialDigitsEnd dt
    | holdBurst dt | holdBurstEnd dt | deferLimitExpiry dt | paperOut dt | paperBack dt | rowStepEnd dt
    | timeOfDayTick dt => exact ⟨_, rfl, Kept.when _ ((ha dt).frame (by simp)) (ha dt)⟩
    | _ => simp [Instr.frame] at hf

end

/-- Settles O56: the drum's own operations keep the brake, the drive, the counts and the timers in agreement with its state
(`Drum.loopStep_sound`, `Drum.lockTest_sound` and the entries of the states), a calibration run ends beside a free drum
(`calEnd_safe`), and every command acts on the drum through these (`exec_safe`). -/
theorem everyStepKeepsTheDrumSafe : Obligations.EveryStepKeepsTheDrumSafe := by
  intro s t hi e
  have h : s.DrumSafe := State.drumInv_iff.1 hi
  refine State.drumInv_iff.2 ?_
  unfold step at e
  split at e
  · cases e
    exact h
  · obtain ⟨u, hu, hsafe⟩ := exec_safe (s := { s with pending := ‹_› }) ‹Instr› (h.frame (by simp))
    rw [hu] at e
    cases e
    exact hsafe

end Sys2Proof.Machine
end

section
/-! PROOF. POWER_ON (R202), and the drum's timers without a run or a calibration run (R39, R46, R47, R53). -/

namespace Sys2Proof.Machine

/-- Settles O3: POWER_ON replaces every block but the queue, the carriage by its home switch. -/
theorem powerOnTakesLevels : Obligations.PowerOnTakesLevels := by
  intro l s
  obtain ⟨door, clamp, paper, home⟩ := l
  cases home with
  | true => rfl
  | false => rfl

section
variable {s : State}

theorem noLockToRun_none (h : s.run = none) : noLockToRun s = s := by
  simp [noLockToRun, withRun, h]

/-- The no-lock condition beside no run of either kind is its DRUM_EVENT alone (R46). -/
theorem noLockFound_idle (hr : s.run = none) (hc : s.cal = none) : noLockFound s =
    drumEvent .noLock (s.onDrum fun d => { d with noLock := true, spinUpTimer := none }) := by
  unfold noLockFound
  rw [noLockToRun_none (by simpa using hr), noLockToCal_none (by simpa using hc)]

/-- A stall beside no run of either kind is the entry to FAULT and its DRUM_EVENT (R47). -/
theorem stallFound_idle (hr : s.run = none) (hc : s.cal = none) :
    stallFound s = drumEvent .stall (s.onDrum Drum.stalled) := by
  have hrun : (drumEvent .stall (s.onDrum Drum.stalled)).run = none := by simpa using hr
  unfold stallFound
  rw [drumReportToRun_none hrun, runAbort_none hrun, calFail_none (by simpa using hc)]

theorem quietExpired_idle (hr : s.run = none) (hc : s.cal = none) : quietExpired s = drumEvent .state
    (s.onDrum fun d => { d with state := .stopped, drive := 0, brake := true, quietTimer := none }) :=
  drumChanged_idle (s := s.onDrum _) hr hc

/-- A stop request to a drum that turns or calibrates, beside no run of either kind (R39). -/
theorem stopRequest_idle {b : Bool} (hs : s.drum.state.spins = true) (hr : s.run = none) (hc : s.cal = none) :
    stopRequest b s = drumEvent .state (s.onDrum (Drum.spinDown s.now)) := by
  rw [stopRequest_spins hs]
  exact drumChanged_idle (s := s.onDrum _) hr hc

/-- With an order running, or a drum that does not turn, the spin-hold timer only stops (R53). -/
theorem spinHoldExpired_stays (h : s.runningOrder ≠ none ∨ s.drum.state.isTurning = false) :
    spinHoldExpired s = s.onDrum fun d => { d with spinHoldTimer := none } := by
  unfold spinHoldExpired
  dsimp only
  split_ifs with ho ht
  · rfl
  · refine absurd ht (Bool.not_eq_true _ ▸ h.resolve_left fun hn => ho ?_)
    exact Option.isSome_iff_ne_none.2 hn
  · rfl

/-- With no order running a drum that turns takes a stop request (R53). -/
theorem spinHoldExpired_stops (ho : s.runningOrder = none) (ht : s.drum.state.isTurning = true) (hr : s.run = none)
    (hc : s.cal = none) : spinHoldExpired s = drumEvent .state (s.onDrum (Drum.spinDown s.now)) := by
  have hrun : (s.onDrum fun d => { d with spinHoldTimer := none }).orderRunning = false :=
    Option.isSome_eq_false_iff.2 (Option.isNone_iff_eq_none.2 ho)
  unfold spinHoldExpired
  dsimp only
  rw [hrun, if_neg Bool.false_ne_true, if_pos (by exact ht)]
  exact stopRequest_idle (s := s.onDrum _) (DrumState.spins_of_turning (DrumState.isTurning_iff.1 ht)) hr hc

/-- A command that ends no calibration run re-examines no selection. -/
theorem selectAfterCal_same {t : State} (hs : t.cal = s.cal) :
    selectAfterCal s t = t := by
  unfold selectAfterCal
  rw [hs]
  cases s.cal <;> rfl

/-! ## The four timers' commands -/

variable (dt : Nat) (s : State)

theorem exec_spinUpLimitExpiry : exec (.spinUpLimitExpiry dt) s = .next
    (if due s.drum.spinUpTimer (s.now + dt) ∧ s.drum.state = .spinningUp then
      selectAfterCal (advance dt s) (noLockFound (advance dt s)) else advance dt s) := rfl

theorem exec_stall : exec (.stall dt) s = .next
    (if due s.drum.stallTimer (s.now + dt) then selectAfterCal (advance dt s) (stallFound (advance dt s))
      else advance dt s) := rfl

theorem exec_quietTimerExpiry : exec (.quietTimerExpiry dt) s = .next
    (if due s.drum.quietTimer (s.now + dt) ∧ s.drum.state = .spinningDown then quietExpired (advance dt s)
      else advance dt s) := rfl

theorem exec_spinHoldExpiry : exec (.spinHoldExpiry dt) s = .next
    (if due s.drum.spinHoldTimer (s.now + dt) then selectAfterCal (advance dt s) (spinHoldExpired (advance dt s))
      else advance dt s) := rfl

end

/-- Settles O43: each expiry beside no run is its entry of the drum and its DRUM_EVENT. -/
theorem drumTimersRunOut : Obligations.DrumTimersRunOut := by
  intro dt s now d at' period
  refine ⟨fun hr hc ht hs => ?_, fun hr hc ht => ?_, fun hr hc ht hs => ?_,
    fun ht => ⟨fun ho => ?_, fun ho hs hr hc => ?_⟩, fun ht => ?_, fun ht => ?_, fun ht => ?_, fun ht => ?_⟩
  · rw [exec_spinUpLimitExpiry, if_pos ⟨due_iff.2 ht, hs⟩, selectAfterCal_noCal (by exact hc),
      noLockFound_idle (by exact hr) (by exact hc)]
    rw [← hs]
    rfl
  · rw [exec_stall, if_pos (due_iff.2 ht), selectAfterCal_noCal (by exact hc),
      stallFound_idle (by exact hr) (by exact hc)]
    rfl
  · rw [exec_quietTimerExpiry, if_pos ⟨due_iff.2 ht, hs⟩, quietExpired_idle (by exact hr) (by exact hc)]
    rfl
  · have hstay : spinHoldExpired (advance dt s) = (advance dt s).onDrum fun d => { d with spinHoldTimer := none } :=
      spinHoldExpired_stays (ho.imp_right fun hs => by
        obtain ⟨h1, h2, h3⟩ := hs
        exact Bool.not_eq_true _ ▸ mt DrumState.isTurning_iff.1 (by rintro (e | e | e) <;> contradiction))
    rw [exec_spinHoldExpiry, if_pos (due_iff.2 ht), selectAfterCal_same (by rw [hstay]; rfl), hstay]
    rfl
  · rw [exec_spinHoldExpiry, if_pos (due_iff.2 ht), selectAfterCal_noCal (by exact hc),
      spinHoldExpired_stops (s := advance dt s) ho (DrumState.isTurning_iff.2 hs) hr hc]
    rfl
  · rw [exec_spinUpLimitExpiry, if_neg fun h => ht (due_iff.1 h.1)]
    rfl
  · rw [exec_stall, if_neg fun h => ht (due_iff.1 h)]
    rfl
  · rw [exec_quietTimerExpiry, if_neg fun h => ht (due_iff.1 h.1)]
    rfl
  · rw [exec_spinHoldExpiry, if_neg fun h => ht (due_iff.1 h)]
    rfl

end Sys2Proof.Machine
end

section
/-! PROOF. DRUM_SPIN (R38, R39, R53, R55): its checks one after the other, and the drum's changes while a request is in
service. -/

namespace Sys2Proof.Machine

section
variable {s t u : State} {rpm : Nat} {v : Byte} {reason : Reason} {q dt : Nat} {r : Request}

/-! ## The checks -/

theorem drumSpinFault_speed (h0 : rpm ≠ 0) (hs : ¬(rpm = 60 ∨ rpm = 90 ∨ rpm = 120)) :
    drumSpinFault rpm s = some (.fieldRange, 1) := by
  simp_all [drumSpinFault]

theorem drumSpinFault_busy {o : Order} (hs : rpm = 0 ∨ rpm = 60 ∨ rpm = 90 ∨ rpm = 120)
    (ho : s.runningOrder = some o) : drumSpinFault rpm s = some (.busy, o.number) := by
  rcases hs with rfl | rfl | rfl | rfl <;> simp [drumSpinFault, ho]

theorem drumSpinFault_cal (hs : rpm = 0 ∨ rpm = 60 ∨ rpm = 90 ∨ rpm = 120) (ho : s.runningOrder = none)
    (hc : s.cal.isSome) : drumSpinFault rpm s = some (.busy, 0) := by
  rcases hs with rfl | rfl | rfl | rfl <;> simp [drumSpinFault, ho, hc]

theorem drumSpinFault_stop (ho : s.runningOrder = none) (hc : s.cal = none) : drumSpinFault 0 s = none := by
  simp [drumSpinFault, ho, hc]

/-- The checks of a speed with no order and no calibration run, from the door on. -/
theorem drumSpinFault_free (hs : rpm = 60 ∨ rpm = 90 ∨ rpm = 120) (ho : s.runningOrder = none) (hc : s.cal = none) :
    drumSpinFault rpm s =
      if s.panel.door = .opened then some (.state, 1)
      else if s.drum.state = .fault then some (.state, 2)
      else if !s.motor.valid then some (.notCalibrated, 1)
      else if !feasible s.motor rpm then some (.range, rpm)
      else none := by
  rcases hs with rfl | rfl | rfl <;> simp [drumSpinFault, ho, hc]

section
variable (hs : rpm = 60 ∨ rpm = 90 ∨ rpm = 120) (hfree : s.runningOrder = none ∧ s.cal = none)
include hs hfree

theorem drumSpinFault_door (hd : s.panel.door = .opened) : drumSpinFault rpm s = some (.state, 1) := by
  rw [drumSpinFault_free hs hfree.1 hfree.2, if_pos hd]

variable (hd : s.panel.door = .closed)
include hd

theorem drumSpinFault_fault (hf : s.drum.state = .fault) : drumSpinFault rpm s = some (.state, 2) := by
  simp [drumSpinFault_free hs hfree.1 hfree.2, hd, hf]

theorem drumSpinFault_motor (hf : s.drum.state ≠ .fault) (hm : s.motor.valid = false) :
    drumSpinFault rpm s = some (.notCalibrated, 1) := by
  simp [drumSpinFault_free hs hfree.1 hfree.2, hd, hf, hm]

theorem drumSpinFault_range (hf : s.drum.state ≠ .fault) (hm : s.motor.valid = true) (hr : feasible s.motor rpm = false) :
    drumSpinFault rpm s = some (.range, rpm) := by
  simp [drumSpinFault_free hs hfree.1 hfree.2, hd, hf, hm, hr]

theorem drumSpinFault_turn (hf : s.drum.state ≠ .fault) (hm : s.motor.valid = true) (hr : feasible s.motor rpm = true) :
    drumSpinFault rpm s = none := by
  simp [drumSpinFault_free hs hfree.1 hfree.2, hd, hf, hm, hr]

end

/-! ## The reply -/

theorem serveDrumSpin_refused (h : drumSpinFault v.toNat s = some (reason, q)) :
    serveDrumSpin [v] s = (.refused reason q, s) := by
  simp [serveDrumSpin, byteAt_zero, h]

theorem serveDrumSpin_stop {x : DrumState} {g : Nat} (h : drumSpinFault v.toNat s = none) (h0 : v.toNat = 0)
    (ht : stopRequest true s = t) (hx : t.drum.state = x) (hg : t.drum.target = g) :
    serveDrumSpin [v] s = (.ok (u8 x.code ++ u16 g), t) := by
  subst hx hg ht
  unfold serveDrumSpin
  dsimp only
  rw [byteAt_zero, h, if_pos h0]

theorem serveDrumSpin_turn {x : DrumState} {g : Nat} (h : drumSpinFault v.toNat s = none) (h0 : v.toNat ≠ 0)
    (ht : startSpinHold (speedRequest v.toNat s) = t) (hx : t.drum.state = x) (hg : t.drum.target = g) :
    serveDrumSpin [v] s = (.ok (u8 x.code ++ u16 g), t) := by
  subst hx hg ht
  unfold serveDrumSpin
  dsimp only
  rw [byteAt_zero, h, if_neg h0]

theorem u16_byte (v : Byte) : u16 v.toNat = [0#8, v] := by
  have h : v.toNat / 256 = 0 := Nat.div_eq_of_lt v.isLt
  simp [u16, h]

/-! ## The drum while a request is in service -/

/-- A DRUM_EVENT waits while a request is in service (R195). -/
theorem drumEvent_serving (h : u.link.replySlot = none) (c : DrumCause) : drumEvent c (u.serving dt r) =
    (u.noticed (.drum c u.drum.state u.drum.target u.drum.drive (u.drum.period.getD 0) u.drum.clip)).serving dt r :=
  placeNotice_serving h _

/-- A change of the drum's state beside no run of either kind, while a request is in service. -/
theorem drumChanged_serving (h : u.link.replySlot = none) (hr : u.run = none) (hc : u.cal = none) :
    drumChanged (u.serving dt r) = State.serving dt r
      (u.noticed (.drum .state u.drum.state u.drum.target u.drum.drive (u.drum.period.getD 0) u.drum.clip)) := by
  rw [drumChanged_idle (by exact hr) (by exact hc), drumEvent_serving h]

/-- FAULT is left by a stop request from DRUM_SPIN, a turning drum by every one (R39). -/
theorem stopRequest_fromSpin (hs : s.drum.state = .spinningUp ∨ s.drum.state = .locked ∨ s.drum.state = .drift ∨
    s.drum.state = .fault) : stopRequest true s = enterSpinningDown s := by
  rcases hs with hs | hs | hs | hs <;> simp [stopRequest, hs]

/-- A speed request that is taken away from that speed and outside SPINNING_UP enters SPINNING_UP (R38). -/
theorem speedRequest_spinsUp (h : s.speedTaken rpm = true) (hat : s.drum.atSpeed rpm = false)
    (hne : s.drum.state ≠ .spinningUp) :
    speedRequest rpm s = drumChanged (s.onDrum (Drum.spinUp rpm (feedForward s.motor rpm).toNat s.now)) := by
  simp [speedRequest, h, hat, hne]

end

/-- Settles O22: the checks in their order (`drumSpinFault_speed` to `drumSpinFault_turn`), then the stop request or the
speed request with its DRUM_EVENT waiting behind the reply (`drumChanged_serving`), and the spin hold. -/
theorem drumSpinTurnsAndStops : Obligations.DrumSpinTurnsAndStops := by
  intro dt tag v s hf hr now d spin rpm r hold D speed free may
  have hslot := hf.slot
  have hserve : ∀ (a : Reply) (u : State), u.link.tx = s.link.tx → u.link.replySlot = s.link.replySlot →
      serveDrumSpin [v] (s.serving dt r) = (a, u.serving dt r) → spin = .next (u.answered dt r a) := fun a u htx hsl h =>
    exec_request (i := .drumSpin dt tag [v]) rfl hf (by simp) rfl rfl a u htx hsl (congrArg answered h)
  have refuse : ∀ {reason : Reason} {q : Nat}, drumSpinFault rpm s = some (reason, q) →
      spin = .next (s.answered dt r (.refused reason q)) := fun h =>
    hserve _ s rfl rfl (serveDrumSpin_refused (s := s.serving dt r) h)
  have hstill : rpm = 0 → free → drumSpinFault rpm (s.serving dt r) = none := fun h0 hfree =>
    h0 ▸ drumSpinFault_stop (s := s.serving dt r) hfree.1 hfree.2
  have hpos : speed → rpm ≠ 0 := by
    rintro (h | h | h) <;> omega
  refine ⟨fun h0 hs => refuse (drumSpinFault_speed h0 hs), fun hs o ho => refuse (drumSpinFault_busy hs ho),
    fun hs ho hc => refuse (drumSpinFault_cal hs ho hc), fun hs hfree hd => ?_, fun hs hfree hd hfault => ?_,
    fun hs hfree hd hfault hm => ?_, fun hs hfree hd hfault hm hfe => ?_, fun h0 hfree hs => ?_, fun h0 hfree hs => ?_,
    fun hmay hs => ?_, fun hmay hs ht => ?_⟩
  · exact refuse (drumSpinFault_door hs hfree hd)
  · exact refuse (drumSpinFault_fault hs hfree hd hfault)
  · exact refuse (drumSpinFault_motor hs hfree hd hfault hm)
  · exact refuse (drumSpinFault_range hs hfree hd hfault hm hfe)
  · have hstop : stopRequest true (s.serving dt r) = State.serving dt r
        ((s.onDrum (Drum.spinDown now)).noticed (.drum .state .spinningDown 0 0 (d.period.getD 0) false)) :=
      (stopRequest_fromSpin (s := s.serving dt r) hs).trans
        (drumChanged_serving (u := s.onDrum (Drum.spinDown now)) hslot hr hfree.2)
    exact hserve _ _ (Link.enqueue_tx _ _) (Link.enqueue_replySlot _ _)
      (serveDrumSpin_stop (s := s.serving dt r) (x := .spinningDown) (g := 0) (hstill h0 hfree) h0 hstop rfl rfl)
  · have hstop : stopRequest true (s.serving dt r) = s.serving dt r := by
      have hd : (s.serving dt r).drum.state = d.state := rfl
      rcases hs with hs | hs <;> simp [stopRequest, hd, hs]
    exact hserve _ s rfl rfl (serveDrumSpin_stop (s := s.serving dt r) (hstill h0 hfree) h0 hstop rfl rfl)
  · obtain ⟨hsp, hfree, hd, hfault, hm, hfe⟩ := hmay
    have hst : (s.serving dt r).drum.state = d.state := rfl
    have hcal : d.state ≠ .calibrating := by
      rcases hs with hs | hs | hs <;> simp [hs]
    have hne : d.state ≠ .spinningUp := by
      rcases hs with hs | hs | hs <;> simp [hs]
    have hat : (s.serving dt r).drum.atSpeed rpm = false := by
      rcases hs with hs | hs | hs <;> simp [Drum.atSpeed, hst, hs]
    have htaken : (s.serving dt r).speedTaken rpm = true := State.speedTaken_iff.2 ⟨hd, hfault, hcal, hm, hfe⟩
    have hup : speedRequest rpm (s.serving dt r) = State.serving dt r
        ((s.onDrum (Drum.spinUp rpm D now)).noticed (.drum .state .spinningUp rpm D (d.period.getD 0) false)) :=
      (speedRequest_spinsUp htaken hat hne).trans
        (drumChanged_serving (u := s.onDrum (Drum.spinUp rpm D now)) hslot hr hfree.2)
    rw [← u16_byte v]
    exact hserve _ _ (Link.enqueue_tx _ _) (Link.enqueue_replySlot _ _) (serveDrumSpin_turn (s := s.serving dt r)
      (x := .spinningUp) (g := rpm) (drumSpinFault_turn (s := s.serving dt r) hsp hfree hd hfault hm hfe) (hpos hsp)
      (congrArg startSpinHold hup) rfl rfl)
  · obtain ⟨hsp, hfree, hd, hfault, hm, hfe⟩ := hmay
    have hat : (s.serving dt r).drum.atSpeed rpm = true := by
      have hd' : (s.serving dt r).drum.state = d.state := rfl
      have ht' : (s.serving dt r).drum.target = rpm := ht
      rcases hs with hs | hs <;> simp [Drum.atSpeed, hd', ht', hs]
    rw [← u16_byte v]
    exact hserve _ ({ s with drum := { d with spinHoldTimer := hold } }) rfl rfl (serveDrumSpin_turn (s := s.serving dt r)
      (x := d.state) (g := rpm) (drumSpinFault_turn (s := s.serving dt r) hsp hfree hd hfault hm hfe) (hpos hsp)
      (congrArg startSpinHold (speedRequest_atSpeed hat)) rfl ht)

end Sys2Proof.Machine
end

section
/-! PROOF. Calibration runs begin (R69, R72, R74, R76, R77, R80, R87): the checks passed, the lamp, the drum and the carriage
that a run asks for, and its wait. -/

namespace Sys2Proof.Machine

section
variable {s u : State} {c : CalRun} {k : CalKind} {f : State → State} {dt : Nat} {r : Request}

/-! ## A run that passes its checks -/

theorem calRunFault_passes (ho : s.runningOrder = none) (hc : s.cal = none) (hd : s.panel.door = .closed)
    (hf : s.drum.state ≠ .fault) (hm : k ≠ .motor → s.motor.valid = true)
    (ha : asksSpeed k s.drum.state = true → feasible s.motor 60 = true)
    (hk : k = .steps → s.carriage.state ≠ .fault ∧ s.panel.mountPresent = true ∧ s.scanPart.valid = true) :
    calRunFault k s = none := by
  cases k <;> simp_all [calRunFault]

theorem serveCalKind_begins (h : calRunFault k s = none) (hc : (f s).cal ≠ none) :
    serveCalKind k f s = (.ok (u8 k.code), f s) := by
  simp [serveCalKind, h, Option.isNone_iff_eq_none, hc]

/-- A CAL_RUN that passes its checks answers OK with the kind, and the run it begins stands. -/
theorem exec_calRun_begins {i : Instr} {p : List Byte} {tag : Byte} (hi : i.frame = some (dt, ⟨0x0A#8, tag, p⟩))
    (hf : s.LinkFree) (hp : p.length ≤ 60) (hl : lengthAgrees 0x0A#8 p = true)
    (hserve : ∀ t, serveCalRun p t = serveCalKind k f t) (hpass : calRunFault k s = none) (u : State)
    (htx : u.link.tx = s.link.tx) (hslot : u.link.replySlot = s.link.replySlot) (hcal : u.cal ≠ none)
    (hu : f (s.serving dt ⟨0x0A#8, tag, p⟩) = u.serving dt ⟨0x0A#8, tag, p⟩) :
    exec i s = .next (u.answered dt ⟨0x0A#8, tag, p⟩ (.ok (u8 k.code))) := by
  have h : serveCalRun p (s.serving dt ⟨0x0A#8, tag, p⟩) = (.ok (u8 k.code), u.serving dt ⟨0x0A#8, tag, p⟩) := by
    rw [hserve, serveCalKind_begins (by exact hpass) (by rw [hu]; exact hcal), hu]
  exact exec_request hi hf hp rfl hl _ u htx hslot (congrArg answered h)

/-! ## The wait -/

/-- Nothing that a run waits for holds while the drum is SPINNING_UP. -/
theorem calReady_spinningUp (h : s.drum.state = .spinningUp) : calReady c s = false := by
  unfold calReady
  cases c.kind <;> simp [h]

theorem calExamine_waits (hc : s.cal = some c) (h : calReady c s = false) : calExamine s = s := by
  simp [calExamine, hc, h]

theorem calExamine_measures (hc : s.cal = some c) (hp : c.phase = .waiting) (h : calReady c s = true) : calExamine s =
    { s with cal := some { c with phase := .measuring, offset := s.scanPart.offset, gain := s.scanPart.gain } } := by
  simp [calExamine, hc, hp, h, State.onCal]

/-! ## The drum -/

/-- A change of the drum's state says nothing to a MOTOR run. -/
theorem drumReportToCal_motor (hc : s.cal = some c) (hk : c.kind = .motor) : drumReportToCal s = s := by
  simp [drumReportToCal, hc, hk]

/-- The entry to SPINNING_UP ends no run's wait. -/
theorem drumReportToCal_spinningUp (hc : s.cal = some c) (hs : s.drum.state = .spinningUp) : drumReportToCal s = s := by
  simp [drumReportToCal, hc, hs, calExamine_waits hc (calReady_spinningUp hs)]

theorem drumChanged_noRun (hr : s.run = none) : drumChanged s = drumReportToCal (drumEvent .state s) := by
  unfold drumChanged reportDrum
  rw [drumReportToRun_none (by exact hr)]

/-- A run finds the drum at its speed, or asks for none (R72). -/
theorem calTakeDrum_stands {asks : Bool} (h : asks = true → s.drum.atSpeed 60 = true) (hn : s.drum.noLock = false) :
    calTakeDrum asks s = calExamine s := by
  have hs : (if asks then speedRequest 60 s else s) = s := by
    split
    · exact speedRequest_atSpeed (h ‹_›)
    · rfl
  unfold calTakeDrum
  rw [hs]
  simp [hn]

/-- A run has the drum enter SPINNING_UP toward 60 rpm, and waits (R38, R72). -/
theorem calTakeDrum_spinsUp (hr : s.run = none) (hc : s.cal = some c) (ht : s.speedTaken 60 = true)
    (hat : s.drum.atSpeed 60 = false) (hne : s.drum.state ≠ .spinningUp) : calTakeDrum true s =
    drumEvent .state (s.onDrum (Drum.spinUp 60 (feedForward s.motor 60).toNat s.now)) := by
  have hup : speedRequest 60 s = drumEvent .state (s.onDrum (Drum.spinUp 60 (feedForward s.motor 60).toNat s.now)) := by
    rw [speedRequest_spinsUp ht hat hne, drumChanged_noRun (by exact hr)]
    exact drumReportToCal_spinningUp hc rfl
  unfold calTakeDrum
  rw [if_pos rfl, hup]
  exact calExamine_waits hc (calReady_spinningUp rfl)

/-- The same while a request is in service: the DRUM_EVENT waits. -/
theorem calTakeDrum_spinsUp_serving (hslot : u.link.replySlot = none) (hr : u.run = none) (hc : u.cal = some c)
    (ht : u.speedTaken 60 = true) (hat : u.drum.atSpeed 60 = false) (hne : u.drum.state ≠ .spinningUp) :
    calTakeDrum true (u.serving dt r) =
      ((u.onDrum (Drum.spinUp 60 (feedForward u.motor 60).toNat (u.now + dt))).noticed
        (.drum .state .spinningUp 60 (feedForward u.motor 60).toNat (u.drum.period.getD 0) false)).serving dt r :=
  (calTakeDrum_spinsUp (s := u.serving dt r) hr hc ht hat hne).trans (drumEvent_serving (u := u.onDrum _) hslot _)

theorem Drum.atSpeed_still {d : Drum} {rpm : Nat} (h : d.state = .stopped ∨ d.state = .spinningDown) :
    d.atSpeed rpm = false := by
  rcases h with h | h <;> simp [Drum.atSpeed, h]

/-! ## The lamp -/

/-- The lamp under a dark hold that has just been set (R87). -/
def Lamp.darkened (now : Nat) (l : Lamp) : Lamp :=
  if l.state = .off then { l with darkHold := true }
  else { l with state := .off, warmTimer := none, idleTimer := none, offTime := some now, darkHold := true }

theorem setDarkHold_eq (hr : s.run = none) : setDarkHold s = s.onLamp (Lamp.darkened s.now) := by
  refine (reportLamp_none (s := s.onLamp _) hr).trans ?_
  unfold State.onLamp Lamp.darkened
  by_cases h : s.lamp.state = .off <;> simp [Lamp.lit, Lamp.putOut, h]

/-- A lamp under a new dark hold has been OFF for a second when it was OFF before (R76). -/
theorem Lamp.darkened_dark {now : Nat} {l : Lamp} : (l.darkened now).dark now = true ↔
    l.state = .off ∧ ∀ t, l.offTime = some t → t + 1000000 ≤ now := by
  by_cases h : l.state = .off
  · cases ht : l.offTime <;> simp [Lamp.darkened, Lamp.dark, h, ht, sec]
  · simp [Lamp.darkened, Lamp.dark, h, sec]

/-- A request joins a lit lamp: the lamp-idle timer stops (R85). -/
theorem lampJoin_lit {q : LampRequest} (hr : s.run = none) (hq : s.lamp.standing q = false) (hl : s.lamp.state ≠ .off) :
    lampJoin q s = s.onLamp fun l => { l.setRequest q true with idleTimer := none } := by
  unfold lampJoin
  rw [hq]
  simp only [Bool.false_eq_true, if_false]
  refine (reportLamp_none (s := s.onLamp _) hr).trans ?_
  have hs : (s.lamp.setRequest q true).state ≠ .off := by cases q <;> exact hl
  simp [State.onLamp, Lamp.answer, hs]

/-! ## The carriage of a STEPS run -/

theorem beginSteps_moves {p : Nat} {l : List TabletStep} {t : State}
    (h : calTakeDrum true (lampJoin .calibration { s with cal := some (newCalRun .steps l p s.now) }) = t)
    (hc : t.cal ≠ none) : beginSteps p l s = moveTo p t := by
  unfold beginSteps
  rw [h]
  exact if_pos (Option.isSome_iff_ne_none.2 hc)

theorem moveTo_waits {p : Nat} (h : s.carriage.state ≠ .home) :
    moveTo p s = s.onCarriage fun c => { c with waitingMove := some p } := by
  simp [moveTo, h]

/-- From HOME position 0 is reached at once (R91). -/
theorem moveTo_zero (h : s.carriage.state = .home) (hc : s.cal = some c) :
    moveTo 0 s = calExamine { s with cal := some { c with arrived := true } } := by
  simp [moveTo, moveFromHome, calArrived, State.onCal, h, hc]

/-- From HOME at position 0 to a position of 2 or more: one step at once, the next after the step time (R89, R91). -/
theorem moveTo_advances {p : Nat} (hr : s.run = none) (h : s.carriage.state = .home) (h0 : s.carriage.position = some 0)
    (hp : 2 ≤ p) : moveTo p s = s.onCarriage fun c =>
      { c with
        state := .advancing, position := some 1, target := some p, stepAt := some (s.now + 2500)
        homeClosed := false } := by
  have hstep : s.carriage.advanceTo p s.now = { s.carriage with
      state := .advancing, position := some 1, target := some p, stepAt := some (s.now + 2500), homeClosed := false } := by
    have : p ≠ 1 := by omega
    simp [Carriage.advanceTo, Carriage.stepOut, h0, this, stepTime]
  have hrep : reportCarriage (s.onCarriage fun c => c.advanceTo p s.now) = s.onCarriage fun c => c.advanceTo p s.now :=
    onRun_none (s := s.onCarriage _) hr _
  have hp0 : p ≠ 0 := by omega
  simp only [moveTo, h, if_true, moveFromHome, hp0, if_false, hrep, reportArrival]
  simp [State.onCarriage, hstep]

end

/-- Settles O20: the checks pass (`calRunFault_passes`), and the run begins with the drum in CALIBRATING, or under the dark
hold with the drum as it stands or as it spins up (`calTakeDrum_stands`, `calTakeDrum_spinsUp`). -/
theorem motorAndDarkRunsBegin : Obligations.MotorAndDarkRunsBegin := by
  intro dt tag s hf hr ho hc hd hfault now d calibrating dark unlit waiting measuring
  have hslot := hf.slot
  refine ⟨?_, fun hm hs hn => ?_, fun hm hs hfe => ?_⟩
  · let u : State := { s with cal := some (newCalRun .motor [] 0 now), drum := calibrating }
    have hbegin : ∀ r, beginMotor (s.serving dt r) = State.serving dt r
        (u.noticed (.drum .state .calibrating 0 1200 (d.period.getD 0) false)) := fun r =>
      calc beginMotor (s.serving dt r)
        _ = drumReportToCal (drumEvent .state (u.serving dt r)) := drumChanged_noRun (s := u.serving dt r) hr
        _ = drumEvent .state (u.serving dt r) := drumReportToCal_motor (c := newCalRun .motor [] 0 now) rfl rfl
        _ = _ := drumEvent_serving (u := u) hslot _
    exact exec_calRun_begins (k := .motor) rfl hf (by simp) rfl (fun _ => rfl)
      (calRunFault_passes ho hc hd hfault (fun h => absurd rfl h) nofun nofun) _ (Link.enqueue_tx _ _)
      (Link.enqueue_replySlot _ _) nofun (hbegin _)
  · have hasks : asksSpeed .dark d.state = false := by
      rcases hs with hs | hs <;> simp [asksSpeed, DrumState.isTurning, hs]
    let u : State := { s with cal := some waiting, lamp := dark }
    have hready : ∀ r, calReady waiting (u.serving dt r) = true ↔ unlit := fun r => by
      have hdrum : (d.state == .locked || d.state == .drift) = true := by
        rcases hs with hs | hs <;> simp [hs]
      have : calReady waiting (u.serving dt r) = (dark.dark now && (d.state == .locked || d.state == .drift)) := rfl
      rw [this, hdrum, Bool.and_true]
      exact Lamp.darkened_dark
    have hbegin : ∀ r, beginDark (s.serving dt r) = calExamine (u.serving dt r) := fun r => by
      unfold beginDark
      rw [setDarkHold_eq (by exact hr)]
      exact calTakeDrum_stands (s := u.serving dt r) (fun e => absurd (hasks.symm.trans e) Bool.false_ne_true) hn
    have hpass := calRunFault_passes (k := .dark) ho hc hd hfault (fun _ => hm)
      (fun e => absurd (hasks.symm.trans e) Bool.false_ne_true) nofun
    exact ⟨fun hl => exec_calRun_begins rfl hf (by simp) rfl (fun _ => rfl) hpass _ rfl rfl nofun
        ((hbegin _).trans (calExamine_measures rfl rfl ((hready _).2 hl))),
      fun hl => exec_calRun_begins rfl hf (by simp) rfl (fun _ => rfl) hpass u rfl rfl nofun
        ((hbegin _).trans (calExamine_waits (c := waiting) rfl (Bool.not_eq_true _ ▸ mt (hready _).1 hl)))⟩
  · have hasks : asksSpeed .dark d.state = true := by
      rcases hs with hs | hs <;> simp [asksSpeed, DrumState.isTurning, hs]
    have hst : d.state ≠ .calibrating ∧ d.state ≠ .spinningUp := by
      rcases hs with hs | hs <;> simp [hs]
    let u : State := { s with cal := some waiting, lamp := dark }
    have hbegin : ∀ r, beginDark (s.serving dt r) = State.serving dt r
        ((u.onDrum (Drum.spinUp 60 (feedForward s.motor 60).toNat now)).noticed
          (.drum .state .spinningUp 60 (feedForward s.motor 60).toNat (d.period.getD 0) false)) := fun r => by
      unfold beginDark
      rw [setDarkHold_eq (by exact hr), show asksSpeed .dark (s.serving dt r).drum.state = true from hasks]
      exact calTakeDrum_spinsUp_serving (u := u) hslot hr rfl (State.speedTaken_iff.2 ⟨hd, hfault, hst.1, hm, hfe⟩)
        (Drum.atSpeed_still hs) hst.2
    exact exec_calRun_begins rfl hf (by simp) rfl (fun _ => rfl)
      (calRunFault_passes (k := .dark) ho hc hd hfault (fun _ => hm) (fun _ => hfe) nofun) _ (Link.enqueue_tx _ _)
      (Link.enqueue_replySlot _ _) nofun (hbegin _)

section
variable {s : State} {x : CalRun} {dt : Nat} {tag : Byte} {rest : List Byte}

/-- A lit lamp takes the request of a run that stands (R77, R80, R85). -/
theorem lampJoin_calibration (hr : s.run = none) (hq : s.lamp.calReq = false) (hl : s.lamp.state = .ready) (r : Request) :
    lampJoin .calibration (State.serving dt r { s with cal := some x }) =
      State.serving dt r { s with cal := some x, lamp := { s.lamp with calReq := true, idleTimer := none } } := by
  refine lampJoin_lit (s := State.serving dt r { s with cal := some x }) hr hq fun e => ?_
  have h : LampState.ready = .off := hl.symm.trans e
  cases h

theorem serveCalRun_steps (h : stepsFault (3#8 :: rest) = none) (t : State) : serveCalRun (3#8 :: rest) t =
    serveCalKind .steps (beginSteps (wordAt (3#8 :: rest) 1) (stepsOf (3#8 :: rest))) t := by
  have hb : byteAt (3#8 :: rest) 0 = 3 := rfl
  simp only [serveCalRun, hb, h]

end

/-- Settles O21: the lamp takes the request (`lampJoin_lit`, `lampJoin_off`), the drum stands or spins up, and a STEPS run's
carriage begins its move or keeps it for HOME (`moveTo_advances`, `moveTo_zero`, `moveTo_waits`). -/
theorem whiteAndStepsRunsBegin : Obligations.WhiteAndStepsRunsBegin := by
  intro dt tag s hf hr ho hc hd hm hq hfe now d white wanted
  have hslot := hf.slot
  refine ⟨fun hl hs hn => ?_, fun hl hdark hs => ?_, ?_⟩
  · have hasks : asksSpeed .white d.state = false := by simp [asksSpeed, hs]
    have hfault : d.state ≠ .fault := by simp [hs]
    let u : State := { s with cal := some white, lamp := wanted }
    have hready : ∀ r, calReady white (u.serving dt r) = true := fun r => by
      have : calReady white (u.serving dt r) = (s.lamp.state == .ready && d.state == .locked) := rfl
      rw [this, hl, hs]
      rfl
    have hbegin : ∀ r, beginWhite (s.serving dt r) = calExamine (u.serving dt r) := fun r =>
      (congrArg (calTakeDrum _) (lampJoin_calibration hr hq hl r)).trans
        (calTakeDrum_stands (s := u.serving dt r) (fun e => absurd (hasks.symm.trans e) Bool.false_ne_true) hn)
    exact exec_calRun_begins rfl hf (by simp) rfl (fun _ => rfl)
      (calRunFault_passes (k := .white) ho hc hd hfault (fun _ => hm) (fun _ => hfe) nofun) _ rfl rfl nofun
      ((hbegin _).trans (calExamine_measures rfl rfl (hready _)))
  · have hasks : asksSpeed .white d.state = true := by
      rcases hs with hs | hs <;> simp [asksSpeed, hs]
    have hst : d.state ≠ .fault ∧ d.state ≠ .calibrating ∧ d.state ≠ .spinningUp := by
      rcases hs with hs | hs <;> simp [hs]
    let u : State := { s with cal := some white, lamp := Lamp.warmed .calibration now s.lamp }
    have hbegin : ∀ r, beginWhite (s.serving dt r) = State.serving dt r
        ((u.onDrum (Drum.spinUp 60 (feedForward s.motor 60).toNat now)).noticed
          (.drum .state .spinningUp 60 (feedForward s.motor 60).toNat (d.period.getD 0) false)) := fun r => by
      unfold beginWhite
      rw [lampJoin_off (by exact hr) (by exact hq) (by exact hl) (by exact hdark),
        show asksSpeed .white (s.serving dt r).drum.state = true from hasks]
      exact calTakeDrum_spinsUp_serving (u := u) hslot hr rfl
        (State.speedTaken_iff.2 ⟨hd, hst.1, hst.2.1, hm, hfe⟩) (Drum.atSpeed_still hs) hst.2.2
    have hwarm : Lamp.warmed .calibration now s.lamp = { wanted with
        state := .warming
        warmTimer := some (now + (if s.lamp.offTime = none ∨ ∃ t, s.lamp.offTime = some t ∧ t + 600000000 ≤ now then
          45000000 else 8000000)) } := by
      rw [← Lamp.warmTime]
      rfl
    rw [← hwarm]
    exact exec_calRun_begins rfl hf (by simp) rfl (fun _ => rfl)
      (calRunFault_passes (k := .white) ho hc hd hst.1 (fun _ => hm) (fun _ => hfe) nofun) _ (Link.enqueue_tx _ _)
      (Link.enqueue_replySlot _ _) nofun (hbegin _)
  · intro rest hlen h59 hsteps hmount hscan hl hs hn position steps
    have hst : d.state ≠ .fault ∧ d.state ≠ .calibrating ∧ d.state ≠ .spinningUp := by simp [hs]
    let u : State := { s with cal := some steps, lamp := wanted }
    let r : Request := ⟨0x0A#8, tag, 3#8 :: rest⟩
    have hserve : s.carriage.state ≠ .fault → ∀ v : State, v.link.tx = s.link.tx →
        v.link.replySlot = s.link.replySlot → v.cal ≠ none → beginSteps position (stepsOf (3#8 :: rest)) (s.serving dt r) = v.serving dt r →
        exec (.calRunSteps dt tag rest) s = .next (v.answered dt r (.ok [3#8])) := fun hcf v htx hsl hcal hb =>
      exec_calRun_begins (k := .steps) rfl hf (by simp; omega) hlen (serveCalRun_steps hsteps)
        (calRunFault_passes ho hc hd hst.1 (fun _ => hm) (fun _ => hfe) fun _ => ⟨hcf, hmount, hscan⟩) v htx hsl hcal hb
    have hmoves : ∀ t : State, calTakeDrum true (u.serving dt r) = t → t.cal ≠ none →
        beginSteps position (stepsOf (3#8 :: rest)) (s.serving dt r) = moveTo position t := fun t ht hcal =>
      beginSteps_moves (s := s.serving dt r) ((congrArg (calTakeDrum true) (lampJoin_calibration hr hq hl r)).trans ht) hcal
    have hstands : d.target = 60 → beginSteps position (stepsOf (3#8 :: rest)) (s.serving dt r) =
        moveTo position (u.serving dt r) := fun ht => by
      have hat : d.atSpeed 60 = true := by simp [Drum.atSpeed, hs, ht]
      refine hmoves _ ?_ nofun
      exact (calTakeDrum_stands (s := u.serving dt r) (fun _ => hat) hn).trans (calExamine_waits (c := steps) rfl rfl)
    refine ⟨fun ht hh h0 hp => ?_, fun ht hh hp => ?_, fun ht hh hp => ?_, fun ht hh => ?_⟩
    · exact hserve (by simp [hh]) _ rfl rfl nofun
        ((hstands ht).trans (moveTo_advances (s := u.serving dt r) hr hh h0 hp))
    · let v : State := { s with cal := some { steps with arrived := true }, lamp := wanted }
      have hready : calReady { steps with arrived := true } (v.serving dt r) = true := by
        have : calReady { steps with arrived := true } (v.serving dt r) =
            (s.lamp.state == .ready && d.state == .locked) := rfl
        rw [this, hl, hs]
        rfl
      have hmove : moveTo position (u.serving dt r) = calExamine (v.serving dt r) :=
        (congrArg (moveTo · _) hp).trans (moveTo_zero (s := u.serving dt r) hh rfl)
      exact hserve (by simp [hh]) _ rfl rfl nofun
        ((hstands ht).trans (hmove.trans (calExamine_measures rfl rfl hready)))
    · have hat : d.atSpeed 60 = false := by simp [Drum.atSpeed, hs, ht]
      have htaken : u.speedTaken 60 = true := State.speedTaken_iff.2 ⟨hd, hst.1, hst.2.1, hm, hfe⟩
      have hspin := calTakeDrum_spinsUp_serving (u := u) (dt := dt) (r := r) hslot hr rfl htaken hat hst.2.2
      refine hserve (by simp [hh]) _ (Link.enqueue_tx _ _) (Link.enqueue_replySlot _ _) nofun
        ((hmoves _ hspin nofun).trans ?_)
      refine (congrArg (moveTo · _) hp).trans ((moveTo_zero (by exact hh) rfl).trans ?_)
      exact calExamine_waits rfl (calReady_spinningUp rfl)
    · have hne : s.carriage.state ≠ .home := by rcases hh with hh | hh <;> simp [hh]
      have hcf : s.carriage.state ≠ .fault := by rcases hh with hh | hh <;> simp [hh]
      exact hserve hcf _ rfl rfl nofun ((hstands ht).trans (moveTo_waits (s := u.serving dt r) hne))

end Sys2Proof.Machine
end

section
/-! PROOF. The index pulse outside the turning states (R39, R41, R47), and the four phases of a MOTOR run (R74, R75). -/

namespace Sys2Proof.Machine

section
variable {s : State} {c : CalRun} {P x : Nat}

theorem exec_indexPulse (dt : Nat) (r : Sample) (s : State) : exec (.indexPulse dt r) s =
    .next (selectAfterCal (advance dt s) (indexPulse r.toNat (advance dt s))) := rfl

theorem exec_indexPulse_eq {dt : Nat} {r : Sample} {s t : State} (h : indexPulse r.toNat (advance dt s) = t)
    (hsel : selectAfterCal (advance dt s) t = t) : exec (.indexPulse dt r) s = .next t := by
  rw [exec_indexPulse, h, hsel]

theorem exec_motorSettleEnd (dt : Nat) (s : State) : exec (.motorSettleEnd dt) s =
    .next (if due (s.cal.bind CalRun.settleTimer) (s.now + dt) then settleEnd (advance dt s) else advance dt s) := rfl

/-- A calibration run that goes on re-examines no selection. -/
theorem selectAfterCal_runs {t : State} (h : t.cal = some c) : selectAfterCal s t = t := by
  simp [selectAfterCal, h]

/-- With no order QUEUED the end of a calibration run selects none (R18, R70). -/
theorem selectAfterCal_noneQueued {t : State} (h : ∀ o ∈ t.manager.table, o.state ≠ .queued) :
    selectAfterCal s t = t := by
  unfold selectAfterCal
  split
  · exact select_noneQueued h
  · rfl

/-! ## The pulse by the drum's state -/

theorem indexPulse_still (h : s.drum.state = .stopped ∨ s.drum.state = .fault) : indexPulse x s = s.measured := by
  rcases h with h | h
  · simp only [indexPulse, h]
    rfl
  · simp only [indexPulse, h]
    rfl

theorem indexPulse_spinningDown (h : s.drum.state = .spinningDown) :
    indexPulse x s = s.measured.onDrum fun d => { d with quietTimer := some (s.now + sec 2) } := by
  simp only [indexPulse, h]
  rfl

theorem indexPulse_noPeriod (h : s.drum.state = .calibrating) (hp : s.measured.drum.period = none) :
    indexPulse x s = s.measured := by
  have hm : (Drum.measure s.now s.drum).period = none := hp
  simp only [indexPulse, h, onDrum_drum, hm]
  rfl

theorem indexPulse_period (h : s.drum.state = .calibrating) (hp : s.measured.drum.period = some P) :
    indexPulse x s = motorPeriod P s.measured := by
  have hm : (Drum.measure s.now s.drum).period = some P := hp
  simp only [indexPulse, h, onDrum_drum, hm]
  rfl

/-! ## The four phases -/

section
variable (hc : s.cal = some c)
include hc

theorem motorPeriod_settling (h : c.phase = .settleLow ∨ c.phase = .settleHigh) : motorPeriod P s = s := by
  rcases h with h | h <;> simp [motorPeriod, hc, h]

theorem motorPeriod_adds (h : c.phase = .measureLow ∨ c.phase = .measureHigh) (hu : c.used < 3) : motorPeriod P s =
    { s with cal := some { c with used := c.used + 1, sums := [c.sums.getD 0 0 + P] } } := by
  have h4 : c.used + 1 ≠ 4 := by omega
  rcases h with h | h <;> simp [motorPeriod, CalRun.addPeriod, hc, h, h4]

/-- The fourth period at D1 gives P1, and the drive goes to D2 (R74). -/
theorem motorPeriod_low (h : c.phase = .measureLow) (hu : c.used = 3) : motorPeriod P s =
    { s with
      drum := { s.drum with drive := 3600 }
      cal := some
        { c with
          phase := .settleHigh, p1 := (c.sums.getD 0 0 + P + 2) / 4, settleTimer := some (s.now + 3000000), sums := [0]
          used := 0 } } := by
  simp only [motorPeriod, CalRun.addPeriod, hc, h, hu]
  rfl

/-- The fourth period at D2 ends the run (R74, R75). -/
theorem motorPeriod_high (h : c.phase = .measureHigh) (hu : c.used = 3) :
    motorPeriod P s = motorComplete c.p1 ((c.sums.getD 0 0 + P + 2) / 4) s := by
  simp only [motorPeriod, CalRun.addPeriod, hc, h, hu]
  rfl

/-- A MOTOR run's end gives nothing back and starts no spin hold (R53, R71). -/
theorem calEnd_motor (hk : c.kind = .motor) (o : CalOutcome) (f : Option CalFailure) (n : Nat) (g : CalFigures) :
    calEnd o f n g s = placeNotice (.cal .motor o f n g) { s with cal := none } := by
  simp [calEnd, hc, hk, calGiveBack]

/-- The stop request at the end of MEASURE_HIGH says nothing to the run (R58, R75). -/
theorem stopRequest_motor (hk : c.kind = .motor) (hs : s.drum.state = .calibrating) (hr : s.run = none) :
    stopRequest false s = drumEvent .state (s.onDrum (Drum.spinDown s.now)) := by
  have hspins : s.drum.state.spins = true := by rw [hs]; rfl
  rw [stopRequest_spins hspins, enterSpinningDown, drumChanged_noRun (by exact hr)]
  exact drumReportToCal_motor (by exact hc) hk

/-- SPINNING_DOWN with its DRUM_EVENT, then the CAL_DONE (R75). -/
theorem motorEnded_eq (hk : c.kind = .motor) (hs : s.drum.state = .calibrating) (hr : s.run = none)
    (hP : s.drum.period.getD 0 = P) (o : CalOutcome) (f : Option CalFailure) (n : Nat) (g : CalFigures) :
    calEnd o f n g (stopRequest false s) =
      { s with
        drum := s.drum.spinDown s.now
        cal := none
        link := (s.link.place s.now (.drum .state .spinningDown 0 0 P false)).place s.now (.cal .motor o f n g) } := by
  rw [stopRequest_motor hc hk hs hr, calEnd_motor (by exact hc) hk, ← hP]
  rfl

end

theorem speedOf_pos {p : Nat} (h : 0 < p) : speedOf p = halfUp 60000000000 p := by
  have : p ≠ 0 := by omega
  simp [speedOf, this]

theorem motorComplete_done {p q : Nat} (hp : 0 < p) (hq : 0 < q)
    (h : halfUp 60000000000 p + 20000 ≤ halfUp 60000000000 q) : motorComplete p q s =
    calEnd .done none 0 (.motor p q (halfUp 60000000000 p) (halfUp 60000000000 q))
      (stopRequest false (installSpeeds (halfUp 60000000000 p) (halfUp 60000000000 q) s)) := by
  simp [motorComplete, speedOf_pos hp, speedOf_pos hq, slopePasses, h]

theorem motorComplete_slope {p q : Nat} (hp : 0 < p) (hq : 0 < q)
    (h : halfUp 60000000000 q < halfUp 60000000000 p + 20000) : motorComplete p q s =
    calEnd .failed (some .slope) (min ((halfUp 60000000000 q - halfUp 60000000000 p) / 1000) 65535)
      (.motor p q (halfUp 60000000000 p) (halfUp 60000000000 q)) (stopRequest false s) := by
  simp [motorComplete, speedOf_pos hp, speedOf_pos hq, slopePasses, slopeNumber, Nat.not_le.2 h]

/-! ## The settling times -/

section
variable {dt e : Nat} (hc : s.cal = some c) (he : c.settleTimer = some e)
include hc he

theorem exec_motorSettleEnd_early (h : s.now + dt < e) : exec (.motorSettleEnd dt) s = .next (advance dt s) := by
  rw [exec_motorSettleEnd, if_neg]
  simpa [due, hc, he] using h

theorem exec_motorSettleEnd_due (h : e ≤ s.now + dt) : exec (.motorSettleEnd dt) s = .next (settleEnd (advance dt s)) := by
  rw [exec_motorSettleEnd, if_pos]
  simpa [due, hc, he] using h

end

theorem settleEnd_low (hc : s.cal = some c) (hp : c.phase = .settleLow) : settleEnd s =
    { s with cal := some { c with phase := .measureLow, settleTimer := none, sums := [0], used := 0 } } := by
  simp [settleEnd, State.onCal, hc, hp]

theorem settleEnd_high (hc : s.cal = some c) (hp : c.phase = .settleHigh) : settleEnd s =
    { s with cal := some { c with phase := .measureHigh, settleTimer := none, sums := [0], used := 0 } } := by
  simp [settleEnd, State.onCal, hc, hp]

end

/-- Settles O40: the pulse by the drum's state (`indexPulse_still` to `indexPulse_period`), and a MOTOR run's phases by their
periods (`motorPeriod_adds`, `motorPeriod_low`, `motorPeriod_high`) and their settling times. -/
theorem indexPulsesOutsideTheLoop : Obligations.IndexPulsesOutsideTheLoop := by
  intro dt r s now period d m
  have hperiod : ∀ P, period = some P → m.drum.period.getD 0 = P := fun P h => congrArg (Option.getD · 0) h
  refine ⟨fun h => ?_, fun h => ?_, fun h c hc => ⟨fun hp => ?_, fun P hP hphase => ⟨fun hu => ?_, fun hu hl => ?_,
    fun hu hh hk h1 h2 hr hq => ⟨fun hle => ?_, fun hlt => ?_⟩⟩⟩,
    fun c e hc he => ⟨fun hlt => ?_, fun hle hp => ?_, fun hle hp => ?_⟩⟩
  · exact exec_indexPulse_eq (indexPulse_still (s := advance dt s) h) (selectAfterCal_same rfl)
  · exact exec_indexPulse_eq (indexPulse_spinningDown (s := advance dt s) h) (selectAfterCal_same rfl)
  · have hpulse : indexPulse r.toNat (advance dt s) = m := by
      cases hper : period with
      | none => exact indexPulse_noPeriod (s := advance dt s) h hper
      | some P =>
        rw [indexPulse_period (s := advance dt s) h hper]
        exact motorPeriod_settling (s := m) hc (hp.resolve_left (by simp [hper]))
    exact exec_indexPulse_eq hpulse (selectAfterCal_runs (c := c) hc)
  · exact exec_indexPulse_eq ((indexPulse_period (s := advance dt s) h hP).trans (motorPeriod_adds (s := m) hc hphase hu))
      (selectAfterCal_runs rfl)
  · exact exec_indexPulse_eq ((indexPulse_period (s := advance dt s) h hP).trans (motorPeriod_low (s := m) hc hl hu))
      (selectAfterCal_runs rfl)
  · have hend := (indexPulse_period (x := r.toNat) (s := advance dt s) h hP).trans (motorPeriod_high (s := m) hc hh hu)
    exact exec_indexPulse_eq (hend.trans ((motorComplete_done h1 h2 hle).trans
      (motorEnded_eq (s := installSpeeds _ _ m) hc hk h hr (hperiod P hP) _ _ _ _)))
      (selectAfterCal_noneQueued (by exact hq))
  · have hend := (indexPulse_period (x := r.toNat) (s := advance dt s) h hP).trans (motorPeriod_high (s := m) hc hh hu)
    exact exec_indexPulse_eq (hend.trans ((motorComplete_slope h1 h2 hlt).trans
      (motorEnded_eq (s := m) hc hk h hr (hperiod P hP) _ _ _ _))) (selectAfterCal_noneQueued (by exact hq))
  · exact exec_motorSettleEnd_early hc he hlt
  · exact (exec_motorSettleEnd_due hc he hle).trans (congrArg _ (settleEnd_low (s := advance dt s) hc hp))
  · exact (exec_motorSettleEnd_due hc he hle).trans (congrArg _ (settleEnd_high (s := advance dt s) hc hp))

end Sys2Proof.Machine
end

section
/-! PROOF. The door interlock (R50, R51, R73): the drum and the mount in every state, and all of the state beside no run. -/

namespace Sys2Proof.Machine

section
variable {s : State} {d : Drum} {now : Nat}

/-! ## The drum at the interlock -/

theorem interlock_still (h : d.state.spins = false) :
    d.interlock now = { d with drive := 0, brake := true, spinHoldTimer := none } := by
  unfold Drum.interlock
  split <;> simp_all [DrumState.spins]

/-- The drive, the brake and the spin-hold timer after the interlock, and the drum's state (R39, R50). -/
theorem interlock_stops (d : Drum) (now : Nat) : (d.interlock now).drive = 0 ∧ (d.interlock now).brake = true ∧
    (d.interlock now).spinHoldTimer = none ∧
    (d.interlock now).state = if d.state.spins then .spinningDown else d.state := by
  by_cases h : d.state.spins = true
  · rw [interlock_spins h, if_pos h]
    exact ⟨rfl, rfl, rfl, rfl⟩
  · rw [interlock_still (Bool.not_eq_true _ ▸ h), if_neg h]
    exact ⟨rfl, rfl, rfl, rfl⟩

/-- A run's abort changes no more of the drum after the interlock than the trim request. -/
theorem interlocked_drum : ∃ tr, s.interlocked.drum = { s.drum.interlock s.now with trim := tr } := by
  unfold State.interlocked
  dsimp only
  obtain ⟨tr, h⟩ := runAbort_drum .door (s := drumReportToRun
    (if (s.onDrum (Drum.interlock s.now)).drum.state = s.drum.state then s.onDrum (Drum.interlock s.now)
      else drumEvent .state (s.onDrum (Drum.interlock s.now))))
  refine ⟨tr, ?_⟩
  rw [calAbort_drum (by decide) (by decide), h]
  split <;> simp

theorem interlocked_records : s.interlocked.cal = none ∧ s.interlocked.directory = s.directory ∧
    s.interlocked.motor = s.motor ∧ s.interlocked.scanPart = s.scanPart ∧ s.interlocked.curve = s.curve ∧
    s.interlocked.encoder = s.encoder ∧ s.interlocked.pending = s.pending ∧ s.interlocked.now = s.now := by
  unfold State.interlocked
  refine ⟨calAbort_cal _, ?_⟩
  dsimp only
  split <;> simp

/-- Beside no run a drum that does not turn stands, and nothing is placed. -/
theorem interlocked_still (h : s.drum.state.spins = false) (hr : s.run = none) (hc : s.cal = none) :
    s.interlocked = s.onDrum fun d => { d with drive := 0, brake := true, spinHoldTimer := none } := by
  have hdrum : s.onDrum (Drum.interlock s.now) =
      s.onDrum fun d => { d with drive := 0, brake := true, spinHoldTimer := none } := by
    simp [State.onDrum, interlock_still h]
  unfold State.interlocked
  rw [hdrum]
  dsimp only
  rw [if_pos (by rfl), drumReportToRun_none (by exact hr), runAbort_none (by exact hr), calAbort_none (by exact hc)]

/-- Beside no run a drum that turns or calibrates spins down with its DRUM_EVENT. -/
theorem interlocked_turning (h : s.drum.state.spins = true) (hr : s.run = none) (hc : s.cal = none) :
    s.interlocked = s.spunDown := by
  have hrun : s.spunDown.run = none := hr
  rw [interlocked_spins h hc, drumReportToRun_none hrun, runAbort_none hrun]

/-! ## The mount's end -/

theorem mountEnd_panel : (mountEnd s).panel = { s.panel with mountPresent := false } := by
  by_cases h : s.panel.mountPresent = true
  · simp [mountEnd, h]
  · have hp : s.panel.mountPresent = false := Bool.not_eq_true _ ▸ h
    rw [mountEnd, if_neg h, ← hp]

/-- With no order bound to the mount and no pre-warm request, the mount's end is that of the mount alone. -/
theorem mountEnd_alone (hl : s.lamp.prewarm = false)
    (hno : ∀ x ∈ s.manager.table, x.state = .queued → x.mount ≠ s.panel.mountCounter) :
    mountEnd s = s.onPanel fun p => { p with mountPresent := false } := by
  by_cases h : s.panel.mountPresent = true
  · exact mountEnd_unbound h hl hno
  · have hp : s.panel.mountPresent = false := Bool.not_eq_true _ ▸ h
    have e : (s.onPanel fun p => { p with mountPresent := false }) = s := by
      unfold State.onPanel
      rw [← hp]
    rw [e, mountEnd, if_neg h]

/-! ## The two commands -/

theorem panelEvent_counter {i : PanelInput} {level : Option Nat} {M : Nat} (h : s.panel.mountCounter = M) :
    panelEvent i level s = placeNotice (.panel i level M s.panel.mountPresent) s := by
  rw [panelEvent, h]

/-- With the mount gone, the end of a calibration run selects no order (R10, R18). -/
theorem selectAfterCal_interlock (t : State) : selectAfterCal t (doorInterlock s) = doorInterlock s := by
  unfold selectAfterCal
  split
  · rw [doorInterlock_eq, select_unmounted mountEnd_present]
  · rfl

theorem exec_doorOpen {dt : Nat} (h : s.panel.door = .closed) : exec (.doorOpen dt) s = .next
    (panelEvent .door (some 1) (doorInterlock ((advance dt s).onPanel fun p => { p with door := .opened }))) := by
  have he : exec (.doorOpen dt) s = .next (openDoor (advance dt s)) := congrArg Host.Outcome.next (if_pos h)
  rw [he, openDoor, selectAfterCal_interlock]
  rfl

theorem exec_clampRelease {dt : Nat} (hd : s.panel.door = .closed) (h : s.panel.clamp = .engaged) :
    exec (.clampRelease dt) s = .next
      (panelEvent .clamp (some 1) (doorInterlock ((advance dt s).onPanel fun p => { p with clamp := .released }))) := by
  have he : exec (.clampRelease dt) s = .next (releaseClamp (advance dt s)) := congrArg Host.Outcome.next (if_pos h)
  have hd' : (advance dt s).panel.door = .closed := hd
  rw [he]
  simp only [releaseClamp, hd', if_true, selectAfterCal_interlock]
  rfl

end

/-- Settles O35: both commands are the door interlock and a PANEL_EVENT (`exec_doorOpen`, `exec_clampRelease`); the drum after it
is `interlock_stops`, and beside no run the interlock places at most the DRUM_EVENT. -/
theorem interlockStopsTheDrum : Obligations.InterlockStopsTheDrum := by
  intro dt s c input level panel hdoor hcmd now turns down notice
  obtain ⟨f, hexec, hpanel, hM⟩ : ∃ f : Panel → Panel, exec c s = .next (panelEvent input (some level)
      (doorInterlock ((advance dt s).onPanel f))) ∧ panel = { f s.panel with mountPresent := false } ∧
      (f s.panel).mountCounter = s.panel.mountCounter := by
    rcases hcmd with ⟨rfl, rfl, rfl, rfl⟩ | ⟨rfl, hclamp, rfl, rfl, rfl⟩
    · exact ⟨_, exec_doorOpen hdoor, rfl, rfl⟩
    · exact ⟨_, exec_clampRelease hdoor hclamp, rfl, rfl⟩
  have hspins : s.drum.state.spins = true ↔ turns := DrumState.spins_iff
  let p : State := (advance dt s).onPanel f
  obtain ⟨tr, hdrum⟩ := interlocked_drum (s := (advance dt s).onPanel f)
  obtain ⟨hdrive, hbrake, hhold, hstate⟩ := interlock_stops s.drum now
  refine ⟨⟨_, hexec, ?_⟩, fun hr hc hl hno => ⟨fun ht => ?_, fun ht => ?_⟩⟩
  · obtain ⟨hcal, hdir, hmotor, hscan, hcurve, henc, hpend, hnow⟩ := interlocked_records (s := p)
    obtain ⟨hpan, hset, hclock, -⟩ := interlocked_keeps (s := p)
    simp only [panelEvent_keeps, doorInterlock_eq, mountEnd_panel, mountEnd_keeps, hdrum]
    refine ⟨hdrive, hbrake, hhold, fun ht => ?_, fun ht => ?_, hcal, ?_, hset, hdir, hclock, hmotor, hscan,
      hcurve, henc, hpend, hnow⟩
    · exact hstate.trans (if_pos (hspins.2 ht))
    · exact hstate.trans (if_neg (mt hspins.1 ht))
    · rw [hpan, hpanel]
      rfl
  · have hM' : ∀ x ∈ p.spunDown.manager.table, x.state = .queued → x.mount ≠ p.spunDown.panel.mountCounter :=
      hM ▸ hno
    rw [hexec, doorInterlock_eq, interlocked_turning (s := p) (hspins.2 ht) hr hc,
      mountEnd_alone (by exact hl) hM', hpanel,
      panelEvent_counter (M := s.panel.mountCounter) (by exact hM)]
    rfl
  · have hstill : s.drum.state.spins = false := Bool.not_eq_true _ ▸ mt hspins.1 ht
    rw [hexec, doorInterlock_eq, interlocked_still (s := p) hstill hr hc,
      mountEnd_alone (by exact hl) (by exact hM ▸ hno), hpanel,
      panelEvent_counter (M := s.panel.mountCounter) (by exact hM)]
    rfl

end Sys2Proof.Machine
end

section
/-! PROOF. The index pulse in a turning state beside no run (R41 to R45): the loop step, the lock test and their notices,
with no calibration run or with one that is MEASURING, which neither reaches. -/

namespace Sys2Proof.Machine

section
variable {s : State} {d : Drum} {P x : Nat}

/-! ## The drum and the link after a measured revolution -/

/-- The drum after the loop step. -/
def State.loopDrum (P : Nat) (s : State) : Drum := s.drum.loopStep s.motor s.settings P s.now

/-- The drum after the loop step and the lock test. -/
def State.turnedDrum (P : Nat) (s : State) : Drum :=
  (s.loopDrum P).lockTest (withinWindow s.settings P s.drum.target)

/-- The link after the loop step: a rise of CLIP sends its DRUM_EVENT (R43, R56). -/
def State.clipLink (P : Nat) (s : State) : Link :=
  if (s.loopDrum P).clip = true ∧ s.drum.clip = false then
    s.link.place s.now (.drum .clip s.drum.state s.drum.target (s.loopDrum P).drive (s.drum.period.getD 0) true)
  else s.link

/-- The link after the lock test: a change of state sends its DRUM_EVENT after that of CLIP (R41, R56). -/
def State.turnedLink (P : Nat) (s : State) : Link :=
  if (s.turnedDrum P).state ≠ s.drum.state then
    (s.clipLink P).place s.now
      (.drum .state (s.turnedDrum P).state s.drum.target (s.loopDrum P).drive (s.drum.period.getD 0) (s.loopDrum P).clip)
  else s.clipLink P

theorem looped_clipLink : s.looped P = { s with drum := s.loopDrum P, link := s.clipLink P } := by
  have hclip : (s.onDrum (Drum.loopStep s.motor s.settings P s.now)).drum.clip = (s.loopDrum P).clip := rfl
  unfold State.looped State.clipLink
  dsimp only
  rw [hclip]
  have hiff : (!s.drum.clip && (s.loopDrum P).clip) = true ↔ (s.loopDrum P).clip = true ∧ s.drum.clip = false := by
    simp [and_comm]
  by_cases h : (s.loopDrum P).clip = true ∧ s.drum.clip = false
  · rw [if_pos (hiff.2 h), if_pos h, ← h.1]
    rfl
  · rw [if_neg (mt hiff.1 h), if_neg h]
    rfl

/-- What the lock test leaves of the drum. -/
theorem Drum.lockTest_keeps (d : Drum) (w : Bool) : (d.lockTest w).target = d.target ∧ (d.lockTest w).drive = d.drive ∧
    (d.lockTest w).period = d.period ∧ (d.lockTest w).clip = d.clip := by
  unfold Drum.lockTest
  (repeat' split) <;> exact ⟨rfl, rfl, rfl, rfl⟩

/-- A change of state that is none to SPINNING_DOWN says nothing to a run that is MEASURING (R72). -/
theorem drumChanged_measuring (hr : s.run = none) (hc : ∀ c, s.cal = some c → c.phase = .measuring)
    (hs : s.drum.state ≠ .spinningDown) : drumChanged s = drumEvent .state s := by
  rw [drumChanged_noRun hr]
  cases hcal : s.cal with
  | none => exact drumReportToCal_none hcal
  | some c =>
    have hph : c.phase = .measuring := hc c hcal
    simp [drumReportToCal, hcal, hs, calExamine, hph]

section
variable (hr : s.run = none) (hc : ∀ c, s.cal = some c → c.phase = .measuring) (ht : s.drum.state.isTurning = true)
include hr hc ht

theorem regulate_turned (P : Nat) : regulate P s = { s with drum := s.turnedDrum P, link := s.turnedLink P } := by
  have hturn : (s.turnedDrum P).state.isTurning = true := Drum.lockTest_turning (d := s.loopDrum P) ht
  have hdown : (s.turnedDrum P).state ≠ .spinningDown := fun e => by simp [e, DrumState.isTurning] at hturn
  obtain ⟨htarget, hdrive, hperiod, hclip⟩ :=
    (s.loopDrum P).lockTest_keeps (withinWindow s.settings P s.drum.target)
  have hloop : regulate P s = (if (s.turnedDrum P).state = s.drum.state then
      ({ s with drum := s.turnedDrum P, link := s.clipLink P } : State)
      else drumChanged { s with drum := s.turnedDrum P, link := s.clipLink P }) := by
    have : regulate P s = (if ((s.looped P).onDrum (Drum.lockTest (withinWindow s.settings P s.drum.target))).drum.state =
        (s.looped P).drum.state then (s.looped P).onDrum (Drum.lockTest (withinWindow s.settings P s.drum.target))
      else drumChanged ((s.looped P).onDrum (Drum.lockTest (withinWindow s.settings P s.drum.target)))) := rfl
    rw [this, looped_clipLink]
    rfl
  rw [hloop]
  unfold State.turnedLink
  by_cases h : (s.turnedDrum P).state = s.drum.state
  · rw [if_pos h, if_neg (not_not.2 h)]
  · rw [if_neg h, if_pos h, drumChanged_measuring (by exact hr) (by exact hc) (by exact hdown)]
    unfold drumEvent placeNotice State.onLink
    dsimp only
    rw [show (s.turnedDrum P).target = s.drum.target from htarget,
      show (s.turnedDrum P).drive = (s.loopDrum P).drive from hdrive,
      show (s.turnedDrum P).period = s.drum.period from hperiod, show (s.turnedDrum P).clip = (s.loopDrum P).clip from hclip]

/-! ## The pulse -/

/-- Beside no run: the drum and the link after a pulse with the period, or without one. -/
theorem regulated_turned : ∃ d l, s.regulated = { s with drum := d, link := l, encoder := ⟨0, true⟩ } ∧
    d.state.isTurning = true ∧ d.period = s.measured.drum.period ∧
    ∀ cal : Option CalRun, (∀ c, cal = some c → c.phase = .measuring) →
      ({ s with cal := cal } : State).regulated = { s with cal := cal, drum := d, link := l, encoder := ⟨0, true⟩ } := by
  cases hp : s.measured.drum.period with
  | none =>
    have hreg : ∀ t : State, t.measured.drum.period = none → t.regulated = t.measured := fun t h => by
      simp [State.regulated, h]
    exact ⟨s.measured.drum, s.link, hreg s hp, ht, hp, fun cal _ => hreg { s with cal := cal } hp⟩
  | some P =>
    have hreg : ∀ t : State, t.measured.drum.period = some P → t.regulated = regulate P t.measured := fun t h => by
      simp [State.regulated, h]
    obtain ⟨-, -, hkeep, -⟩ := (s.measured.loopDrum P).lockTest_keeps
      (withinWindow s.measured.settings P s.measured.drum.target)
    refine ⟨s.measured.turnedDrum P, s.measured.turnedLink P,
      (hreg s hp).trans (regulate_turned (s := s.measured) hr hc ht P),
      Drum.lockTest_turning (d := s.measured.loopDrum P) ht, hkeep.trans hp, fun cal hcal => ?_⟩
    let m : State := { s with cal := cal }
    exact (hreg m hp).trans (regulate_turned (s := m.measured) hr hcal ht P)

end

/-- Beside no run and no scan, a revolution report reaches a MEASURING run alone. -/
theorem indexPulse_turning (ht : s.drum.state.isTurning = true) (hr : s.regulated.run = none)
    (hs : s.regulated.scan = none) : indexPulse x s =
    if (s.cal.map fun c => c.phase == .measuring).getD false then
      revolutionToCal (s.measured.drum.period.isSome && s.regulated.drum.state == .locked) x s.regulated
    else s.regulated := by
  have hrep : ∀ b, revolutionReport b x s.regulated = s.regulated := fun b => by
    rw [revolutionReport_noScan hs]
    simp [revolutionToRun, hr]
  have hpulse : indexPulse x s = if (s.cal.map fun c => c.phase == .measuring).getD false then
      revolutionToCal (s.measured.drum.period.isSome && s.regulated.drum.state == .locked) x
        (revolutionReport (s.measured.drum.period.isSome && s.regulated.drum.state == .locked) x s.regulated)
      else revolutionReport (s.measured.drum.period.isSome && s.regulated.drum.state == .locked) x s.regulated := by
    unfold indexPulse
    rcases DrumState.isTurning_iff.1 ht with h | h | h <;> simp only [h] <;> rfl
  rw [hpulse, hrep]

end

end Sys2Proof.Machine
end

section
/-! PROOF. A measured revolution in the words of R41 to R45. -/

namespace Sys2Proof.Machine

section
variable {s : State} {d : Drum} {P : Nat}

/-- The loop step of a drum with a D_ff, whose stall timer runs with its drive: the timer then runs exactly when the new
drive is above 0 (R43, R47). -/
theorem Drum.loopStep_running {mt : MotorPart} {st : Settings} {now dff : Nat} (hd : d.dff = some dff)
    (hs : 0 < d.drive → d.stallTimer = some (now + sec 3)) : d.loopStep mt st P now =
    { d with
      integral := integralAfter mt (loopError P (targetPeriod st d)) d.integral
      clip := decide (unclampedDrive mt dff (loopError P (targetPeriod st d))
            (integralAfter mt (loopError P (targetPeriod st d)) d.integral) < 0 ∨
          4095 < unclampedDrive mt dff (loopError P (targetPeriod st d))
            (integralAfter mt (loopError P (targetPeriod st d)) d.integral))
      drive := (clamp 0 4095 (unclampedDrive mt dff (loopError P (targetPeriod st d))
        (integralAfter mt (loopError P (targetPeriod st d)) d.integral))).toNat
      stallTimer :=
        if (clamp 0 4095 (unclampedDrive mt dff (loopError P (targetPeriod st d))
          (integralAfter mt (loopError P (targetPeriod st d)) d.integral))).toNat = 0 then none
        else some (now + sec 3) } := by
  have hstall : (if d.drive = 0 then some (now + sec 3) else d.stallTimer) = some (now + sec 3) := by
    split
    · rfl
    · exact hs (by omega)
  simp only [Drum.loopStep, hd, Option.getD_some, hstall, Bool.decide_or]

/-- The drum after the lock test by its state and the window (R45). -/
theorem State.turnedDrum_eq (ht : s.drum.state.isTurning = true) : s.turnedDrum P =
    if s.drum.state = .locked then
      if lockError P (lineTime s.drum.target) ≤ s.settings.lockWindow then { s.loopDrum P with outCount := 0 }
      else if s.drum.outCount = 1 then { s.loopDrum P with state := .drift, inCount := 0, outCount := 0 }
      else { s.loopDrum P with outCount := s.drum.outCount + 1 }
    else if lockError P (lineTime s.drum.target) ≤ s.settings.lockWindow then
      if s.drum.inCount = 3 then
        { s.loopDrum P with state := .locked, inCount := 0, outCount := 0, spinUpTimer := none, noLock := false }
      else { s.loopDrum P with inCount := s.drum.inCount + 1 }
    else { s.loopDrum P with inCount := 0 } := by
  unfold State.turnedDrum withinWindow
  by_cases h : s.drum.state = .locked
  · rw [Drum.lockTest_locked (d := s.loopDrum P) h, if_pos h]
    simp only [decide_eq_true_eq]
    rfl
  · have hr : s.drum.state = .spinningUp ∨ s.drum.state = .drift := by
      rcases DrumState.isTurning_iff.1 ht with e | e | e <;> simp_all
    rw [Drum.lockTest_reaching (d := s.loopDrum P) hr, if_neg h]
    simp only [decide_eq_true_eq]
    rfl

/-- The period of a first revolution, or of one of 3 s or more, is absent (R41). -/
theorem measured_noPeriod (h : s.drum.lastIndex = none ∨ ∃ t, s.drum.lastIndex = some t ∧ t + 3000000 ≤ s.now) :
    s.measured.drum.period = none := by
  cases hp : s.measured.drum.period with
  | none => rfl
  | some P =>
    obtain ⟨t, ht, hlt, -⟩ := measure_period hp
    obtain h | ⟨a, ha, hle⟩ := h
    · simp [h] at ht
    · obtain rfl : a = t := Option.some.inj (ha.symm.trans ht)
      exact absurd hlt (Nat.not_lt.2 hle)

theorem measured_period {t : Nat} (h : s.drum.lastIndex = some t) (hlt : s.now < t + 3000000) :
    s.measured.drum.period = some (s.now - t) := by
  have he : s.measured.drum.period = if s.now < t + sec 3 then some (s.now - t) else none := by
    simp [State.measured, Drum.measure, h]
  exact he.trans (if_pos hlt)

end

end Sys2Proof.Machine
end

section
/-! PROOF. A revolution of a MEASURING run (R72, R76, R77, R80): what begins, what ends, and what the end of a
run gives back. -/

namespace Sys2Proof.Machine

/-- A DARK, WHITE or STEPS run ends, done or failed: its CAL_DONE, what it held given back, and spin hold (R53, R71, R73). -/
def State.calEnded (k : CalKind) (o : CalOutcome) (f : Option CalFailure) (n : Nat) (g : CalFigures) (s : State) : State :=
  { s with
    cal := none
    link := s.link.place s.now (.cal k o f n g)
    drum := { s.drum with spinHoldTimer := some (s.now + s.settings.spinHold * 1000000) }
    lamp :=
      if k = .dark then { s.lamp with darkHold := false }
      else { s.lamp with calReq := false, idleTimer := some (s.now + s.settings.lampIdle * 1000000) }
    carriage :=
      if k ≠ .steps then s.carriage
      else if s.carriage.state = .advancing then
        { s.carriage with
          state := .returning, stepsTaken := 0, target := none, stepAt := some s.now, waitingMove := none }
      else { s.carriage with waitingMove := none } }

/-- A run that is MEASURING and holds the lamp alone, beside no order's run: what it gives back is its own. -/
structure State.Measuring (c : CalRun) (s : State) : Prop where
  cal : s.cal = some c
  kind : c.kind ≠ .motor
  phase : c.phase = .measuring
  run : s.run = none
  prewarm : s.lamp.prewarm = false
  runReq : s.lamp.runReq = false
  dark : c.kind = .dark → s.lamp.calReq = false
  lit : c.kind ≠ .dark → s.lamp.calReq = true ∧ s.lamp.state ≠ .off
  away : s.carriage.state = .advancing → s.carriage.homeClosed = false

section
variable {s : State} {c : CalRun} {x : Nat} {locked : Bool}

/-! ## What a run gives back -/

theorem clearDarkHold_unwanted (hr : s.run = none) (hw : s.lamp.wanted = false) :
    clearDarkHold s = s.onLamp fun l => { l with darkHold := false } := by
  refine (reportLamp_none (s := s.onLamp _) hr).trans ?_
  simp [State.onLamp, hw]

/-- The last request withdrawn from a lit lamp starts the lamp-idle timer (R86). -/
theorem lampWithdraw_last (hq : s.lamp.calReq = true) (hp : s.lamp.prewarm = false) (hr : s.lamp.runReq = false)
    (hl : s.lamp.state ≠ .off) : lampWithdraw .calibration s =
    s.onLamp fun l => { l with calReq := false, idleTimer := some (s.now + sec s.settings.lampIdle) } := by
  simp [lampWithdraw, Lamp.standing, hq, State.onLamp, Lamp.setRequest, Lamp.lit, Lamp.wanted, hp, hr, hl]

theorem returnCarriage_away (hr : s.run = none) (h : s.carriage.state = .advancing → s.carriage.homeClosed = false) :
    returnCarriage s = s.onCarriage fun c => if c.state = .advancing then
      { c with state := .returning, stepsTaken := 0, target := none, stepAt := some s.now } else c := by
  unfold returnCarriage
  by_cases ha : s.carriage.state = .advancing
  · rw [if_pos ha]
    refine (onRun_none (s := s.onCarriage _) hr _).trans ?_
    simp [State.onCarriage, Carriage.seekHome, h ha, ha]
  · rw [if_neg ha]
    simp [State.onCarriage, ha]

theorem calEnd_spinHold (hc : s.cal = some c) (hk : c.kind ≠ .motor) {o : CalOutcome} (ho : o = .done ∨ o = .failed)
    (f : Option CalFailure) (n : Nat) (g : CalFigures) : calEnd o f n g s =
    startSpinHold (calGiveBack c.kind (placeNotice (.cal c.kind o f n g) { s with cal := none })) := by
  have hb : (c.kind != .motor && (o == .done || o == .failed)) = true := by
    rcases ho with rfl | rfl <;> simp [hk]
  unfold calEnd
  rw [hc]
  exact if_pos hb

/-- A measuring run's end, done or failed. -/
theorem State.Measuring.calEnd (h : s.Measuring c) {k : CalKind} (hkind : c.kind = k) {o : CalOutcome}
    (ho : o = .done ∨ o = .failed) (f : Option CalFailure) (n : Nat) (g : CalFigures) :
    calEnd o f n g s = s.calEnded k o f n g := by
  subst hkind
  rw [calEnd_spinHold h.cal h.kind ho]
  unfold State.calEnded
  cases hk : c.kind with
  | motor => exact absurd hk h.kind
  | dark =>
    have hw : s.lamp.wanted = false := by simp [Lamp.wanted, h.prewarm, h.runReq, h.dark hk]
    simp only [calGiveBack]
    rw [clearDarkHold_unwanted (by exact h.run) (by exact hw)]
    rfl
  | white =>
    obtain ⟨hq, hl⟩ := h.lit (by simp [hk])
    simp only [calGiveBack]
    rw [lampWithdraw_last (by exact hq) (by exact h.prewarm) (by exact h.runReq) (by exact hl)]
    rfl
  | steps =>
    obtain ⟨hq, hl⟩ := h.lit (by simp [hk])
    simp only [calGiveBack]
    rw [lampWithdraw_last (by exact hq) (by exact h.prewarm) (by exact h.runReq) (by exact hl),
      returnCarriage_away (by exact h.run) (by exact h.away)]
    by_cases ha : s.carriage.state = .advancing <;>
      simp [ha, startSpinHold, State.onCarriage, State.onLamp, State.onDrum, placeNotice, State.onLink, sec]

/-! ## The revolution that ends and the one that begins -/

/-- The run after a revolution: a used one joins the sums (R72). -/
theorem CalRun.countRevolution_used (h : c.uses locked = true) : c.countRevolution locked =
    { c with passed := c.passed + 1, used := c.used + 1, sums := List.zipWith (· + ·) c.sums c.revolutionSums } := if_pos h

theorem CalRun.countRevolution_unused (h : ¬c.uses locked = true) :
    c.countRevolution locked = { c with passed := c.passed + 1 } := if_neg h

/-- A run of the same kind and phase in the place of the run. -/
theorem State.Measuring.withCal (h : s.Measuring c) {b : CalRun} (hk : b.kind = c.kind) (hp : b.phase = c.phase) :
    State.Measuring b { s with cal := some b } :=
  { h with
    cal := rfl
    kind := hk ▸ h.kind
    phase := hp.trans h.phase
    dark := fun e => h.dark (hk ▸ e)
    lit := fun e => h.lit (hk ▸ e) }

/-- The first revolution begins (R72). -/
theorem revolutionToCal_first (h : s.Measuring c) (hb : c.revBegun = false) : revolutionToCal locked x s =
    { s with
      cal := some
        { c with
          revBegun := true, samples := [x], eligible := s.drum.state == .locked || s.drum.state == .drift } } := by
  simp [revolutionToCal, h.cal, h.kind, h.phase, hb, calRevolutionBegin, State.onCal]

theorem revolutionToCal_next (h : s.Measuring c) (hb : c.revBegun = true) :
    revolutionToCal locked x s = calRevolutionBegin x (calRevolutionEnd locked s) := by
  simp [revolutionToCal, h.cal, h.kind, h.phase, hb]

theorem calRevolutionBegin_none (h : s.cal = none) : calRevolutionBegin x s = s := by
  cases s
  simp_all [calRevolutionBegin, State.onCal]

/-- The run goes on with the next revolution. -/
theorem revolutionToCal_goes (h : s.Measuring c) (hb : c.revBegun = true) {b : CalRun}
    (hc : c.countRevolution locked = b) (hu : b.used < c.kind.needed) (hp : b.passed < c.kind.needed + 16) :
    revolutionToCal locked x s =
      { s with
        cal := some
          { b with
            revBegun := true, samples := [x], eligible := s.drum.state == .locked || s.drum.state == .drift } } := by
  subst hc
  have hk := (CalRun.countRevolution_kind locked c).1
  rw [revolutionToCal_next h hb]
  simp [calRevolutionEnd, h.cal, hk, hu.not_ge, hp.not_ge, calRevolutionBegin, State.onCal]

/-- With n + 16 revolutions passed the run fails NO_LOCK (R72). -/
theorem revolutionToCal_noLock (h : s.Measuring c) (hb : c.revBegun = true) {b : CalRun}
    (hc : c.countRevolution locked = b) (hu : b.used < c.kind.needed) (hp : c.kind.needed + 16 ≤ b.passed) :
    revolutionToCal locked x s = s.calEnded c.kind .failed (some .noLock) 0 b.figures := by
  subst hc
  obtain ⟨hk, hph⟩ := CalRun.countRevolution_kind locked c
  have hend : calRevolutionEnd locked s = s.calEnded c.kind .failed (some .noLock) 0 (c.countRevolution locked).figures := by
    have hfail : calRevolutionEnd locked s = calEnd .failed (some .noLock) 0 (c.countRevolution locked).figures
        { s with cal := some (c.countRevolution locked) } := by
      simp [calRevolutionEnd, h.cal, hk, hu.not_ge, hp, calFail]
    exact hfail.trans ((h.withCal hk hph).calEnd hk (.inr rfl) _ _ _)
  rw [revolutionToCal_next h hb, hend]
  exact calRevolutionBegin_none rfl

/-- With n revolutions used the run comes to its outcome, and no revolution begins (R72). -/
theorem revolutionToCal_done (h : s.Measuring c) (hb : c.revBegun = true) {b : CalRun}
    (hc : c.countRevolution locked = b) (hu : c.kind.needed ≤ b.used) {t : State}
    (ht : calOutcome b { s with cal := some b } = t) (hn : t.cal = none) : revolutionToCal locked x s = t := by
  subst hc
  have hk := (CalRun.countRevolution_kind locked c).1
  have hend : calRevolutionEnd locked s = t := by
    simpa [calRevolutionEnd, h.cal, hk, hu] using ht
  rw [revolutionToCal_next h hb, hend]
  exact calRevolutionBegin_none hn

/-! ## The outcomes -/

theorem State.Measuring.withScanPart (h : s.Measuring c) (p : ScanPart) : State.Measuring c { s with scanPart := p } :=
  { h with }

theorem State.Measuring.withCurve (h : s.Measuring c) (l : List Nat) : State.Measuring c { s with curve := l } :=
  { h with }

section
variable (h : s.Measuring c)
include h

theorem calOutcome_darkHigh (hk : c.kind = .dark) {avg : Nat} (ha : halfUp (c.sums.getD 0 0) 1024 = avg)
    (hh : 1023 < avg) : calOutcome c s = s.calEnded c.kind .failed (some .darkHigh) avg (.dark avg) := by
  subst ha
  simp only [calOutcome, hk, darkOutcome]
  rw [if_pos hh]
  exact h.calEnd hk (.inr rfl) _ _ _

theorem calOutcome_darkDone (hk : c.kind = .dark) {avg : Nat} (ha : halfUp (c.sums.getD 0 0) 1024 = avg)
    (hh : avg ≤ 1023) : calOutcome c s =
    { s.calEnded c.kind .done none 0 (.dark avg) with
      scanPart := { s.scanPart with offset := avg, darkMark := true, whiteMark := false, valid := false } } := by
  subst ha
  simp only [calOutcome, hk, darkOutcome]
  rw [if_neg (Nat.not_lt.2 hh)]
  exact (h.withScanPart _).calEnd hk (.inl rfl) _ _ _

theorem calOutcome_whiteLow (hk : c.kind = .white) {w : Nat} (hw : halfUp (c.sums.getD 0 0) 512 = w)
    (hl : w < s.scanPart.offset + 512) : calOutcome c s = s.calEnded c.kind .failed (some .whiteLow) w (.white w 0) := by
  subst hw
  simp only [calOutcome, hk, whiteOutcome]
  rw [if_pos hl]
  exact h.calEnd hk (.inr rfl) _ _ _

theorem calOutcome_whiteDone (hk : c.kind = .white) {w : Nat} (hw : halfUp (c.sums.getD 0 0) 512 = w)
    (hl : s.scanPart.offset + 512 ≤ w) : calOutcome c s =
    { s.calEnded c.kind .done none 0 (.white w (gainFor (w - s.scanPart.offset))) with
      scanPart :=
        { s.scanPart with
          wRaw := w, gain := gainFor (w - s.scanPart.offset), whiteMark := true
          valid := s.scanPart.valid || s.scanPart.darkMark } } := by
  subst hw
  simp only [calOutcome, hk, whiteOutcome]
  rw [if_neg (Nat.not_lt.2 hl)]
  exact (h.withScanPart _).calEnd hk (.inl rfl) _ _ _

theorem calOutcome_notMonotonic (hk : c.kind = .steps) {i : Nat} {m : List Nat}
    (hm : List.zipWith stepAverage c.sums c.steps = m) (hi : firstNotRising 2 m = some i) :
    calOutcome c s = s.calEnded c.kind .failed (some .notMonotonic) i (.steps c.steps.length m) := by
  subst hm
  simp only [calOutcome, hk, stepsOutcome]
  rw [hi]
  exact h.calEnd hk (.inr rfl) _ _ _

theorem calOutcome_stepsDone (hk : c.kind = .steps) {m : List Nat}
    (hm : List.zipWith stepAverage c.sums c.steps = m) (hi : firstNotRising 2 m = none) :
    calOutcome c s =
      { s.calEnded c.kind .done none 0 (.steps c.steps.length m) with
        curve := tabletCurve (m.zip (c.steps.map TabletStep.target)) } := by
  subst hm
  simp only [calOutcome, hk, stepsOutcome]
  rw [hi]
  exact (h.withCurve _).calEnd hk (.inl rfl) _ _ _

end

end

end Sys2Proof.Machine
end

section
/-! PROOF. The measured steps of a tablet (R81): the first that does not rise, and the knots of the curve. -/

namespace Sys2Proof.Machine

/-- Each measured step lies at least 16 above the one before (R81). -/
def Rising (m : List Nat) : Prop := ∀ j x y, m[j]? = some x → m[j + 1]? = some y → x + 16 ≤ y

section
variable {m v : List Nat} {z : Nat}

theorem Rising.tail {a : Nat} (h : Rising (a :: m)) : Rising m := fun j x y hx hy => h (j + 1) x y hx hy

theorem firstNotRising_none (h : Rising m) (k : Nat) : firstNotRising k m = none := by
  fun_induction firstNotRising k m with
  | case1 k a b rest hlt => exact absurd (h 0 a b rfl rfl) (by omega)
  | case2 k a b rest hlt ih => exact ih h.tail
  | case3 => rfl

/-- The step after index `i` is the first that does not rise. -/
theorem firstNotRising_some {i x y : Nat} (hx : m[i]? = some x) (hy : m[i + 1]? = some y) (hlt : y < x + 16)
    (hbefore : ∀ j x y, j < i → m[j]? = some x → m[j + 1]? = some y → x + 16 ≤ y) (k : Nat) :
    firstNotRising k m = some (k + i) := by
  induction i generalizing m k with
  | zero =>
    match m, hx, hy with
    | a :: b :: rest, hx, hy =>
      cases hx
      cases hy
      simp [firstNotRising, hlt]
  | succ i ih =>
    match m, hx, hy with
    | a :: b :: rest, hx, hy =>
      have hab : ¬b < a + 16 := Nat.not_lt.2 (hbefore 0 a b (by omega) rfl rfl)
      have hrest := ih (m := b :: rest) hx hy (fun j x y hj hx hy => hbefore (j + 1) x y (by omega) hx hy) (k + 1)
      simp only [firstNotRising, hab, if_false, hrest]
      congr 1
      omega

/-- A rising list is ordered. -/
theorem Rising.mono (h : Rising m) {i x y : Nat} (d : Nat) (hx : m[i]? = some x) (hy : m[i + d]? = some y) : x ≤ y := by
  induction d generalizing y with
  | zero => exact (Option.some.inj (hx.symm.trans hy)).le
  | succ d ih =>
    obtain ⟨hlt, -⟩ := List.getElem?_eq_some_iff.1 hy
    have hd : m[i + d]? = some m[i + d] := List.getElem?_eq_getElem (by omega)
    have := ih hd
    have := h (i + d) _ y hd hy
    omega

theorem Rising.head_le (h : Rising m) {i a x : Nat} (ha : m.head? = some a) (hx : m[i]? = some x) : a ≤ x :=
  h.mono (i := 0) i (List.head?_eq_getElem? ▸ ha) (by simpa using hx)

theorem Rising.le_last (h : Rising m) {i a x : Nat} (ha : m.getLast? = some a) (hx : m[i]? = some x) : x ≤ a := by
  obtain ⟨hlt, -⟩ := List.getElem?_eq_some_iff.1 hx
  rw [List.getLast?_eq_getElem?] at ha
  exact h.mono (m.length - 1 - i) hx (by rwa [show i + (m.length - 1 - i) = m.length - 1 by omega])

/-! ## The knots -/

/-- The segment that begins at index `i` gives the value, when `z` lies in it and beyond every one before (R81). -/
theorem tabletSegment_at {q : List (Nat × Nat)} {i x y a b : Nat} (hx : q[i]? = some (x, a)) (hy : q[i + 1]? = some (y, b))
    (hlow : x ≤ z) (hhigh : z ≤ y) (hbefore : ∀ j p, j < i → q[j + 1]? = some p → p.1 < z) :
    tabletSegment z q =
      (clamp 0 4095 ((a : Int) + halfAway (((b : Int) - a) * (z - x : Nat)) (y - x))).toNat := by
  induction i generalizing q with
  | zero =>
    match q, hx, hy with
    | _ :: _ :: rest, hx, hy =>
      cases hx
      cases hy
      rw [tabletSegment, if_pos ⟨hlow, hhigh⟩]
      rfl
  | succ i ih =>
    match q, hx, hy with
    | (m1, v1) :: (m2, v2) :: rest, hx, hy =>
      have hm : m2 < z := hbefore 0 (m2, v2) (by omega) rfl
      rw [tabletSegment, if_neg (by omega)]
      exact ih hx hy fun j p hj hp => hbefore (j + 1) p (by omega) hp

section
variable {m1 mc a b : Nat} (hm1 : m.head? = some m1) (hmc : m.getLast? = some mc) (ha : v.head? = some a)
  (hb : v.getLast? = some b) (hlen : m.length = v.length)
include hm1 hmc ha hb hlen

theorem zip_ends : (m.zip v).head? = some (m1, a) ∧ (m.zip v).getLast? = some (mc, b) := by
  constructor
  · rw [List.head?_eq_getElem?] at *
    exact List.getElem?_zip_eq_some.2 ⟨hm1, ha⟩
  · rw [List.getLast?_eq_getElem?] at *
    have hl : (m.zip v).length = m.length := by simp [hlen]
    rw [hl]
    exact List.getElem?_zip_eq_some.2 ⟨hmc, by rwa [hlen]⟩

theorem tabletKnot_zip : tabletKnot (m.zip v) z =
    if z < m1 then a else if mc < z then b else tabletSegment z (m.zip v) := by
  obtain ⟨hh, hl⟩ := zip_ends hm1 hmc ha hb hlen
  simp [tabletKnot, hh, hl]

end

theorem tabletCurve_getElem {q : List (Nat × Nat)} {k : Nat} (hk : k < 17) :
    (tabletCurve q)[k]? = some (tabletKnot q (256 * k)) := by
  simp [tabletCurve, hk]

/-- The new curve by its 17 knots, from a tablet whose measured steps rise (R81). -/
theorem tabletCurve_knots {steps : List TabletStep} (h : Rising m) (hlen : m.length = steps.length) {k : Nat} (hk : k < 17)
    {m1 mc : Nat} {a b : TabletStep} (hm1 : m.head? = some m1) (hmc : m.getLast? = some mc) (ha : steps.head? = some a)
    (hb : steps.getLast? = some b) :
    (256 * k < m1 → (tabletCurve (m.zip (steps.map TabletStep.target)))[k]? = some a.target)
      ∧ (mc < 256 * k → (tabletCurve (m.zip (steps.map TabletStep.target)))[k]? = some b.target)
      ∧ (∀ i x y p q, m[i]? = some x → m[i + 1]? = some y → x ≤ 256 * k → 256 * k ≤ y →
        (∀ j z, j < i → m[j + 1]? = some z → z < 256 * k) → steps[i]? = some p → steps[i + 1]? = some q →
        (tabletCurve (m.zip (steps.map TabletStep.target)))[k]? = some
          (clamp 0 4095 ((p.target : Int) +
            halfAway (((q.target : Int) - p.target) * (256 * k - x : Nat)) (y - x))).toNat) := by
  have hknot := tabletKnot_zip (z := 256 * k) hm1 hmc (v := steps.map TabletStep.target) (a := a.target) (b := b.target)
    (by simp [ha]) (by simp [hb]) (by simpa using hlen)
  have hends : m1 ≤ mc := by
    rw [List.getLast?_eq_getElem?] at hmc
    exact h.head_le hm1 hmc
  rw [tabletCurve_getElem hk, hknot]
  refine ⟨fun hlow => by rw [if_pos hlow], fun hhigh => by rw [if_neg (by omega), if_pos hhigh], ?_⟩
  intro i x y p q hx hy hlow hhigh hbefore hp hq
  have hfirst := h.head_le hm1 hx
  have hlast := h.le_last hmc hy
  have hseg := tabletSegment_at (q := m.zip (steps.map TabletStep.target)) (a := p.target) (b := q.target)
    (List.getElem?_zip_eq_some.2 ⟨hx, by simp [hp]⟩) (List.getElem?_zip_eq_some.2 ⟨hy, by simp [hq]⟩) hlow hhigh
    fun j z hj hz => hbefore j z.1 hj (List.getElem?_zip_eq_some.1 hz).1
  rw [if_neg (by omega), if_neg (by omega), hseg]

end

end Sys2Proof.Machine
end

section
/-! PROOF. The index pulse in a turning state beside no run (R41 to R45, R72 to R81): with no calibration run, and with one
that is MEASURING. -/

namespace Sys2Proof.Machine

section
variable {s t : State} {c : CalRun} {dt : Nat} {r : Sample} {locked : Bool}

/-- Beside no run and no calibration run the pulse is the drum's alone. -/
theorem exec_indexPulse_idle (hc : s.cal = none) (ht : s.drum.state.isTurning = true)
    (hreg : (advance dt s).regulated = t) (hr : t.run = none) (hs : t.scan = none) :
    exec (.indexPulse dt r) s = .next t := by
  subst hreg
  refine exec_indexPulse_eq ((indexPulse_turning (s := advance dt s) ht hr hs).trans ?_)
    (selectAfterCal_noCal (by exact hc))
  rw [show (advance dt s).cal = none from hc]
  rfl

/-- Beside no run a MEASURING run takes the pulse after the drum, and with no order QUEUED none is selected. -/
theorem exec_indexPulse_measuring {d : Drum} {l : Link} {u : State} (hc : s.cal = some c) (hph : c.phase = .measuring)
    (ht : s.drum.state.isTurning = true) (hr : s.run = none) (hs : s.scan = none)
    (hreg : (advance dt s).regulated = { advance dt s with drum := d, link := l, encoder := ⟨0, true⟩ })
    (hper : d.period = (advance dt s).measured.drum.period) (hq : ∀ o ∈ u.manager.table, o.state ≠ .queued)
    (hu : revolutionToCal (d.period.isSome && d.state == .locked) r.toNat
      { advance dt s with drum := d, link := l, encoder := ⟨0, true⟩ } = u) :
    exec (.indexPulse dt r) s = .next u := by
  refine exec_indexPulse_eq (Eq.trans ?_ hu) (selectAfterCal_noneQueued hq)
  rw [indexPulse_turning (s := advance dt s) ht (by rw [hreg]; exact hr) (by rw [hreg]; exact hs), hreg, ← hper,
    show (advance dt s).cal = some c from hc]
  simp [hph]

/-! ## A run's figures in the words of R72, R76, R77 and R80 -/

theorem needed_eq (hk : c.kind ≠ .motor) :
    c.kind.needed = match c.kind with | .dark => 1 | .white => 16 | _ => 8 := by
  cases h : c.kind
  · exact absurd h hk
  all_goals rfl

theorem revolutionSums_eq (hk : c.kind ≠ .motor) : c.revolutionSums =
    match c.kind with
    | .dark => [(fillSamples 1024 c.samples).sum]
    | .white => [((fillSamples 1024 c.samples).take 32).sum]
    | _ => c.steps.map fun st =>
      ((((fillSamples 1024 c.samples).drop st.first).take (st.last + 1 - st.first)).map fun x =>
        min (((x - c.offset) * c.gain + 2048) / 4096) 4095).sum := by
  unfold CalRun.revolutionSums
  cases h : c.kind
  · exact absurd h hk
  all_goals rfl

theorem figures_eq (hk : c.kind ≠ .motor) : c.figures =
    match c.kind with
    | .dark => .dark 0
    | .white => .white 0 0
    | _ => .steps c.steps.length (c.steps.map fun _ => 0) := by
  unfold CalRun.figures
  cases h : c.kind
  · exact absurd h hk
  all_goals rfl

/-- A revolution is used (R72). -/
theorem uses_iff {d : Drum} : c.uses (d.period.isSome && d.state == .locked) = true ↔
    if c.kind = .dark then c.eligible = true else d.period.isSome = true ∧ d.state = .locked := by
  unfold CalRun.uses
  cases h : c.kind <;> simp

end

/-- Settles O41: with no calibration run the pulse is the regulated drum's alone (`regulate_turned`,
`State.turnedDrum_eq`); with a MEASURING one, the revolution's beginning, count or failure (`revolutionToCal_first`,
`_goes`, `_noLock`), or the outcome of its last one (`revolutionToCal_done`), follows on that drum. -/
theorem indexPulsesRegulateTheDrum : Obligations.IndexPulsesRegulateTheDrum := by
  intro dt r s dff ht hdff hr hscan now measured
  have hturn : s.drum.state.isTurning = true := DrumState.isTurning_iff.2 ht
  refine ⟨fun hc hl => ?_, fun hc last hl hlt => ?_, ?_⟩
  · have hp : (advance dt s).measured.drum.period = none := measured_noPeriod hl
    have hreg : (advance dt s).regulated = (advance dt s).measured := by simp [State.regulated, hp]
    have hm : (advance dt s).measured = { s with
        now := now
        drum := { measured with period := (advance dt s).measured.drum.period }
        encoder := ⟨0, true⟩ } := rfl
    refine exec_indexPulse_idle hc hturn (hreg.trans ?_) hr hscan
    rw [hm, hp]
  · intro P T amount aim e I u D clip within looped drum clipped link
    let m := (advance dt s).measured
    have hp : m.drum.period = some P := measured_period (s := advance dt s) hl hlt
    have hL : m.loopDrum P = looped := by
      have hstall : 0 < m.drum.drive → m.drum.stallTimer = some (now + sec 3) := fun h => if_pos h
      unfold State.loopDrum
      rw [Drum.loopStep_running (d := m.drum) (by exact hdff) (by exact hstall), hp]
      rfl
    have hD : m.turnedDrum P = drum := by
      rw [State.turnedDrum_eq (s := m) hturn, hL]
      rfl
    have hK : m.turnedLink P = link := by
      unfold State.turnedLink State.clipLink
      rw [hD, hL, hp]
      rfl
    have hreg : (advance dt s).regulated = { m with drum := drum, link := link } := by
      have : (advance dt s).regulated = regulate P m := by simp [State.regulated, hp, m]
      rw [this, regulate_turned (s := m) hr (fun c e => by simp [show m.cal = none from hc] at e) hturn, hD, hK]
    exact exec_indexPulse_idle hc hturn hreg hr hscan
  · intro c hc hk hph hq hpre hrun hdark hlit haway
    obtain ⟨D, L, hreg, -, hper, hother⟩ := regulated_turned (s := advance dt s) hr
      (fun b hb => by
        obtain rfl : c = b := Option.some.inj (hc.symm.trans hb)
        exact hph) hturn
    refine ⟨_, exec_indexPulse_idle (s := { s with cal := none }) rfl hturn (hother none nofun) hr hscan, ?_⟩
    intro pulse n begun raw revolution sums used ended
    let w : State := { advance dt s with drum := D, link := L, encoder := ⟨0, true⟩ }
    have hw : w.Measuring c := ⟨hc, hk, hph, hr, hpre, hrun, hdark, hlit, haway⟩
    have hpulse : ∀ t : State, t.manager = s.manager →
        revolutionToCal (D.period.isSome && D.state == .locked) r.toNat w = t → pulse = .next t := fun t hm ht =>
      exec_indexPulse_measuring hc hph hturn hr hscan hreg hper (by rw [hm]; exact hq) ht
    have hneed : c.kind.needed = n := needed_eq hk
    have hsums : List.zipWith (· + ·) c.sums c.revolutionSums = sums := congrArg _ (revolutionSums_eq hk)
    let b : CalRun := { c with passed := c.passed + 1, used := c.used + 1, sums := sums }
    have hwb : State.Measuring b { w with cal := some b } := hw.withCal rfl rfl
    have huses : used → c.countRevolution (D.period.isSome && D.state == .locked) = b := fun h => by
      rw [CalRun.countRevolution_used (uses_iff.2 h), hsums]
    have hunused : ¬used → c.countRevolution (D.period.isSome && D.state == .locked) =
        { c with passed := c.passed + 1 } := fun h =>
      CalRun.countRevolution_unused (mt uses_iff.1 h)
    have hdone : c.revBegun = true → used → c.kind.needed ≤ c.used + 1 → ∀ {t : State},
        calOutcome b { w with cal := some b } = t →
        t.cal = none → t.manager = s.manager → pulse = .next t := fun hb hu hn _ ht hcal hman =>
      hpulse _ hman (revolutionToCal_done hw hb (huses hu) hn ht hcal)
    refine ⟨fun hb => hpulse _ rfl (revolutionToCal_first hw hb), fun hb => ⟨fun hu h1 h2 => ?_, fun hu h1 h2 => ?_,
      fun hor h2 => ?_, fun hkd hu h0 => ?_, fun hkw hu h15 => ?_, fun hks hu h7 hlen => ?_⟩⟩
    · exact hpulse _ rfl (revolutionToCal_goes hw hb (huses hu) (hneed ▸ h1) (hneed ▸ h2))
    · exact hpulse _ rfl (revolutionToCal_goes hw hb (hunused hu) (hneed ▸ h1) (hneed ▸ h2))
    · have hfail : ∀ a : CalRun, c.countRevolution (D.period.isSome && D.state == .locked) = a →
          a.kind = c.kind → a.steps = c.steps → a.used < n → n + 16 ≤ a.passed →
          pulse = .next (ended .failed (some .noLock) 0 c.figures) := fun a ha hka hs h1 h2 => by
        have hfig : a.figures = c.figures := by rw [figures_eq hk, figures_eq (hka ▸ hk), hka, hs]
        exact hpulse _ rfl (hfig ▸ revolutionToCal_noLock hw hb ha (hneed ▸ h1) (hneed ▸ h2))
      refine Eq.trans ?_ (congrArg (fun g => Host.Outcome.next (ended .failed (some .noLock) 0 g)) (figures_eq hk))
      rcases hor with ⟨hu, h1⟩ | ⟨hu, h1⟩
      · exact hfail _ (huses hu) rfl rfl h1 h2
      · exact hfail _ (hunused hu) rfl rfl h1 h2
    · intro avg
      have hn : c.kind.needed ≤ c.used + 1 := by
        rw [hkd, h0]
        decide
      exact ⟨fun hh => hdone hb hu hn (calOutcome_darkHigh (avg := avg) hwb hkd rfl hh) rfl rfl,
        fun hh => hdone hb hu hn (calOutcome_darkDone (avg := avg) hwb hkd rfl hh) rfl rfl⟩
    · intro white above g
      have hn : c.kind.needed ≤ c.used + 1 := by
        rw [hkw, h15]
        decide
      exact ⟨fun hh => hdone hb hu hn (calOutcome_whiteLow (w := white) hwb hkw rfl hh) rfl rfl,
        fun hh => hdone hb hu hn (calOutcome_whiteDone (w := white) hwb hkw rfl hh) rfl rfl⟩
    · intro count m figures
      have hn : c.kind.needed ≤ c.used + 1 := by
        rw [hks, h7]
        decide
      have hm : m.length = c.steps.length := by
        have hrev : c.revolutionSums.length = c.steps.length := by simp [CalRun.revolutionSums, hks]
        simp [m, ← hsums, hrev, hlen]
      refine ⟨fun i x y hx hy hlt hbefore => ?_, fun hrise => ⟨_, ?_, ?_, fun k hk17 m1 mc a b h1 h2 h3 h4 =>
        tabletCurve_knots hrise hm hk17 h1 h2 h3 h4⟩⟩
      · have hi : firstNotRising 2 m = some (i + 2) :=
          (firstNotRising_some hx hy hlt hbefore 2).trans (by rw [Nat.add_comm])
        exact hdone hb hu hn (calOutcome_notMonotonic (m := m) hwb hks rfl hi) rfl rfl
      · exact hdone hb hu hn (calOutcome_stepsDone (m := m) hwb hks rfl (firstNotRising_none hrise 2)) rfl rfl
      · simp [tabletCurve]

end Sys2Proof.Machine
end

section
/-! PROOF. CAL_LOAD, CURVE_LOAD and CAL_READ case by case (R65 to R68). -/

namespace Sys2Proof.Machine

section
variable {s : State} {p : List Byte} {o : Order} {n : Byte}

/-! ## CAL_LOAD -/

/-- The selector SCAN alone leaves the motor part, MOTOR alone the scan part (R66). -/
theorem CalFields.install_eq {f : CalFields} (h : f.selector ≤ 2) (s : State) : f.install s =
    { s with
      motor := if f.selector = 1 then s.motor else ⟨f.s1, f.s2, f.kp, f.ki, true⟩
      scanPart := if f.selector = 0 then s.scanPart else ⟨f.offset, f.wRaw, f.gain, true, true, true⟩ } := by
  unfold CalFields.install CalFields.namesMotor CalFields.namesScan
  match f.selector, h with
  | 0, _ => rfl
  | 1, _ => rfl
  | 2, _ => rfl

theorem serveCalLoad_selector (h : 2 < (CalFields.ofPayload p).selector) :
    serveCalLoad p s = (.refused .fieldRange 1, s) := if_pos h

section
variable (h : (CalFields.ofPayload p).selector ≤ 2)
include h

theorem serveCalLoad_sending (ho : s.sendingOrder = some o) : serveCalLoad p s = (.refused .state o.number, s) := by
  simp [serveCalLoad, Nat.not_lt.2 h, ho]

theorem serveCalLoad_invalid {i : Nat} (ho : s.sendingOrder = none) (hi : (CalFields.ofPayload p).fault = some i) :
    serveCalLoad p s = (.refused .calInvalid i, s) := by
  simp [serveCalLoad, Nat.not_lt.2 h, ho, hi]

theorem serveCalLoad_ok (ho : s.sendingOrder = none) (hi : (CalFields.ofPayload p).fault = none) :
    serveCalLoad p s =
      let f := CalFields.ofPayload p
      (.ok (u8 f.selector),
        { s with
          motor := if f.selector = 1 then s.motor else ⟨f.s1, f.s2, f.kp, f.ki, true⟩
          scanPart := if f.selector = 0 then s.scanPart else ⟨f.offset, f.wRaw, f.gain, true, true, true⟩ }) := by
  simp [serveCalLoad, Nat.not_lt.2 h, ho, hi, CalFields.install_eq h]

end

/-! ## CURVE_LOAD -/

theorem serveCurveLoad_sending (ho : s.sendingOrder = some o) : serveCurveLoad p s = (.refused .state o.number, s) := by
  simp [serveCurveLoad, ho]

theorem serveCurveLoad_knot {k : Nat} (ho : s.sendingOrder = none) (hk : k < 17) (hbad : 4095 < wordAt p (2 * k))
    (hgood : ∀ j, j < k → wordAt p (2 * j) ≤ 4095) : serveCurveLoad p s = (.refused .fieldRange (k + 1), s) := by
  have hfind : (knotsOf p).findIdx? (fun t => 4095 < t) = some k :=
    List.findIdx?_eq_some_iff_getElem.2 ⟨by simpa [knotsOf] using hk, by simpa [knotsOf] using hbad,
      fun j hj => by simpa [knotsOf] using hgood j hj⟩
  simp [serveCurveLoad, ho, hfind]

theorem serveCurveLoad_ok (ho : s.sendingOrder = none) (hgood : ∀ k, k < 17 → wordAt p (2 * k) ≤ 4095) :
    serveCurveLoad p s = (.ok [], { s with curve := knotsOf p }) := by
  have hfind : (knotsOf p).findIdx? (fun t => 4095 < t) = none :=
    List.findIdx?_eq_none_iff.2 fun t ht => by
      obtain ⟨k, hk, rfl⟩ := List.mem_map.1 ht
      simpa using hgood k (List.mem_range.1 hk)
  simp [serveCurveLoad, ho, hfind]

/-! ## CAL_READ -/

theorem serveCalRead_unknown (h : 2 < n.toNat) : serveCalRead [n] s = (.refused .fieldRange 1, s) := by
  unfold serveCalRead
  rw [byteAt_zero]
  match n.toNat, h with
  | _ + 3, _ => rfl

end

/-- Settles O18: the cases of `serveCalLoad`, `serveCurveLoad` and `serveCalRead`. -/
theorem calibrationLoadsAndReads : Obligations.CalibrationLoadsAndReads := by
  intro dt tag s hf sending
  refine ⟨?_, ?_, ?_⟩
  · intro p hlen f load r
    have hserve : ∀ (a : Reply) (u : State), u.link.tx = s.link.tx → u.link.replySlot = s.link.replySlot →
        serveCalLoad p (s.serving dt r) = (a, u.serving dt r) → load = .next (u.answered dt r a) :=
      fun a u htx hslot h => exec_request (i := .calLoad dt tag p) rfl hf (by simp [hlen]) rfl
        (by simp [lengthAgrees, hlen]) a u htx hslot (congrArg answered h)
    refine ⟨fun h => ?_, fun h o ho => ?_, fun h ho i hi => ?_, fun h ho hi => ?_⟩
    · exact hserve _ s rfl rfl (serveCalLoad_selector h)
    · exact hserve _ s rfl rfl (serveCalLoad_sending h ho)
    · exact hserve _ s rfl rfl (serveCalLoad_invalid h ho hi)
    · exact hserve _ { s with motor := _, scanPart := _ } rfl rfl (serveCalLoad_ok h ho hi)
  · intro p hlen load r knots
    have hserve : ∀ (a : Reply) (u : State), u.link.tx = s.link.tx → u.link.replySlot = s.link.replySlot →
        serveCurveLoad p (s.serving dt r) = (a, u.serving dt r) → load = .next (u.answered dt r a) :=
      fun a u htx hslot h => exec_request (i := .curveLoad dt tag p) rfl hf (by simp [hlen]) rfl
        (by simp [lengthAgrees, hlen]) a u htx hslot (congrArg answered h)
    refine ⟨fun o ho => ?_, fun ho k hk hbad hgood => ?_, fun ho hgood => ?_⟩
    · exact hserve _ s rfl rfl (serveCurveLoad_sending ho)
    · exact hserve _ s rfl rfl (serveCurveLoad_knot ho hk hbad hgood)
    · exact hserve _ { s with curve := _ } rfl rfl (serveCurveLoad_ok ho hgood)
  · intro n read r m c speed
    have hserve : ∀ a : Reply, serveCalRead [n] (s.serving dt r) = (a, s.serving dt r) →
        read = .next (s.answered dt r a) := fun a h =>
      exec_request (i := .calRead dt tag [n]) rfl hf (by simp) rfl rfl a s rfl rfl (congrArg answered h)
    refine ⟨?_, ?_, ?_, fun h => hserve _ (serveCalRead_unknown h)⟩
    · rintro rfl
      exact hserve _ rfl
    · rintro rfl
      exact hserve _ rfl
    · rintro rfl
      exact hserve _ rfl

end Sys2Proof.Machine
end

section
/-! PROOF. CAL_RUN refused (R69, R72, R79): the checks one after the other, for the kind that the first payload byte
names. -/

namespace Sys2Proof.Machine

section
variable {s : State} {k : CalKind} {p : List Byte} {reason : Reason} {q : Nat}

/-! ## The checks -/

theorem calRunFault_order {o : Order} (ho : s.runningOrder = some o) : calRunFault k s = some (.busy, o.number) := by
  simp [calRunFault, ho]

section
variable (ho : s.runningOrder = none)
include ho

theorem calRunFault_cal (hc : s.cal.isSome) : calRunFault k s = some (.busy, 0) := by
  simp [calRunFault, ho, hc]

variable (hc : s.cal = none)
include hc

theorem calRunFault_door (hd : s.panel.door = .opened) : calRunFault k s = some (.state, 1) := by
  simp [calRunFault, ho, hc, hd]

variable (hd : s.panel.door = .closed)
include hd

theorem calRunFault_fault (hf : s.drum.state = .fault) : calRunFault k s = some (.state, 2) := by
  simp [calRunFault, ho, hc, hd, hf]

variable (hf : s.drum.state ≠ .fault)
include hf

theorem calRunFault_motor (hk : k ≠ .motor) (hm : s.motor.valid = false) :
    calRunFault k s = some (.notCalibrated, 1) := by
  simp [calRunFault, ho, hc, hd, hf, hk, hm]

variable (hm : s.motor.valid = true)
include hm

theorem calRunFault_range (ha : asksSpeed k s.drum.state = true) (hr : feasible s.motor 60 = false) :
    calRunFault k s = some (.range, 60) := by
  simp [calRunFault, ho, hc, hd, hf, hm, ha, hr]

/-- A STEPS run's last checks, its 60 rpm feasible (R69 steps 9 to 11). -/
theorem calRunFault_steps (hr : feasible s.motor 60 = true) : calRunFault .steps s =
    if s.carriage.state = .fault then some (.state, 3)
    else if !s.panel.mountPresent then some (.state, 4)
    else if !s.scanPart.valid then some (.notCalibrated, 2)
    else none := by
  simp [calRunFault, ho, hc, hd, hf, hm, hr]

end

/-! ## The kind and the reply -/

/-- The run will ask for 60 rpm, in the words of R72. -/
theorem asksSpeed_iff {d : DrumState} : asksSpeed k d = true ↔
    k.code = 3 ∨ k.code = 1 ∧ ¬(d = .spinningUp ∨ d = .locked ∨ d = .drift)
      ∨ k.code = 2 ∧ d ≠ .spinningUp ∧ d ≠ .locked := by
  cases k <;> simp [asksSpeed, CalKind.code, ← DrumState.isTurning_iff]

theorem code_steps (h : k.code = 3) : k = .steps := by
  cases k <;> simp_all [CalKind.code]

theorem serveCalRun_stepsFault (h : byteAt p 0 = 3) (hq : stepsFault p = some q) :
    serveCalRun p s = (.refused .fieldRange q, s) := by
  simp only [serveCalRun, h, hq]

theorem serveCalKind_refused {f : State → State} (h : calRunFault k s = some (reason, q)) :
    serveCalKind k f s = (.refused reason q, s) := by
  simp [serveCalKind, h]

/-- A CAL_RUN whose fields are in range is refused by the first check that fails for the kind its first byte codes. -/
theorem serveCalRun_refused (hp : byteAt p 0 ≤ 3) (hs : byteAt p 0 = 3 → stepsFault p = none) :
    ∃ k : CalKind, k.code = byteAt p 0 ∧ ∀ {s : State} {reason : Reason} {q : Nat},
      calRunFault k s = some (reason, q) → serveCalRun p s = (.refused reason q, s) := by
  unfold serveCalRun
  match byteAt p 0, hp, hs with
  | 0, _, _ => exact ⟨.motor, rfl, serveCalKind_refused⟩
  | 1, _, _ => exact ⟨.dark, rfl, serveCalKind_refused⟩
  | 2, _, _ => exact ⟨.white, rfl, serveCalKind_refused⟩
  | 3, _, hs =>
    rw [hs rfl]
    exact ⟨.steps, rfl, serveCalKind_refused⟩

end

/-- Settles O19: the first check that fails (`calRunFault_order` to `calRunFault_steps`) is the refusal of the kind that
the payload names (`serveCalRun_refused`). -/
theorem calRunChecks : Obligations.CalRunChecks := by
  rintro i dt ⟨-, tag, p⟩ s hi rfl hp hl hf hle refused
  have hserve : ∀ {reason : Reason} {q : Nat}, (let t := s.serving dt ⟨0x0A#8, tag, p⟩
      serveCalRun p t = (.refused reason q, t)) → exec i s = .next (refused reason q) := fun h =>
    exec_request hi hf hp rfl hl _ s rfl rfl (congrArg answered h)
  refine ⟨fun q h3 hq => hserve (serveCalRun_stepsFault h3 hq), fun hsteps => ?_⟩
  obtain ⟨k, hk, href⟩ := serveCalRun_refused hle hsteps
  have refuse : ∀ {reason : Reason} {q : Nat}, calRunFault k s = some (reason, q) →
      exec i s = .next (refused reason q) := fun h => hserve (href (by exact h))
  refine ⟨fun o ho => refuse (calRunFault_order ho), fun ho => ⟨fun hc => ?_, fun hc hd => ?_, fun hc hd hfault => ?_,
    fun hc hd hfault h0 hm => ?_, ?_⟩⟩
  · exact refuse (calRunFault_cal ho hc)
  · exact refuse (calRunFault_door ho hc hd)
  · exact refuse (calRunFault_fault ho hc hd hfault)
  · exact refuse (calRunFault_motor ho hc hd hfault (fun e => h0 (by rw [← hk, e]; rfl)) hm)
  · intro hc hd hfault hm code turning asks60
    refine ⟨fun ha hr => ?_, fun h3 hr => ?_⟩
    · exact refuse (calRunFault_range ho hc hd hfault hm (asksSpeed_iff.2 (hk ▸ ha)) hr)
    · obtain rfl := code_steps (hk.trans h3)
      have hlast := calRunFault_steps ho hc hd hfault hm hr
      exact ⟨fun hcar => refuse (by simp [hlast, hcar]), fun hcar hmount => refuse (by simp [hlast, hcar, hmount]),
        fun hcar hmount hscan => refuse (by simp [hlast, hcar, hmount, hscan])⟩

end Sys2Proof.Machine
end

section
/-! PROOF. The carriage moves (R80, R89 to R92, R158): its steps toward home and outward, its arrivals, and the end of a
home search without the switch. -/

namespace Sys2Proof.Machine

section
variable {s : State}

theorem CarriageState.homeSeeking_iff {x : CarriageState} : x.homeSeeking = true ↔
    x = .homing ∨ x = .returning := by
  cases x <;> simp [CarriageState.homeSeeking]

/-! ## Steps toward home -/

theorem carriageStep_seeking (h : s.carriage.state.homeSeeking = true) : carriageStep s = homeStep s := if_pos h

theorem homeStep_goes (h : s.carriage.stepsTaken + 1 < 5400) :
    homeStep s = s.onCarriage (Carriage.stepHome s.now) := if_neg (Nat.not_le.2 h)

theorem carriageFaultToCal_none (h : s.cal = none) : carriageFaultToCal s = s := by
  simp [carriageFaultToCal, h]

theorem reportCarriage_none (h : s.run = none) : reportCarriage s = s := onRun_none h _

/-- A carriage FAULT beside no run of either kind is the carriage's alone (R90, R92). -/
theorem carriageFailed_idle (hr : s.run = none) (hc : s.cal = none) : carriageFailed s =
    s.onCarriage Carriage.fail := by
  unfold carriageFailed
  rw [reportCarriage_none (by exact hr), runAbort_none (by exact hr), carriageFaultToCal_none (by exact hc)]

/-- The 5,400th step toward home ends the search (R90). -/
theorem homeStep_fails (h : s.carriage.stepsTaken = 5399) (hr : s.run = none) (hc : s.cal = none) :
    homeStep s = s.onCarriage fun c =>
      { c with state := .fault, position := none, stepsTaken := 5400, target := none, stepAt := none } := by
  have hlast : 5400 ≤ (s.onCarriage (Carriage.stepHome s.now)).carriage.stepsTaken := by
    simp [Carriage.stepHome, h]
  unfold homeStep
  rw [if_pos hlast, carriageFailed_idle (by exact hr) (by exact hc)]
  simp [State.onCarriage, Carriage.stepHome, Carriage.fail, h]

/-! ## Steps outward -/

section
variable {p q : Nat} (h : s.carriage.state = .advancing) (hp : s.carriage.target = some p)
include h hp

theorem carriageStep_advancing : carriageStep s = reportArrival (s.onCarriage (Carriage.stepOut s.now)) := by
  have hseek : s.carriage.state.homeSeeking ≠ true := by simp [h, CarriageState.homeSeeking]
  unfold carriageStep
  rw [if_neg hseek, if_pos ⟨h, by simp [hp]⟩]

variable (hq : s.carriage.position = some q)
include hq

/-- A step outward that leaves the target ahead (R89). -/
theorem carriageStep_outward (hne : q + 1 ≠ p) : carriageStep s = s.onCarriage fun c =>
    { c with position := some (q + 1), stepAt := some (s.now + 2500), homeClosed := false } := by
  have hstep : s.carriage.stepOut s.now =
      { s.carriage with position := some (q + 1), stepAt := some (s.now + 2500), homeClosed := false } := by
    simp [Carriage.stepOut, hq, hp, hne.symm, stepTime]
  rw [carriageStep_advancing h hp]
  simp [reportArrival, State.onCarriage, hstep, hp]

/-- The step outward that reaches the target is reported (R89, R91). -/
theorem carriageStep_arrives (hat : q + 1 = p) : carriageStep s = calArrived (s.onCarriage fun c =>
    { c with position := some p, target := none, stepAt := none, homeClosed := false }) := by
  have hstep : s.carriage.stepOut s.now =
      { s.carriage with position := some p, target := none, stepAt := none, homeClosed := false } := by
    simp [Carriage.stepOut, hq, hp, hat]
  rw [carriageStep_advancing h hp]
  simp [reportArrival, State.onCarriage, hstep]

end

theorem calExamine_none (h : s.cal = none) : calExamine s = s := by
  simp [calExamine, h]

/-- Without a lamp READY or a drum LOCKED the arrival is kept, and the STEPS run waits on (R80). -/
theorem calArrived_waits (hk : ∀ k, s.cal = some k → k.kind = .steps)
    (h : s.lamp.state ≠ .ready ∨ s.drum.state ≠ .locked ∨ s.cal = none) :
    calArrived s = s.onCal fun k => { k with arrived := true } := by
  cases hc : s.cal with
  | none => exact calExamine_none (s := s.onCal _) (by simp [hc])
  | some k =>
    refine calExamine_waits (c := { k with arrived := true }) (by simp [hc]) ?_
    simp only [calReady, hk k hc]
    rcases h with h | h | h
    · simp [h]
    · simp [h]
    · simp [hc] at h

/-- With the lamp READY and the drum LOCKED a WAITING STEPS run that has arrived measures (R80). -/
theorem calArrived_measures (hk : ∀ k, s.cal = some k → k.kind = .steps ∧ k.phase = .waiting)
    (hl : s.lamp.state = .ready) (hd : s.drum.state = .locked) : calArrived s = s.onCal fun k =>
      { k with arrived := true, phase := .measuring, offset := s.scanPart.offset, gain := s.scanPart.gain } := by
  cases hc : s.cal with
  | none => simp [calArrived, State.onCal, hc, calExamine_none]
  | some k =>
    obtain ⟨hkind, hphase⟩ := hk k hc
    refine (calExamine_measures (c := { k with arrived := true }) (by simp [hc]) hphase ?_).trans ?_
    · simp [calReady, hkind, hl, hd]
    · simp [State.onCal, hc]

/-- A command that leaves a calibration run standing re-examines no selection. -/
theorem selectAfterCal_stands {t : State} (h : t.cal.isSome = s.cal.isSome) : selectAfterCal s t = t := by
  unfold selectAfterCal
  rw [← Option.not_isSome, h]
  cases s.cal <;> rfl

/-! ## Home -/

theorem examineStart_none (h : s.run = none) : examineStart s = s := by
  simp [examineStart, h]

/-- HOME is reached, and no move waits (R90). -/
theorem homeReached_rests (hr : s.run = none) (hw : s.carriage.waitingMove = none) : homeReached s =
    s.onCarriage fun c =>
      { c with state := .home, position := some 0, target := none, stepAt := none, homeClosed := true } := by
  unfold homeReached
  rw [reportCarriage_none (by exact hr)]
  simp only [hw]
  rw [examineStart_none (by exact hr)]
  simp [State.onCarriage, Carriage.arriveHome, ← hw]

/-- HOME is reached, and a STEPS move that waited begins (R90, R91). -/
theorem homeReached_moves {p : Nat} (hr : s.run = none) (hw : s.carriage.waitingMove = some p) (hp : 2 ≤ p) :
    homeReached s = s.onCarriage fun c =>
      { c with
        state := .advancing, position := some 1, target := some p, stepAt := some (s.now + 2500), waitingMove := none
        homeClosed := false } := by
  let t := s.onCarriage fun c => { c.arriveHome with waitingMove := none }
  have hmove : moveFromHome p t = moveTo p t := (if_pos rfl).symm
  unfold homeReached
  rw [reportCarriage_none (by exact hr)]
  simp only [hw]
  rw [hmove, moveTo_advances (s := t) hr rfl rfl hp, examineStart_none (by exact hr)]
  rfl

/-! ## The three commands -/

variable {t : State} {dt : Nat}

theorem exec_carriageStep : exec (.carriageStep dt) s = .next
    (if due s.carriage.stepAt (s.now + dt) then selectAfterCal (advance dt s) (carriageStep (advance dt s))
      else advance dt s) := rfl

theorem exec_homeSwitchClose : exec (.homeSwitchClose dt) s = .next
    (if s.carriage.state.homeSeeking then homeReached (advance dt s)
      else (advance dt s).onCarriage fun c => { c with homeClosed := true }) := rfl

theorem exec_homeSearchLimit : exec (.homeSearchLimit dt) s = .next
    (if s.carriage.state.homeSeeking ∧ 5399 ≤ s.carriage.stepsTaken ∧ due s.carriage.stepAt (s.now + dt) then
      selectAfterCal (advance dt s) (homeStep (advance dt s)) else advance dt s) := rfl

/-- A step due that ends no calibration run is the step alone. -/
theorem exec_carriageStep_due (hd : due s.carriage.stepAt (s.now + dt) = true) (h : carriageStep (advance dt s) = t)
    (hcal : t.cal.isSome = s.cal.isSome) : exec (.carriageStep dt) s = .next t := by
  rw [exec_carriageStep, if_pos hd, h, selectAfterCal_stands (by exact hcal)]

end

/-- Settles O46: a step toward home goes on or fails (`homeStep_goes`, `homeStep_fails`), a step outward goes on or
arrives (`carriageStep_outward`, `carriageStep_arrives`), and HOME is rest or the start of a move that waited
(`homeReached_rests`, `homeReached_moves`). -/
theorem theCarriageMoves : Obligations.TheCarriageMoves := by
  intro dt s now c seeking stepDue failed
  have hseek : seeking ↔ s.carriage.state.homeSeeking = true := CarriageState.homeSeeking_iff.symm
  have hdue : stepDue ↔ due s.carriage.stepAt (s.now + dt) = true := due_iff.symm
  refine ⟨fun hs hd hlt => ?_, fun hs hd hlast hr hc => ?_, fun ha hd p q hq hp => ⟨fun hne => ?_, ?_⟩,
    fun hs hr => ⟨fun hw => ?_, fun p hw hp => ?_⟩, fun hs => ⟨?_, ?_⟩, fun hd => ⟨?_, ?_⟩⟩
  · exact exec_carriageStep_due (hdue.1 hd)
      ((carriageStep_seeking (s := advance dt s) (hseek.1 hs)).trans (homeStep_goes hlt)) rfl
  · have hfail : homeStep (advance dt s) = failed := homeStep_fails (s := advance dt s) hlast hr hc
    refine ⟨exec_carriageStep_due (hdue.1 hd)
      ((carriageStep_seeking (s := advance dt s) (hseek.1 hs)).trans hfail) rfl, ?_⟩
    rw [exec_homeSearchLimit, if_pos ⟨hseek.1 hs, hlast.ge, hdue.1 hd⟩, selectAfterCal_noCal (by exact hc), hfail]
  · exact exec_carriageStep_due (hdue.1 hd) (carriageStep_outward (s := advance dt s) ha hp hq hne) rfl
  · intro hat hk stands
    have harrive : carriageStep (advance dt s) = calArrived stands :=
      carriageStep_arrives (s := advance dt s) ha hp hq hat
    exact ⟨fun hw => exec_carriageStep_due (hdue.1 hd)
        (harrive.trans (calArrived_waits (s := stands) (fun k e => (hk k e).1) hw)) Option.isSome_map,
      fun hl hdrum => exec_carriageStep_due (hdue.1 hd)
        (harrive.trans (calArrived_measures (s := stands) hk hl hdrum)) Option.isSome_map⟩
  · rw [exec_homeSwitchClose, if_pos (hseek.1 hs), homeReached_rests (s := advance dt s) hr hw]
    rfl
  · rw [exec_homeSwitchClose, if_pos (hseek.1 hs), homeReached_moves (s := advance dt s) hr hw hp]
    rfl
  · rw [exec_homeSwitchClose, if_neg (mt hseek.2 hs)]
    rfl
  · rw [exec_homeSearchLimit, if_neg fun h => hs (hseek.2 h.1)]
    rfl
  · rw [exec_carriageStep, if_neg (mt hdue.2 hd)]
    rfl
  · rw [exec_homeSearchLimit, if_neg fun h => hd (hdue.2 h.2.2)]
    rfl

end Sys2Proof.Machine
end

section
/-! PROOF. The lamp's timers run out (R76, R84 to R86, R155, R159): READY with the START that waited for it, OFF, and
a DARK run's second. -/

namespace Sys2Proof.Machine

section
variable {s : State} {r : RunRecord} {o : Order} {dt : Nat}

/-! ## READY and the START -/

/-- The lamp after its warm-up (R85). -/
def Lamp.warmedUp (l : Lamp) : Lamp := { l with state := .ready, warmTimer := none }

theorem warmUpDone_noCal (hc : s.cal = none) : warmUpDone s = examineStart (reportLamp (s.onLamp Lamp.warmedUp)) :=
  calExamine_none (by simpa using hc)

theorem warmUpDone_idle (hr : s.run = none) (hc : s.cal = none) : warmUpDone s = s.onLamp Lamp.warmedUp := by
  rw [warmUpDone_noCal hc, reportLamp_none (by exact hr), examineStart_none (by exact hr)]

/-- The START is made when its conditions hold (R155). -/
theorem examineStart_starts (hr : s.run = some r) (ho : s.findOrder r.order = some o) (h : startConditions r o = true) :
    examineStart s = lineStart r.figures (s.onRun fun r => { r with startMade := true, deferTimer := none }) := by
  simp [examineStart, hr, ho, h]

/-- The line as a START in HOLDING, silent and past its guard, leaves it: the start tone sounds (R133, R140, R141). -/
def LineUnit.started (fig : Figures) (now : Nat) (l : LineUnit) : LineUnit :=
  { l with
    activity := some .startTone, signal := .sounding now, holdAt := none, lastRequest := some .start
    figures := some fig }

theorem beginSending_passed {now : Nat} {l : LineUnit} (h : ∀ e, l.lastListenEnd = some e → e + 60000 ≤ now) :
    l.beginSending now = { l with signal := .sounding now } := by
  unfold LineUnit.beginSending
  cases he : l.lastListenEnd with
  | none => rfl
  | some e => exact if_neg (Nat.not_lt.2 (h e he))

theorem lineStart_holding {fig : Figures} (hs : s.line.state = .seized) (ha : s.line.activity = some .holding)
    (hq : s.line.signal = .silent) (hg : ∀ e, s.line.lastListenEnd = some e → e + 60000 ≤ s.now) :
    lineStart fig s = startToneBegun (s.onLine (LineUnit.started fig s.now)) := by
  have htakes : s.line.takes .start = true := by simp [LineUnit.takes, hs, ha]
  unfold lineStart
  rw [if_pos htakes]
  simp only [State.onLine, hq]
  rw [beginSending_passed (by exact hg)]
  rfl

/-- The order as its start tone begins (R159, R172). -/
def Order.startToned (now : Nat) (o : Order) : Order :=
  { o with state := .phasing, prepare := o.prepare.stop now, defer := o.defer.stop now, picture := .running now }

theorem startToneBegun_enters (hr : s.run = some r) (ho : s.findOrder r.order = some o) (ha : r.abort = none) :
    startToneBegun s = (placeNotice (.order o.number o.header.hostRef (.entered .phasing) none)
      (updateOrder r.order (Order.startToned s.now) s)).onRun fun r => { r with drift := 0 } := by
  simp only [startToneBegun, hr, ha, if_true]
  rw [enterState_updateOrder (by exact fun _ => rfl) ho]
  rfl

/-! ## The three commands -/

theorem exec_warmUpExpiry : exec (.warmUpExpiry dt) s = .next
    (if due s.lamp.warmTimer (s.now + dt) ∧ s.lamp.state = .warming then warmUpDone (advance dt s)
      else advance dt s) := rfl

theorem exec_lampIdleExpiry : exec (.lampIdleExpiry dt) s = .next
    (if due s.lamp.idleTimer (s.now + dt) then
      calExamine (reportLamp ((advance dt s).onLamp (Lamp.putOut (s.now + dt)))) else advance dt s) := rfl

/-- A DARK run is examined (R76). -/
theorem exec_darkLampSettled_dark {c : CalRun} (hc : s.cal = some c) (hk : c.kind = .dark) :
    exec (.darkLampSettled dt) s = .next (calExamine (advance dt s)) := by
  have h : ((advance dt s).cal.map fun c => c.kind == .dark).getD false = true := by simp [hc, hk]
  exact congrArg Host.Outcome.next (if_pos h)

/-- A DARK run that finds the drum LOCKED or DRIFT waits for the lamp's second alone (R76). -/
theorem calReady_dark {c : CalRun} (hk : c.kind = .dark) (hl : s.lamp.state = .off)
    (hd : s.drum.state = .locked ∨ s.drum.state = .drift) :
    calReady c s = true ↔ ∀ x, s.lamp.offTime = some x → x + 1000000 ≤ s.now := by
  have hdrum : (s.drum.state == .locked || s.drum.state == .drift) = true := by simpa using hd
  simp only [calReady, hk, hdrum, Lamp.dark, hl]
  cases s.lamp.offTime <;> simp [sec]

theorem not_due {x : Option Nat} {now : Nat} (h : x = none ∨ ∃ e, x = some e ∧ now < e) : due x now ≠ true := by
  rcases h with h | ⟨e, h, hlt⟩
  · simp [due, h]
  · simp [due, h, hlt]

end

/-- Settles O45: READY examines the run's start conditions (`warmUpDone_noCal`), which hold, so that the START is made
and the start tone begins (`lineStart_holding`, `startToneBegun_enters`); OFF is `Lamp.putOut`, and a DARK run's second
is all that its wait lacks (`calReady_dark`). -/
theorem lampTimersRunOut : Obligations.LampTimersRunOut := by
  intro dt s now ready
  refine ⟨fun e he hle hw hc => ⟨fun hr => ?_, ?_⟩, fun e he hle hc => ?_,
    fun c hc hk hp hl hd => ⟨fun h => ?_, fun h => ?_⟩, fun hc => ?_, fun h => ?_, fun h => ?_⟩
  · rw [exec_warmUpExpiry, if_pos ⟨due_some he hle, hw⟩, warmUpDone_idle (by exact hr) (by exact hc)]
    rfl
  · intro r o hr ho hprep hroll hany habort hdrum hcar hmade hseized hact hsig hguard
    let lit : RunRecord := { r with lampReady := true }
    let made : RunRecord := { lit with startMade := true, deferTimer := none }
    let u : State := { advance dt s with lamp := ready, run := some lit }
    let v : State := { u with run := some made, line := s.line.started made.figures now }
    have hready : reportLamp ((advance dt s).onLamp Lamp.warmedUp) = u := onRun_some (s := (advance dt s).onLamp _) hr _
    have hstart : startConditions lit o = true := by
      simpa [startConditions, lit, hprep, hroll, habort, hdrum, hcar, hmade, Order.anyReady] using hany
    have hline : lineStart lit.figures (u.onRun fun r => { r with startMade := true, deferTimer := none }) =
        startToneBegun v := lineStart_holding (s := { u with run := some made }) hseized hact hsig hguard
    have hdone : warmUpDone (advance dt s) = startToneBegun v := by
      rw [warmUpDone_noCal (by exact hc), hready, examineStart_starts (s := u) rfl ho hstart, hline]
    rw [exec_warmUpExpiry, if_pos ⟨due_some he hle, hw⟩, hdone, startToneBegun_enters (s := v) rfl ho habort]
    exact ⟨_, rfl, rfl, rfl, rfl, rfl, rfl, rfl, rfl, rfl, rfl⟩
  · rw [exec_lampIdleExpiry, if_pos (due_some he hle), calExamine_none (by exact hc)]
    rfl
  · have hready : calReady c (advance dt s) = true := (calReady_dark (s := advance dt s) hk hl hd).2 fun x hx => by
      rcases h with h | ⟨y, hy, hle⟩
      · exact absurd (h.symm.trans hx) nofun
      · obtain rfl : y = x := Option.some.inj (hy.symm.trans hx)
        exact hle
    rw [exec_darkLampSettled_dark hc hk, calExamine_measures (s := advance dt s) hc hp hready]
    rfl
  · obtain ⟨x, hx, hlt⟩ := h
    have hready : calReady c (advance dt s) = false := Bool.not_eq_true _ ▸ fun hr =>
      absurd ((calReady_dark (s := advance dt s) hk hl hd).1 hr x hx) (Nat.not_le.2 hlt)
    rw [exec_darkLampSettled_dark hc hk, calExamine_waits (s := advance dt s) hc hready]
    rfl
  · have h : ((advance dt s).cal.map fun c => c.kind == .dark).getD false ≠ true := by simp [hc]
    exact congrArg Host.Outcome.next (if_neg h)
  · rw [exec_warmUpExpiry, if_neg fun hd => not_due h hd.1]
    rfl
  · rw [exec_lampIdleExpiry, if_neg (not_due h)]
    rfl

end Sys2Proof.Machine
end

section
/-! PROOF. The encoder's edges (R94): the position an edge marks at each S, and the sample it takes. -/

namespace Sys2Proof.Machine

section
variable {s : State} {S c p : Nat} {edge : Edge}

theorem exec_encoderCount {dt : Nat} {r : Sample} : exec (.encoderCount dt edge r) s = .next
    (if s.encoder.high = (edge == .falling) then encoderEdge edge r.toNat (advance dt s) else advance dt s) := rfl

/-- An edge acts when it changes the level of the count signal. -/
theorem edge_acts_iff {high : Bool} : high = (edge == .falling) ↔ (high = true ↔ edge = .falling) := by
  cases high <;> cases edge <;> decide

theorem edge_repeats_iff {high : Bool} : ¬high = (edge == .falling) ↔ (high = true ↔ edge = .rising) := by
  cases high <;> cases edge <;> decide

/-- The edge that marks position `p`, for each number of samples per line (R94). -/
theorem markedPosition_iff (hS : S = 512 ∨ S = 1024 ∨ S = 2048) : markedPosition S c edge = some p ↔
    edge = .rising ∧ (S = 512 ∧ c = 2 * p ∨ S = 1024 ∧ c = p ∨ S = 2048 ∧ p % 2 = 0 ∧ c = p / 2)
      ∨ edge = .falling ∧ S = 2048 ∧ p % 2 = 1 ∧ c = (p - 1) / 2 := by
  cases edge with
  | rising =>
    rcases hS with rfl | rfl | rfl
    · simp [markedPosition]
      omega
    · simp [markedPosition]
    · simp [markedPosition]
      omega
  | falling =>
    rcases hS with rfl | rfl | rfl
    · simp [markedPosition]
    · simp [markedPosition]
    · simp [markedPosition]
      omega

/-- A sample joins the revolution exactly at the edge of its next position. -/
theorem takeSample_eq (hS : S = 512 ∨ S = 1024 ∨ S = 2048) (x : Nat) (l : List Nat) : takeSample S c edge x l =
    if l.length < S ∧
        (edge = .rising ∧ (S = 512 ∧ c = 2 * l.length ∨ S = 1024 ∧ c = l.length
            ∨ S = 2048 ∧ l.length % 2 = 0 ∧ c = l.length / 2)
          ∨ edge = .falling ∧ S = 2048 ∧ l.length % 2 = 1 ∧ c = (l.length - 1) / 2) then
      l ++ [x]
    else l :=
  if_congr (by rw [markedPosition_iff hS, and_comm]) rfl rfl

end

/-- Settles O42: an edge that acts takes its sample by `takeSample_eq`, in a scanned and in a measured revolution. -/
theorem encoderEdgesTakeSamples : Obligations.EncoderEdgesTakeSamples := by
  intro dt edge r s now c its taken hS
  refine ⟨fun h => ?_, fun h => ?_⟩
  · rw [exec_encoderCount, if_neg (edge_repeats_iff.2 h)]
    rfl
  · have htaken : ∀ S l, S = 512 ∨ S = 1024 ∨ S = 2048 → takeSample S c edge r.toNat l = taken S l := fun S l hS => by
      simp only [takeSample_eq hS, taken, its, decide_eq_true_eq]
    have hscan : (encoderEdge edge r.toNat (advance dt s)).scan = s.scan.map fun sc =>
        if sc.inRevolution then { sc with samples := taken sc.samplesPerLine sc.samples } else sc :=
      Option.map_congr fun sc hsc =>
        congrArg (fun l => if sc.inRevolution then { sc with samples := l } else sc) (htaken _ sc.samples (hS sc hsc))
    have hcal : (encoderEdge edge r.toNat (advance dt s)).cal = s.cal.map fun k =>
        if k.revBegun then { k with samples := taken 1024 k.samples } else k :=
      Option.map_congr fun k _ =>
        congrArg (fun l => if k.revBegun then { k with samples := l } else k) (htaken 1024 k.samples (.inr (.inl rfl)))
    rw [exec_encoderCount, if_pos (edge_acts_iff.2 h), ← hscan, ← hcal]
    rfl

end Sys2Proof.Machine
end

section
/-! PROOF. The first abort cause of a run while its picture is scanned (R98, R165), and the loop current (R131, R132, R168). -/

namespace Sys2Proof.Machine

section
variable {s t : State} {r : RunRecord} {o : Order} {c : AbortCause} {a : LineAction}

/-! ## Scanning stops -/

/-- The carriage as a return request leaves it: only an ADVANCING one goes home, at once on a closed switch (R90, R91). -/
def Carriage.recalled (now : Nat) (c : Carriage) : Carriage :=
  if c.state = .advancing then
    if c.homeClosed = true then
      { c with state := .home, position := some 0, stepsTaken := 0, target := none, stepAt := none }
    else { c with state := .returning, stepsTaken := 0, target := none, stepAt := some now }
  else c

/-- A run as a return request of the carriage `c` leaves it: a carriage sent home is reported (R89, R150). -/
def RunRecord.recalled (c : Carriage) (r : RunRecord) : RunRecord :=
  { r with carriageReady := if c.state = .advancing then c.homeClosed else r.carriageReady }

theorem Carriage.recalled_when (p : Prop) [Decidable p] {now : Nat} {c : Carriage} :
    (if p then c.recalled now else c) =
      if p ∧ c.state = .advancing then
        if c.homeClosed = true then
          { c with state := .home, position := some 0, stepsTaken := 0, target := none, stepAt := none }
        else { c with state := .returning, stepsTaken := 0, target := none, stepAt := some now }
      else c := (ite_and ..).symm

theorem RunRecord.recalled_when (p : Prop) [Decidable p] {c : Carriage} : (if p then r.recalled c else r) =
    { r with carriageReady := if p ∧ c.state = .advancing then c.homeClosed else r.carriageReady } := by
  unfold RunRecord.recalled
  by_cases hp : p
  · simp only [hp, if_true, true_and]
  · simp only [hp, if_false, false_and]

theorem returnCarriage_eq (hr : s.run = some r) : returnCarriage s =
    { s with carriage := s.carriage.recalled s.now, run := some (r.recalled s.carriage) } := by
  unfold returnCarriage Carriage.recalled RunRecord.recalled
  by_cases ha : s.carriage.state = .advancing
  · simp only [ha, if_true]
    obtain ⟨hc, he⟩ | ⟨hc, he⟩ := s.carriage.seekHome_cases .returning s.carriage.position s.now
    · simp [reportCarriage, State.onRun, State.onCarriage, hr, he, hc]
    · simp [reportCarriage, State.onRun, State.onCarriage, hr, he, hc]
  · simp only [ha, if_false, ← hr]

theorem stopScan_eq (hr : s.run = some r) : stopScan s =
    { s with scan := none, carriage := s.carriage.recalled s.now, run := some (r.recalled s.carriage) } :=
  returnCarriage_eq (s := { s with scan := none }) hr

/-! ## The first cause, a scan in progress or none -/

/-- A run whose first cause is taken, before its line action: its record, its order's READY destinations, its closed
store, its scan ended and its trim request NONE in SENDING (R54, R98, R165). -/
def State.causeTaken (c : AbortCause) (a : LineAction) (r : RunRecord) (o : Order) (s : State) : State :=
  let taken : RunRecord := { r with abort := some c, deferTimer := none, action := a }
  { s with
    run := some (if r.scanStarted = true ∧ r.scanComplete = false then taken.recalled s.carriage else taken)
    manager :=
      { s.manager with
        table := s.manager.table.map fun x =>
          if x.number = o.number then { x with dests := abortDests c x.dests } else x }
    store := Store.closed
    scan := if r.scanStarted = true ∧ r.scanComplete = false then none else s.scan
    carriage :=
      if r.scanStarted = true ∧ r.scanComplete = false then s.carriage.recalled s.now else s.carriage
    drum := if o.state = .sending then { s.drum with trim := .none } else s.drum }

theorem firstAbort_eq (hr : s.run = some r) (ha : c.action o.state (r.rollEnded && o.anyReady) = a) :
    firstAbort c r o s = makeLineAction a (s.causeTaken c a r o) := by
  subst ha
  have hscan : (r.scanStarted && !r.scanComplete) = true ↔ r.scanStarted = true ∧ r.scanComplete = false := by simp
  unfold firstAbort State.causeTaken
  simp only [onRun_some hr, hscan]
  congr 1
  by_cases h : r.scanStarted = true ∧ r.scanComplete = false
  · simp only [if_pos h]
    rw [stopScan_eq rfl]
    split <;> rfl
  · simp only [if_neg h]
    split <;> rfl

theorem runAbort_taken (hr : s.run = some r) (ho : s.findOrder r.order = some o) (habort : r.abort = none)
    (hacts : c.actsIn o.state = true) (ha : c.action o.state (r.rollEnded && o.anyReady) = a) :
    runAbort c s = makeLineAction a (s.causeTaken c a r o) := by
  rw [← firstAbort_eq hr ha]
  simp [runAbort, hr, ho, habort, hacts]

/-- A second cause that is no STOP key changes nothing (R169). -/
theorem runAbort_second (hr : s.run = some r) (habort : r.abort ≠ none) (hc : c ≠ .stop) : runAbort c s = s := by
  simp only [runAbort, hr, Option.isSome_iff_ne_none.2 habort, if_true, secondAbort, hc, false_and, if_false]
  split <;> rfl

/-! ## The loop current -/

variable {dt : Nat}

theorem exec_loopCurrentLost : exec (.loopCurrentLost dt) s = .next
    (if s.line.loopCurrent then
      (advance dt s).onLine fun l =>
        { l with
          loopCurrent := false
          loopTimer := if l.state = .seized then some (s.now + dt + 500000) else l.loopTimer }
    else advance dt s) := rfl

theorem exec_lineLoss : exec (.lineLoss dt) s = .next
    (if s.line.state = .seized ∧ due s.line.loopTimer (s.now + dt) then lineLost (advance dt s) else advance dt s) := rfl

/-- The state in which the run hears of the loss: the notice placed, the loop-current timer stopped (R132, R148). -/
def State.lossNoticed (s : State) : State :=
  placeNotice (.line .loss s.line.orderNumber s.line.network s.line.activity none)
    (s.onLine fun l => { l with loopTimer := none })

theorem lineLost_noticed (h : runAbort .lineLoss s.lossNoticed = t) :
    lineLost s = t.onLine (LineUnit.released .loss s.now) := by
  rw [← h]
  rfl

end

/-- Settles O51: the loss is its notice, the run's abort and the release; the abort is the cause taken without an action
(`runAbort_taken`), or nothing (`runAbort_none`, `runAbort_second`). -/
theorem loopCurrentIsWatched : Obligations.LoopCurrentIsWatched := by
  intro dt s now l lost notice timeUp
  have hdue : timeUp ↔ s.line.state = .seized ∧ due s.line.loopTimer (s.now + dt) = true :=
    and_congr_right fun _ => due_iff.symm
  have hloss (ht : timeUp) : exec (.lineLoss dt) s = .next (lineLost (advance dt s)) := by
    rw [exec_lineLoss, if_pos (hdue.1 ht)]
  refine ⟨?_, rfl, fun ht hr => ?_, fun ht r o hr ho habort hrun => ?_, fun ht r hr habort => ?_, fun ht => ?_⟩
  · rw [exec_loopCurrentLost]
    split <;> rfl
  · rw [hloss ht, lineLost_noticed (runAbort_none (s := (advance dt s).lossNoticed) hr _)]
    rfl
  · intro recalled
    have hacts : AbortCause.actsIn .lineLoss o.state = true := by
      simp only [List.mem_cons, List.not_mem_nil, or_false] at hrun
      rcases hrun with h | h | h | h | h <;> rw [h] <;> rfl
    have htaken := runAbort_taken (s := (advance dt s).lossNoticed) (a := .none) hr ho habort hacts rfl
    have hrecalled : recalled ↔ (r.scanStarted = true ∧ r.scanComplete = false) ∧ s.carriage.state = .advancing :=
      and_assoc.symm
    refine ⟨_, (hloss ht).trans (congrArg Host.Outcome.next (lineLost_noticed htaken)), rfl, rfl,
      congrArg some ((RunRecord.recalled_when _).trans ?_), (Carriage.recalled_when _).trans ?_, rfl, rfl, rfl, rfl, rfl, rfl,
      rfl, rfl⟩
    · simp only [hrecalled]
      rfl
    · simp only [hrecalled]
      rfl
  · rw [hloss ht, lineLost_noticed (runAbort_second (s := (advance dt s).lossNoticed) hr habort nofun)]
    rfl
  · rw [exec_lineLoss, if_neg (mt hdue.2 ht)]
    rfl

end Sys2Proof.Machine
end

section
/-! PROOF. The index pulse in a turning state while a picture is scanned (R41, R58, R150, R161): what the drum and the run
take of it beside the scan. -/

namespace Sys2Proof.Machine

section
variable {s : State} {r : RunRecord} {o : Order} {P x : Nat}

/-! ## The drum's report to a run under way -/

/-- Past PREPARING a drum report makes no START (R58, R155). -/
theorem drumReportToRun_underWay (hr : s.run = some r) (ho : s.findOrder r.order = some o) (hs : o.state ≠ .preparing) :
    ∃ b, drumReportToRun s = { s with run := some { r with drumReady := b } } := by
  let b := s.drum.state == .locked && s.drum.target == r.speed
  let u : State := { s with run := some { r with drumReady := b } }
  have hu : s.onRun (fun r => { r with drumReady := s.drum.state == .locked && s.drum.target == r.speed }) = u :=
    onRun_some hr _
  have hfind : u.findOrder r.order = some o := ho
  refine ⟨b, ?_⟩
  rw [drumReportToRun, hu]
  simp [examineStart, u, hfind, startConditions, hs]

/-- A measured revolution: the drum after the loop step and the lock test, and the reports of a change of state. -/
theorem regulate_eq (P : Nat) (s : State) : regulate P s =
    if (s.turnedDrum P).state = s.drum.state then { s with drum := s.turnedDrum P, link := s.clipLink P }
    else drumChanged { s with drum := s.turnedDrum P, link := s.clipLink P } := by
  have hloop : regulate P s =
      (let u := (s.looped P).onDrum (Drum.lockTest (withinWindow s.settings P s.drum.target))
        if u.drum.state = (s.looped P).drum.state then u else drumChanged u) := rfl
  rw [hloop, looped_clipLink]
  rfl

section
variable (hr : s.run = some r) (ho : s.findOrder r.order = some o) (hs : o.state ≠ .preparing) (hc : s.cal = none)
include hr ho hs hc

theorem regulate_underWay (P : Nat) : ∃ d l b, regulate P s =
    { s with drum := d, link := l, run := some { r with drumReady := b } } ∧ d.period = s.drum.period := by
  obtain ⟨-, -, hperiod, -⟩ := (s.loopDrum P).lockTest_keeps (withinWindow s.settings P s.drum.target)
  rw [regulate_eq]
  split
  · exact ⟨s.turnedDrum P, s.clipLink P, r.drumReady, by rw [← hr], hperiod⟩
  · let u := drumEvent .state { s with drum := s.turnedDrum P, link := s.clipLink P }
    obtain ⟨b, hb⟩ := drumReportToRun_underWay (s := u) (r := r) hr ho hs
    refine ⟨s.turnedDrum P, u.link, b, ?_, hperiod⟩
    rw [drumChanged, reportDrum, hb]
    exact drumReportToCal_none hc

theorem regulated_underWay : ∃ d l b, s.regulated =
    { s with drum := d, link := l, run := some { r with drumReady := b }, encoder := ⟨0, true⟩ } ∧
      d.period = s.measured.drum.period := by
  unfold State.regulated
  cases hp : s.measured.drum.period with
  | none => exact ⟨s.measured.drum, s.link, r.drumReady, by rw [← hr]; rfl, hp⟩
  | some P =>
    obtain ⟨d, l, b, he, hd⟩ := regulate_underWay (s := s.measured) hr ho hs hc P
    exact ⟨d, l, b, he, hd.trans hp⟩

/-- In a turning state without a calibration run the pulse is the revolution report of the regulated drum (R41, R58). -/
theorem indexPulse_underWay (ht : s.drum.state.isTurning = true) : ∃ d l b, indexPulse x s =
    revolutionReport (d.period.isSome && d.state == .locked) x
      { s with drum := d, link := l, run := some { r with drumReady := b }, encoder := ⟨0, true⟩ } := by
  obtain ⟨d, l, b, he, hd⟩ := regulated_underWay hr ho hs hc
  have hpulse : indexPulse x s =
      revolutionReport (s.measured.drum.period.isSome && s.regulated.drum.state == .locked) x s.regulated := by
    unfold indexPulse
    rcases DrumState.isTurning_iff.1 ht with h | h | h <;>
      simp only [h, hc, Option.map_none, Option.getD_none, Bool.false_eq_true, if_false] <;> rfl
  exact ⟨d, l, b, by rw [hpulse, he, hd]⟩

end

/-- Fewer than seven revolutions of drift: the report changes the drift run alone (R161). -/
theorem revolutionToRun_counts (hr : s.run = some r) (h : r.drift < 7) (locked : Bool) :
    ∃ n, revolutionToRun locked s = { s with run := some { r with drift := n } } := by
  have hsame : s = { s with run := some { r with drift := r.drift } } := by rw [← hr]
  unfold revolutionToRun
  simp only [hr]
  split
  · exact ⟨r.drift, hsame⟩
  · split
    · have hn : ¬8 ≤ if locked = true then 0 else satSucc 8 r.drift := by
        unfold satSucc
        split_ifs <;> omega
      rw [if_neg hn]
      exact ⟨_, onRun_some hr _⟩
    · exact ⟨r.drift, hsame⟩

end

end Sys2Proof.Machine
end

section
/-! PROOF. A revolution of a scan (R91, R94, R96 to R102, R118, R119, R160): the line it completes, and what becomes of the
line by the store and the low count. -/

namespace Sys2Proof.Machine

section
variable {s v : State} {r : RunRecord} {o : Order} {sc : ScanRecord} {locked : Bool} {x : Nat}

/-! ## The line that a revolution completes -/

/-- A revolution filled up has the samples of a whole line (R94). -/
theorem fillSamples_length (S : Nat) (l : List Nat) : (fillSamples S l).length = S := by
  simp only [fillSamples, List.length_append, List.length_take, List.length_replicate]
  omega

theorem ScanRecord.line_drift (curve : List Nat) : (sc.line curve locked).drift = false ↔
    locked = true ∧ sc.samplesPerLine ≤ sc.samples.length := by
  simp [ScanRecord.line, miscounted]

theorem ScanRecord.line_values (curve : List Nat) : (sc.line curve locked).values =
    List.replicate (sc.samplesPerLine / 16) 4095 ++
      ((fillSamples sc.samplesPerLine sc.samples).drop (sc.samplesPerLine / 16)).map
        (pixel sc.offset sc.gain sc.negative curve) := by
  simp only [ScanRecord.line, lineValues, fillSamples_length]

/-- The white of the revolution that ends (R99). -/
def ScanRecord.white (sc : ScanRecord) : Nat :=
  lineWhite sc.samplesPerLine sc.offset (fillSamples sc.samplesPerLine sc.samples)

/-- The scan record after white tracking and the low count of a completed line (R100, R101). -/
def ScanRecord.completed (sc : ScanRecord) : ScanRecord :=
  { sc.track sc.white with lowCount := lowCountAfter sc.white sc.lowCount }

/-- White tracking changes neither the lines and the pitch nor the revolution. -/
theorem ScanRecord.completed_keeps (sc : ScanRecord) : sc.completed.nextLine = sc.nextLine ∧
    sc.completed.lines = sc.lines ∧ sc.completed.pitch = sc.pitch ∧ sc.completed.inRevolution = sc.inRevolution := by
  unfold ScanRecord.completed ScanRecord.track
  dsimp only
  split_ifs <;> exact ⟨rfl, rfl, rfl, rfl⟩

/-- The record that the next revolution begins with: the sixteenth white makes an average (R100, R102). -/
theorem ScanRecord.completed_sampled (h : sc.trackCount ≤ 15) : { sc.completed with samples := [x] } =
    if sc.tracking = false then { sc with lowCount := lowCountAfter sc.white sc.lowCount, samples := [x] }
    else if sc.trackCount < 15 then
      { sc with
        lowCount := lowCountAfter sc.white sc.lowCount, samples := [x], trackSum := sc.trackSum + sc.white
        trackCount := sc.trackCount + 1 }
    else if 512 ≤ halfUp (sc.trackSum + sc.white) 16 then
      { sc with
        lowCount := lowCountAfter sc.white sc.lowCount, samples := [x], trackSum := 0, trackCount := 0
        gain := gainFor (halfUp (sc.trackSum + sc.white) 16), wRef := halfUp (sc.trackSum + sc.white) 16 }
    else
      { sc with
        lowCount := lowCountAfter sc.white sc.lowCount, samples := [x], trackSum := 0, trackCount := 0 } := by
  unfold ScanRecord.completed ScanRecord.track
  by_cases ht : sc.tracking = true
  · by_cases hc : sc.trackCount < 15
    · have hne : sc.trackCount + 1 ≠ 16 := by omega
      simp [hc, hne, ht]
    · have heq : sc.trackCount + 1 = 16 := by omega
      by_cases ha : 512 ≤ halfUp (sc.trackSum + sc.white) 16
      · simp [hc, heq, ha, ht]
      · simp [hc, heq, ha, ht]
  · simp [ht]

theorem completeLine_eq : completeLine locked sc s =
    if lowCountAfter sc.white sc.lowCount = 4 then lampFault { s with scan := some sc.completed }
    else offerLine (sc.line s.curve locked) sc.completed { s with scan := some sc.completed } := rfl

/-! ## The carriage -/

/-- The carriage as a line advance leaves it (R91). -/
def Carriage.advanced (pitch now : Nat) (c : Carriage) : Carriage :=
  if c.state = .home ∨ c.state = .advancing then c.advanceTo (c.position.getD 0 + pitch) now else c

theorem advanceByPitch_eq (hr : s.run = some r) (pitch : Nat) : ∃ b, advanceByPitch pitch s =
    { s with carriage := s.carriage.advanced pitch s.now, run := some { r with carriageReady := b } } := by
  unfold advanceByPitch Carriage.advanced
  split
  · exact ⟨_, onRun_some (s := s.onCarriage _) hr _⟩
  · exact ⟨r.carriageReady, by rw [← hr]⟩

/-- A pitch of 2 or more begins with its first step (R89, R91). -/
theorem Carriage.advanced_steps {pitch now q : Nat} {c : Carriage} (h : c.state = .home ∨ c.state = .advancing)
    (hq : c.position = some q) (hp : 2 ≤ pitch) : c.advanced pitch now =
      { c with
        state := .advancing, position := some (q + 1), target := some (q + pitch), stepAt := some (now + 2500)
        homeClosed := false } := by
  have hne : pitch ≠ 1 := by omega
  simp [Carriage.advanced, h, hq, Carriage.advanceTo, Carriage.stepOut, hne, stepTime]

/-! ## What becomes of the line -/

theorem offerAnswer_accepted {st : Store} (ho : st.isOpen = true) (h : st.slots.length < 8) :
    st.offerAnswer = .accepted := by simp [Store.offerAnswer, ho, h]

theorem offerAnswer_full {st : Store} (ho : st.isOpen = true) (h : 8 ≤ st.slots.length) : st.offerAnswer = .full := by
  simp [Store.offerAnswer, ho, h]

/-- A store with a line joined (R118). -/
def Store.joined (l : PictureLine) (st : Store) : Store := { st with slots := st.slots ++ [l] }

theorem Store.offer_joined {l : PictureLine} {st : Store} (h : st.offerAnswer = .accepted) : st.offer l = st.joined l :=
  if_pos h

/-- One rescan more (R119, R160). -/
def Order.rescanned (o : Order) : Order :=
  { o with counts := { o.counts with rescans := satSucc 65535 o.counts.rescans } }

section
variable (hlow : lowCountAfter sc.white sc.lowCount ≠ 4)
include hlow

theorem completeLine_last (hr : s.run = some r) (ha : s.store.offerAnswer = .accepted) (hl : sc.nextLine = sc.lines) :
    completeLine locked sc s =
      { s with
        store := s.store.joined (sc.line s.curve locked), scan := none, carriage := s.carriage.recalled s.now
        run := some { r.recalled s.carriage with scanComplete := true } } := by
  obtain ⟨-, hlines, -⟩ := sc.completed_keeps
  have hlast : (sc.line s.curve locked).number = sc.completed.lines := hl.trans hlines.symm
  let u : State := { s with scan := some sc.completed, store := s.store.joined (sc.line s.curve locked) }
  have hoffer : completeLine locked sc s = scanDone u := by
    rw [completeLine_eq, if_neg hlow]
    simp only [offerLine, ha, if_pos hlast, State.onStore, Store.offer_joined ha, u]
  rw [hoffer, scanDone, stopScan_eq (s := u) hr]
  rfl

theorem completeLine_below (hr : s.run = some r) (ha : s.store.offerAnswer = .accepted) (hl : sc.nextLine ≠ sc.lines) :
    ∃ b, completeLine locked sc s =
      { s with
        store := s.store.joined (sc.line s.curve locked)
        scan := some { sc.completed with nextLine := sc.nextLine + 1 }
        carriage := s.carriage.advanced sc.pitch s.now, run := some { r with carriageReady := b } } := by
  obtain ⟨hnext, hlines, hpitch, -⟩ := sc.completed_keeps
  have hbelow : (sc.line s.curve locked).number ≠ sc.completed.lines := fun e => hl (e.trans hlines)
  let u : State :=
    { s with
      scan := some { sc.completed with nextLine := sc.nextLine + 1 }
      store := s.store.joined (sc.line s.curve locked) }
  have hoffer : completeLine locked sc s = advanceByPitch sc.pitch u := by
    rw [completeLine_eq, if_neg hlow]
    simp only [offerLine, ha, if_neg hbelow, State.onStore, Store.offer_joined ha, lineAccepted, hnext, hpitch, u]
  rw [hoffer]
  exact advanceByPitch_eq (s := u) hr _

theorem completeLine_full (hr : s.run = some r) (ho : s.findOrder r.order = some o) (habort : r.abort = none)
    (ha : s.store.offerAnswer = .full) :
    completeLine locked sc s = updateOrder r.order Order.rescanned { s with scan := some sc.completed } := by
  rw [completeLine_eq, if_neg hlow]
  simp only [offerLine, ha]
  exact withRun_live (s := { s with scan := some sc.completed }) hr ho habort _

end

theorem causeTaken_run (c : AbortCause) (a : LineAction) (s : State) : ∃ b, (s.causeTaken c a r o).run =
    some { r with abort := some c, deferTimer := none, action := a, carriageReady := b } := by
  unfold State.causeTaken
  dsimp only
  split
  · exact ⟨_, rfl⟩
  · exact ⟨r.carriageReady, rfl⟩

theorem causeTaken_noScan (h : s.scan = none) (c : AbortCause) (a : LineAction) :
    (s.causeTaken c a r o).scan = none := by simp [State.causeTaken, h]

/-- The fourth low line: scanning stops, and the run takes LAMP_FAULT; a signal of the picture gives way to the stop tone
(R101, R146, R165). -/
theorem completeLine_lampFault (hlow : lowCountAfter sc.white sc.lowCount = 4) (hr : s.run = some r)
    (ho : s.findOrder r.order = some o) (habort : r.abort = none) (hs : o.state = .phasing ∨ o.state = .sending) :
    ∃ q v, completeLine locked sc s = v ∧ v.run = some q ∧ q.drift = r.drift ∧ q.abort = some .lampFault ∧
      v.scan = none ∧ v.store = Store.closed ∧
      (s.line.state = .seized → s.line.picturing → v.line = s.line.toneOn s.now) := by
  have hacts : AbortCause.actsIn .lampFault o.state = true := by rcases hs with h | h <;> rw [h] <;> rfl
  let q := r.recalled s.carriage
  let u : State := { s with scan := none, carriage := s.carriage.recalled s.now, run := some q }
  have hstop : stopScan { s with scan := some sc.completed } = u := stopScan_eq (s := { s with scan := _ }) hr
  have hfault : completeLine locked sc s = makeLineAction .stopTone (u.causeTaken .lampFault .stopTone q o) := by
    rw [completeLine_eq, if_pos hlow, lampFault, hstop]
    exact runAbort_taken rfl ho habort hacts rfl
  obtain ⟨b, hrun⟩ := causeTaken_run (r := q) (o := o) .lampFault .stopTone u
  have hscan := causeTaken_noScan (s := u) (r := q) (o := o) rfl .lampFault .stopTone
  have hstore : (u.causeTaken .lampFault .stopTone q o).store = Store.closed := rfl
  refine ⟨{ q with abort := some .lampFault, deferTimer := none, action := .stopTone, carriageReady := b }, _, hfault,
    by simpa using hrun, rfl, rfl, by simpa using hscan, by simpa using hstore, fun hseized hp => ?_⟩
  rw [makeLineAction_sounding (s := u.causeTaken .lampFault .stopTone q o) hseized hp]
  rfl

/-! ## The revolution report -/

theorem beginRevolution_noScan (h : s.scan = none) : beginRevolution x s = s := by
  simp [beginRevolution, h]

theorem beginRevolution_scans (h : s.scan = some sc) (hin : sc.inRevolution = true) :
    beginRevolution x s = { s with scan := some { sc with samples := [x] } } := by
  simp [beginRevolution, h, hin]

/-- A scan that has no revolution yet begins one with the lamp READY (R96). -/
theorem revolutionToScan_first (h : s.scan = some sc) (hin : sc.inRevolution = false) : revolutionToScan locked x s =
    { s with
      scan := some (if s.lamp.state = .ready then { sc with inRevolution := true, samples := [x] } else sc) } := by
  by_cases hl : s.lamp.state = .ready
  · simp [revolutionToScan, beginRevolution, h, hin, hl]
  · have hsame : s = { s with scan := some sc } := by rw [← h]
    simpa [revolutionToScan, beginRevolution, h, hin, hl] using hsame

/-- After the scan the run counts the revolution (R161). -/
theorem revolutionReport_eq (hv : revolutionToScan locked x s = v) (hr : v.run = some r) (hd : r.drift < 7) :
    ∃ n, revolutionReport locked x s = { v with run := some { r with drift := n } } := by
  rw [revolutionReport, hv]
  exact revolutionToRun_counts hr hd locked

/-- In a revolution of a scan the line is completed, and the next revolution begins, before the run counts it (R97). -/
theorem revolutionReport_completes {u : State} (h : s.scan = some sc) (hin : sc.inRevolution = true)
    (hu : completeLine locked sc s = u) (hv : beginRevolution x u = v) (hr : v.run = some r) (hd : r.drift < 7) :
    ∃ n, revolutionReport locked x s = { v with run := some { r with drift := n } } := by
  refine revolutionReport_eq ?_ hr hd
  rw [← hv, ← hu]
  simp [revolutionToScan, h, hin]

end

/-- Settles O44: the pulse is the revolution report after the drum (`indexPulse_underWay`); it begins the scan's first
revolution (`revolutionToScan_first`) or completes a line, which joins the store (`completeLine_below`,
`completeLine_last`), finds it full (`completeLine_full`) or is the fourth low one (`completeLine_lampFault`). -/
theorem revolutionsScanLines : Obligations.RevolutionsScanLines := by
  intro dt p s sc r o ht hcal hsc hr ho habort hdrift hstate _ _ _ hpitch
  have hturn : s.drum.state.isTurning = true := DrumState.isTurning_iff.2 ht
  have hprep : o.state ≠ .preparing := by rcases hstate with h | h <;> rw [h] <;> nofun
  obtain ⟨d, l, b, hpulse⟩ :=
    indexPulse_underWay (s := advance dt s) (x := p.toNat) hr ho hprep hcal hturn
  let locked := d.period.isSome && d.state == .locked
  let r1 : RunRecord := { r with drumReady := b }
  let u : State := { advance dt s with drum := d, link := l, run := some r1, encoder := ⟨0, true⟩ }
  have hfind : u.findOrder r1.order = some o := ho
  refine ⟨revolutionReport locked p.toNat u, exec_indexPulse_eq hpulse (selectAfterCal_noCal (by exact hcal)), ?_⟩
  obtain ⟨-, -, -, hsettings, hclock, hdirectory, hpanel, hmotor, hscanPart, hcurve, hnoCal, hlamp, -, hslips⟩ :=
    revolutionReport_keeps locked p.toNat u
  refine ⟨hsettings, hcurve, hscanPart, hmotor, hlamp, hpanel, hslips, hdirectory, hclock, hnoCal.trans hcal,
    fun hin => ?_, fun hin => ?_⟩
  · obtain ⟨n, hn⟩ := revolutionReport_eq (s := u) (locked := locked) (x := p.toNat)
      (revolutionToScan_first hsc hin) rfl hdrift
    rw [hn]
    exact ⟨rfl, rfl, rfl, rfl, rfl⟩
  · intro S raw w low avg tracked
    obtain ⟨-, -, -, hrev⟩ := sc.completed_keeps
    have hscanning : sc.completed.inRevolution = true := hrev.trans hin
    have htracked (h : sc.trackCount ≤ 15) : { sc.completed with samples := [p.toNat] } = tracked :=
      ScanRecord.completed_sampled h
    refine ⟨fun hcount hlow hopen hroom => ?_, fun hcount hlow hopen hfull => ?_, fun hlow => ?_⟩
    · have hacc : u.store.offerAnswer = .accepted := offerAnswer_accepted hopen hroom
      have hflag : (sc.line s.curve locked).drift = false ↔
          d.period.isSome = true ∧ d.state = .locked ∧ S ≤ sc.samples.length := by
        simp [ScanRecord.line_drift, locked, S, and_assoc]
      have hvalues := sc.line_values (locked := locked) s.curve
      by_cases hl : sc.nextLine = sc.lines
      · obtain ⟨n, hn⟩ := revolutionReport_completes (s := u) (x := p.toNat) hsc hin
          (completeLine_last (locked := locked) hlow (s := u) rfl hacc hl) (beginRevolution_noScan rfl) rfl hdrift
        rw [hn]
        exact ⟨_, rfl, rfl, hflag, decide_eq_true_iff, decide_eq_true_iff, hvalues, rfl, rfl, fun h => absurd hl h,
          fun _ => ⟨rfl, ⟨_, rfl, rfl⟩, fun ha => if_pos ha⟩⟩
      · obtain ⟨c, hc⟩ := completeLine_below (locked := locked) hlow (s := u) rfl hacc hl
        obtain ⟨n, hn⟩ := revolutionReport_completes (s := u) (x := p.toNat) hsc hin hc
          (beginRevolution_scans rfl hscanning) rfl hdrift
        rw [hn]
        refine ⟨_, rfl, rfl, hflag, decide_eq_true_iff, decide_eq_true_iff, hvalues, rfl, rfl, fun _ => ⟨?_, ?_⟩,
          fun h => absurd h hl⟩
        · rw [← htracked hcount]
        · exact fun q hq hpos => Carriage.advanced_steps hq hpos hpitch
    · have hans : u.store.offerAnswer = .full := offerAnswer_full hopen hfull
      obtain ⟨n, hn⟩ := revolutionReport_completes (s := u) (x := p.toNat) hsc hin
        (completeLine_full (locked := locked) hlow (s := u) rfl hfind habort hans)
        (beginRevolution_scans rfl hscanning) rfl hdrift
      rw [hn]
      exact ⟨rfl, rfl, rfl, congrArg some (htracked hcount), rfl⟩
    · obtain ⟨q, v, hv, hrun, hd, hq, hnone, hclosed, htone⟩ :=
        completeLine_lampFault (s := u) (locked := locked) hlow rfl hfind habort hstate
      obtain ⟨n, hn⟩ := revolutionReport_completes (s := u) (x := p.toNat) hsc hin hv
        (beginRevolution_noScan hnone) hrun (hd.trans_lt hdrift)
      rw [hn]
      refine ⟨hnone, hclosed, ⟨_, rfl, hq⟩, fun hs ha hb => ?_⟩
      have hline : v.line = s.line.toneOn (s.now + dt) := htone hs ⟨.inr (.inr ha), hb⟩
      exact hline ▸ ⟨rfl, rfl, rfl⟩

end Sys2Proof.Machine
end

section
/-! PROOF. The picture arithmetic stays in range (R64, R105, R107, R108): the rounding of the gain, the floor quotient of
a curve segment, and the identity curve. -/

namespace Sys2Proof.Machine

/-! ## Normalisation -/

section
variable {w : Nat} (hlo : 512 ≤ w)
include hlo

/-- Rounded half up, `w · gainFor w` misses the full scale 4,095 · 4,096 by half of `w` at most (R64). -/
theorem mul_gainFor_near : 16773120 ≤ w * gainFor w + w / 2 ∧ w * gainFor w ≤ 16773120 + w / 2 := by
  have hbelow : w * gainFor w ≤ 16773120 + w / 2 := Nat.mul_div_le _ w
  have habove : 16773120 + w / 2 < w * gainFor w + w := Nat.lt_mul_div_succ _ (by omega)
  omega

theorem gainFor_le : gainFor w ≤ 32760 := by
  have hmul : w * gainFor w ≤ 16773120 + w / 2 := (mul_gainFor_near hlo).2
  by_contra hgt
  have : w * 32761 ≤ w * gainFor w := Nat.mul_le_mul_left w (by omega)
  omega

variable (hhi : w ≤ 4095)
include hhi

theorem le_gainFor : 4096 ≤ gainFor w :=
  (Nat.le_div_iff_mul_le (by omega)).2 (by omega)

/-- The white itself comes to full scale without the clamp (R105). -/
theorem white_normalises : (w * gainFor w + 2048) / 4096 = 4095 := by
  have := mul_gainFor_near hlo
  omega

/-- The white and every lighter sample are normalised to full scale (R105). -/
theorem normalise_of_white_le {c : Nat} (hc : w ≤ c) : normalise c (gainFor w) = 4095 := by
  have hwhite := white_normalises hlo hhi
  have hmul : w * gainFor w ≤ c * gainFor w := Nat.mul_le_mul_right _ hc
  exact Nat.min_eq_right (by omega)

end

/-! ## The tone curve -/

/-- The quotient of R107 for a step `d` of the curve, `f` 256ths of the segment along. -/
def segmentRise (d : Int) (f : Nat) : Int := floorDiv (d * f + 128) 256

/-- The quotient is the floor (R108). -/
theorem segmentRise_floor (d : Int) (f : Nat) :
    256 * segmentRise d f ≤ d * f + 128 ∧ d * f + 128 < 256 * (segmentRise d f + 1) := by
  have hdiv : segmentRise d f = (d * f + 128) / 256 := Int.fdiv_eq_ediv_of_nonneg _ (by decide)
  omega

theorem segmentRise_zero (d : Int) : segmentRise d 0 = 0 := by simp [segmentRise, floorDiv]

section
variable {d : Int} {f : Nat} (hf : f < 256)
include hf

theorem segmentRise_of_nonneg (hd : 0 ≤ d) : 0 ≤ segmentRise d f ∧ segmentRise d f ≤ d := by
  have hfloor := segmentRise_floor d f
  have hzero : 0 ≤ d * f := Int.mul_nonneg hd (by omega)
  have hmost : d * f ≤ d * 255 := Int.mul_le_mul_of_nonneg_left (by omega) hd
  omega

theorem segmentRise_of_nonpos (hd : d ≤ 0) : d ≤ segmentRise d f ∧ segmentRise d f ≤ 0 := by
  have hfloor := segmentRise_floor d f
  have hzero : d * f ≤ 0 := Int.mul_nonpos_of_nonpos_of_nonneg hd (by omega)
  have hleast : d * 255 ≤ d * f := Int.mul_le_mul_of_nonpos_left hd (by omega)
  omega

/-- The rise from a knot leads to a value between it and the next one (R108). -/
theorem add_segmentRise_between (a b : Nat) :
    min (a : Int) b ≤ a + segmentRise (b - a) f ∧ a + segmentRise (b - a) f ≤ max (a : Int) b := by
  have hnonneg := segmentRise_of_nonneg (d := (b : Int) - a) hf
  have hnonpos := segmentRise_of_nonpos (d := (b : Int) - a) hf
  omega

end

section
variable (t : List Nat) (n : Nat)

/-- The sum of the lower knot and the quotient is not negative, so the model's `toNat` changes nothing (R107). -/
theorem curveValue_eq : (curveValue t n : Int) =
    t.getD (n / 256) 0 + segmentRise ((t.getD (n / 256 + 1) 0 : Int) - t.getD (n / 256) 0) (n - 256 * (n / 256)) :=
  Int.toNat_of_nonneg <| le_trans (by positivity)
    (add_segmentRise_between (show n - 256 * (n / 256) < 256 by omega) (t.getD (n / 256) 0) (t.getD (n / 256 + 1) 0)).1

/-- The curve value lies between the knots of its segment (R108). -/
theorem curveValue_between : min (t.getD (n / 256) 0) (t.getD (n / 256 + 1) 0) ≤ curveValue t n ∧
    curveValue t n ≤ max (t.getD (n / 256) 0) (t.getD (n / 256 + 1) 0) := by
  have hbetween := add_segmentRise_between (show n - 256 * (n / 256) < 256 by omega) (t.getD (n / 256) 0)
    (t.getD (n / 256 + 1) 0)
  rw [← curveValue_eq] at hbetween
  omega

end

theorem getD_le_of_forall_le {t : List Nat} {b : Nat} (h : ∀ x ∈ t, x ≤ b) (k : Nat) : t.getD k 0 ≤ b := by
  rw [List.getD_eq_getElem?_getD]
  cases hk : t[k]? with
  | none => exact Nat.zero_le b
  | some x => exact h x (List.mem_of_getElem? hk)

theorem curveValue_le {t : List Nat} {b : Nat} (h : ∀ x ∈ t, x ≤ b) (n : Nat) : curveValue t n ≤ b :=
  (curveValue_between t n).2.trans (max_le (getD_le_of_forall_le h _) (getD_le_of_forall_le h _))

/-! ## The identity curve -/

/-- The knots of the curve after reset: t[k] = 256 · k, but 4,095 for the last (R61). -/
theorem reset_curve_knot : ∀ k ≤ 16, State.reset.curve.getD k 0 = min (256 * k) 4095 := by decide

/-- In the last segment the step is 255, one short of the others, so that the rounding drops one past the middle. -/
theorem curveValue_reset {n : Nat} (hn : n ≤ 4095) : curveValue State.reset.curve n = if n ≤ 3968 then n else n - 1 := by
  have hv := curveValue_eq State.reset.curve n
  rw [reset_curve_knot _ (by omega), reset_curve_knot _ (by omega)] at hv
  rcases Nat.lt_or_eq_of_le (show n / 256 ≤ 15 by omega) with hk | hk
  · have hd : ((min (256 * (n / 256 + 1)) 4095 : Nat) : Int) - (min (256 * (n / 256)) 4095 : Nat) = 256 := by omega
    rw [hd] at hv
    have := segmentRise_floor 256 (n - 256 * (n / 256))
    split_ifs <;> omega
  · rw [hk] at hv
    have hfloor := segmentRise_floor 255 (n - 3840)
    change (curveValue State.reset.curve n : Int) = 3840 + segmentRise 255 (n - 3840) at hv
    split_ifs <;> omega

/-- Settles O54: the gain's rounding error is within half of the white (`mul_gainFor_near`), and a curve segment rises
by a floor between 0 and its step (`segmentRise_of_nonneg`, `segmentRise_of_nonpos`). -/
theorem pictureArithmeticStaysInRange : Obligations.PictureArithmeticStaysInRange := by
  refine ⟨fun c g => ⟨rfl, fun hc hg => Nat.mul_le_mul hc hg⟩, fun w hlo hhi => ?_, fun t n _ ht _ => ?_,
    fun n => ⟨fun hn => ?_, fun hlo hhi => ?_⟩⟩
  · intro g
    have hnear := mul_gainFor_near hlo
    exact ⟨le_gainFor hlo hhi, gainFor_le hlo, hnear.1, hnear.2, white_normalises hlo hhi,
      normalise_of_white_le hlo hhi le_rfl, fun c => ⟨fun hc => normalise_of_white_le hlo hhi hc.le, by omega⟩⟩
  · intro k f a b d q v
    have hf : f < 256 := by omega
    have hfloor := segmentRise_floor d f
    have hbetween := curveValue_between t n
    have heq : (v : Int) = a + q := curveValue_eq t n
    refine ⟨heq, hfloor.1, hfloor.2, segmentRise_of_nonneg hf, segmentRise_of_nonpos hf, hbetween.1, hbetween.2,
      curveValue_le ht n, fun h0 => ?_⟩
    have hq : q = 0 := by
      change segmentRise d f = 0
      rw [h0, segmentRise_zero]
    omega
  · rw [curveValue_reset (by omega), if_pos hn]
  · rw [curveValue_reset hhi, if_neg (by omega)]

end Sys2Proof.Machine
end

section
/-! PROOF. What each line time sends, and the signal on the line at each moment of it (R110 to R113, R120 to R123, R141 to
R144, R159). -/

namespace Sys2Proof.Machine

/-! ## The signal on the line -/

/-- The position held at `t` is the one whose hold time, `p · T ÷ S` to `(p + 1) · T ÷ S`, holds it; the last position is
held to the end of the line time (R113). -/
theorem positionAt_eq {T S t p : Nat} (hT : 0 < T) (hp : p < S) (hfrom : p * T / S ≤ t)
    (hto : p + 1 < S → t < (p + 1) * T / S) : positionAt T S t = p := by
  have hbegun : p * T < (t + 1) * S := (Nat.div_lt_iff_lt_mul (by omega)).1 (Nat.lt_succ_of_le hfrom)
  have hle : p ≤ ((t + 1) * S - 1) / T := (Nat.le_div_iff_mul_le hT).2 (by omega)
  unfold positionAt
  by_cases hlast : p + 1 < S
  · have hends : (t + 1) * S ≤ (p + 1) * T := (Nat.le_div_iff_mul_le (by omega)).1 (hto hlast)
    have hlt : ((t + 1) * S - 1) / T < p + 1 := (Nat.div_lt_iff_lt_mul hT).2 (by omega)
    omega
  · omega

theorem lineTime_pos {rpm : Nat} (h : rpm = 60 ∨ rpm = 90 ∨ rpm = 120) : 0 < lineTime rpm := by
  rcases h with rfl | rfl | rfl <;> decide

section
variable {s : State} {f : Figures} {x : SentLine} {b : Nat} (hb : s.line.signal = .sounding b)
include hb

theorem lineOutput_startTone (ha : s.line.activity = some .startTone) (hf : s.line.figures = some f) :
    s.lineOutput = carrierOf s.settings f.modulation 4095 := by
  simp only [State.lineOutput, hb, ha, hf]

theorem lineOutput_stopTone (ha : s.line.activity = some .stopTone) : s.lineOutput = .tone 1000 := by
  simp only [State.lineOutput, hb, ha]

theorem lineOutput_sent (ha : s.line.activity = some .phasing ∨ s.line.activity = some .picture)
    (hf : s.line.figures = some f) (hx : s.line.sent = some x) : s.lineOutput = lineSignal s.settings f x s.now := by
  rcases ha with ha | ha <;> simp only [State.lineOutput, hb, ha, hf, hx]

end

theorem lineOutput_burst {s : State} {b : Nat} (hb : s.line.signal = .burst b) : s.lineOutput = .tone 800 := by
  simp only [State.lineOutput, hb]

theorem lineOutput_silent {s : State} (h : s.line.signal = .silent) : s.lineOutput = .silence := by
  simp only [State.lineOutput, h]

/-- A line being sent puts position p's value on the line throughout that position's hold time (R113). -/
theorem lineSignal_at {st : Settings} {f : Figures} {x : SentLine} {now p : Nat} (hT : 0 < lineTime f.speed)
    (hp : p < f.samples) (hfrom : x.start + p * lineTime f.speed / f.samples ≤ now)
    (hto : p + 1 < f.samples → now < x.start + (p + 1) * lineTime f.speed / f.samples) :
    lineSignal st f x now = carrierOf st f.modulation (x.values.getD p 0) := by
  rw [lineSignal, positionAt_eq hT hp (Nat.le_sub_of_add_le' hfrom) fun h =>
    Nat.sub_lt_left_of_lt_add (Nat.le_of_add_right_le hfrom) (hto h)]

section
variable {s : State} {f : Figures} {t : LineTimer}

/-! ## The line timer -/

section
variable {l : LineUnit} (hf : l.figures = some f)
include hf

theorem beginPhasing_eq (now : Nat) : l.beginPhasing now =
    { l with
      activity := some .phasing, signal := .sounding now, timer := some ⟨now, 1⟩
      sent := some ⟨0, .phasing, phasingValues f.samples, now⟩, lineNumber := 0 } := by
  simp [LineUnit.beginPhasing, hf]

theorem lastLineSent_false (h : ∀ x, l.sent = some x → x.kind = .take → x.number ≠ f.lines) :
    l.lastLineSent = false := by
  unfold LineUnit.lastLineSent
  cases hx : l.sent with
  | none => rfl
  | some x => simpa [hf] using h x hx

variable (ht : l.timer = some t)
include ht

theorem boundaryDue_iff {now : Nat} :
    l.boundaryDue now = true ↔ t.start + t.next * halfUp 60000000 f.speed ≤ now := by
  simp only [LineUnit.boundaryDue, ht, hf, decide_eq_true_iff]
  rfl

theorem sendLine_eq (n : Nat) (k : SentKind) (v : List Nat) : l.sendLine n k v =
    { l with
      timer := some ⟨t.start, t.next + 1⟩
      sent := some ⟨n, k, v, t.start + t.next * halfUp 60000000 f.speed⟩, lineNumber := n } := by
  simp only [LineUnit.sendLine, ht, hf]
  rfl

end

/-! ## Phasing lines -/

/-- Without a run in PHASING, or at another line than P − 2, a phasing line asks for nothing (R159). -/
theorem phasingLineReport_other {n : Nat}
    (h : ∀ r o, s.run = some r → s.findOrder r.order = some o → r.abort = none → o.state = .phasing →
      n + 2 ≠ r.phasing) : phasingLineReport n s = s := by
  unfold phasingLineReport withRun
  split
  · rfl
  · next r hr =>
    split
    · rfl
    · next o ho =>
      split
      · rfl
      · next ha => exact if_neg fun ⟨hs, hn⟩ => h r o hr ho (by simpa using ha) hs hn

theorem phasingBoundary_below (h : t.next < f.phasing) : phasingBoundary t f s =
    phasingLineReport (t.next + 1) (s.onLine (LineUnit.sendLine 0 .phasing (phasingValues f.samples))) := if_pos h

theorem phasingBoundary_last (h : f.phasing ≤ t.next) : phasingBoundary t f s =
    pictureLine f.samples ((phasingEndedReport s).onLine fun l => { l with activity := some .picture }) :=
  if_neg (Nat.not_lt.2 h)

theorem pictureBoundary_goesOn (h : s.line.lastLineSent = false) : pictureBoundary f s = pictureLine f.samples s :=
  if_neg (by simp [h])

section
variable {r : RunRecord} {o : Order} (hr : s.run = some r) (ho : s.findOrder r.order = some o) (ha : r.abort = none)
  (hs : o.state = .phasing)
include hr ho ha hs

theorem phasingLineReport_scan {n : Nat} (hn : n + 2 = r.phasing) : phasingLineReport n s =
    { s with run := some { r with scanStarted := true }, scan := some (scanRecordFor r o s) } := by
  rw [phasingLineReport, withRun_live hr ho ha, if_pos ⟨hs, hn⟩, onRun_some hr]

theorem phasingEndedReport_phasing : phasingEndedReport s =
    placeNotice (.order o.number o.header.hostRef (.entered .sending) none)
      (updateOrder r.order (fun y => { y with state := .sending }) s) := by
  rw [phasingEndedReport, withRun_live hr ho ha, if_pos hs, enterState_some ho]
  rfl

end

/-! ## The store's answers -/

theorem readAnswer_closed (h : s.store.isOpen = false) : s.store.readAnswer = .closed := by
  simp [Store.readAnswer, h]

section
variable (hopen : s.store.isOpen = true)
include hopen

theorem readAnswer_take {x : PictureLine} {xs : List PictureLine} (h : s.store.slots = x :: xs) :
    s.store.readAnswer = .take x := by
  simp [Store.readAnswer, hopen, h]

theorem readAnswer_repeated {x : PictureLine} (h : s.store.slots = []) (hl : s.store.lastOut = some x) :
    s.store.readAnswer = .repeated x := by
  simp [Store.readAnswer, hopen, h, hl]

theorem readAnswer_extra (h : s.store.slots = []) (hl : s.store.lastOut = none) : s.store.readAnswer = .extra := by
  simp [Store.readAnswer, hopen, h, hl]

end

theorem pictureLine_closed {S : Nat} (h : s.store.readAnswer = .closed) :
    pictureLine S s = s.onLine (LineUnit.sendLine 0 .closed (List.replicate S 4095)) := by
  simp only [pictureLine, readStore, h]
  rfl

/-- The order with a store's answer counted (R120 to R122). -/
def Order.counted (a : ReadAnswer) (o : Order) : Order := { o with counts := o.counts.afterRead a }

/-- An open store's answer is sent, counted in the run's order, and followed by the trim of the fill it leaves (R120 to
R123). -/
theorem pictureLine_open {S : Nat} {a : ReadAnswer} {r : RunRecord} (hr : s.run = some r) (ha : s.store.readAnswer = a)
    (hopen : s.store.isOpen = true) : pictureLine S s =
      { updateOrder r.order (Order.counted a) s with
        line := s.line.sendLine (lineFor S a).1 (lineFor S a).2.1 (lineFor S a).2.2
        store := s.store.afterRead
        drum := { s.drum with trim := trimForFill s.store.afterRead.slots.length } } := by
  cases a with
  | closed =>
    simp only [Store.readAnswer, hopen, if_true] at ha
    split at ha <;> cases ha
  | _ =>
    simp only [pictureLine, readStore, ha, hr]
    rfl

/-- The oldest line leaves the store (R120). -/
theorem pictureLine_take {S : Nat} {r : RunRecord} {x : PictureLine} {xs : List PictureLine} (hr : s.run = some r)
    (hopen : s.store.isOpen = true) (hx : s.store.slots = x :: xs) : pictureLine S s =
      { updateOrder r.order (Order.counted (.take x)) s with
        line := s.line.sendLine x.number .take x.values
        store := { s.store with slots := xs, lastOut := some x }
        drum := { s.drum with trim := trimForFill xs.length } } := by
  have hans : s.store.readAnswer = .take x := readAnswer_take hopen hx
  have hafter : s.store.afterRead = { s.store with slots := xs, lastOut := some x } := by
    simp [Store.afterRead, hans, hx]
  rw [pictureLine_open hr hans hopen, hafter]
  rfl

/-- Nothing leaves an empty store (R121, R122). -/
theorem afterRead_empty {st : Store} (h : st.slots = []) : st.afterRead = st := by
  unfold Store.afterRead Store.readAnswer
  rw [h]
  cases st.isOpen <;> cases st.lastOut <;> rfl

/-- An empty store stays as it is and asks for FASTER (R121 to R123). -/
theorem pictureLine_empty {S : Nat} {a : ReadAnswer} {r : RunRecord} (hr : s.run = some r)
    (ha : s.store.readAnswer = a) (hopen : s.store.isOpen = true) (hempty : s.store.slots = []) : pictureLine S s =
      { updateOrder r.order (Order.counted a) s with
        line := s.line.sendLine (lineFor S a).1 (lineFor S a).2.1 (lineFor S a).2.2
        drum := { s.drum with trim := .faster } } := by
  rw [pictureLine_open hr ha hopen, afterRead_empty hempty, hempty]
  rfl

/-- A line counts as flagged with any of its three flags (R160). -/
theorem counted_take (x : PictureLine) : Order.counted (.take x) = fun o =>
    { o with
      counts :=
        { o.counts with
          sent := satSucc 65535 o.counts.sent
          flagged := if x.drift ∨ x.unsteady ∨ x.weak then satSucc 65535 o.counts.flagged else o.counts.flagged } } := by
  funext o
  simp [Order.counted, Counts.afterRead, PictureLine.flagged, or_assoc]

/-! ## PICTURE begins -/

/-- The ORDER_EVENT of an order that has entered SENDING, and the line unit's PICTURE (R142, R159). -/
def State.pictureBegun (o : Order) (s : State) : State :=
  (placeNotice (.order o.number o.header.hostRef (.entered .sending) none) s).onLine fun l =>
    { l with activity := some .picture }

theorem updateOrder_pictureBegun (n : Nat) (g : Order → Order) (o : Order) :
    updateOrder n g (s.pictureBegun o) = (updateOrder n g s).pictureBegun o := rfl

theorem phasingBoundary_begins {r : RunRecord} {o : Order} (hlast : f.phasing ≤ t.next) (hr : s.run = some r)
    (ho : s.findOrder r.order = some o) (ha : r.abort = none) (hs : o.state = .phasing) : phasingBoundary t f s =
      pictureLine f.samples ((updateOrder r.order (fun y => { y with state := .sending }) s).pictureBegun o) := by
  rw [phasingBoundary_last hlast, phasingEndedReport_phasing hr ho ha hs]
  rfl

/-! ## The commands -/

theorem execLineBoundary_eq (dt : Nat) (hf : s.line.figures = some f) (ht : s.line.timer = some t) :
    exec (.lineBoundary dt) s = .next
      (if t.start + t.next * halfUp 60000000 f.speed ≤ s.now + dt then lineBoundary (advance dt s)
      else advance dt s) := by
  change Host.Outcome.next (if s.line.boundaryDue (s.now + dt) then _ else _) = _
  simp only [boundaryDue_iff hf ht]

theorem lineBoundary_phasing (hf : s.line.figures = some f) (ht : s.line.timer = some t)
    (ha : s.line.activity = some .phasing) : lineBoundary s = phasingBoundary t f s := by
  simp only [lineBoundary, ht, hf, ha]

/-- START_TONE_END acts when the start tone has lasted 3 s. -/
theorem execStartToneEnd_due {b dt : Nat} (ha : s.line.activity = some .startTone) (hb : s.line.signal = .sounding b)
    (hdue : b + 3000000 ≤ s.now + dt) : exec (.startToneEnd dt) s = .next
      (phasingLineReport 1 ((advance dt s).onLine (LineUnit.beginPhasing (s.now + dt)))) :=
  congrArg Host.Outcome.next (if_pos ((soundedFor_iff (t := sec 3) (now := s.now + dt) ha hb).2 hdue))

end

/-- Settles O49: a phasing line's report does nothing (`phasingLineReport_other`) or sets up the scan
(`phasingLineReport_scan`), a picture line is the store's answer (`pictureLine_closed`, `pictureLine_take`,
`pictureLine_empty`), and the signal of a line is the value of the position held (`lineSignal_at`). -/
theorem lineTimesAreSent : Obligations.LineTimesAreSent := by
  intro dt s f hf now l map carried pulse
  refine ⟨fun b ha hb hdue hrun => ?_, fun t ht => ?_,
    fun b hb => ⟨fun ha => ?_, fun ha => ?_, fun ha x hx hspeed => ?_⟩,
    fun b hb => lineOutput_burst hb, fun h => lineOutput_silent h⟩
  · rw [execStartToneEnd_due ha hb hdue,
      phasingLineReport_other (s := (advance dt s).onLine _) fun r o hr _ _ _ h3 => hrun r hr h3.symm]
    exact congrArg (fun x => Host.Outcome.next { advance dt s with line := x }) (beginPhasing_eq hf _)
  · intro b sends
    have hexec := execLineBoundary_eq dt hf ht
    have hsends (n : Nat) (k : SentKind) (v : List Nat) : l.sendLine n k v = sends n k v := sendLine_eq hf ht n k v
    refine ⟨fun hearly => ?_, fun hdue ha hbelow => ?_, fun hdue ha hlast r o x xs hr ho habort hs hopen hx => ?_,
      fun hdue ha hnot => ?_⟩
    · rw [hexec, if_neg (Nat.not_le.2 hearly)]
      rfl
    · rw [hexec, if_pos hdue, lineBoundary_phasing (s := advance dt s) hf ht ha, phasingBoundary_below hbelow, ← hsends]
      refine ⟨fun hother => ?_, fun r o hr ho habort hs hn => ?_⟩
      · rw [phasingLineReport_other (s := (advance dt s).onLine _) hother]
        rfl
      · rw [phasingLineReport_scan (s := (advance dt s).onLine _) hr ho habort hs hn]
        rfl
    · have hline : { l with activity := some .picture }.sendLine x.number .take x.values =
          { sends x.number .take x.values with activity := some .picture } :=
        sendLine_eq (l := { l with activity := some .picture }) hf ht x.number .take x.values
      rw [hexec, if_pos hdue, lineBoundary_phasing (s := advance dt s) hf ht ha,
        phasingBoundary_begins (s := advance dt s) hlast hr ho habort hs,
        pictureLine_take (s := (updateOrder r.order _ (advance dt s)).pictureBegun o) hr hopen hx,
        updateOrder_pictureBegun, updateOrder_updateOrder, ← hline]
      · rfl
      · exact fun _ => rfl
    · rw [hexec, if_pos hdue, lineBoundary_picture (s := advance dt s) ht hf ha,
        pictureBoundary_goesOn (s := advance dt s) (lastLineSent_false hf hnot)]
      refine ⟨fun hclosed => ?_, fun r hopen hr => ?_⟩
      · rw [pictureLine_closed (s := advance dt s) (readAnswer_closed hclosed), ← hsends]
        rfl
      · intro up counted
        refine ⟨fun x xs hx => ?_, fun x hx hlast => ?_, fun hx hlast => ?_⟩
        · rw [pictureLine_take (s := advance dt s) hr hopen hx, counted_take, ← hsends]
          rfl
        · rw [pictureLine_empty (s := advance dt s) hr (readAnswer_repeated hopen hx hlast) hopen hx, ← hsends]
          rfl
        · rw [pictureLine_empty (s := advance dt s) hr (readAnswer_extra hopen hx hlast) hopen hx, ← hsends]
          rfl
  · exact lineOutput_startTone hb ha hf
  · exact lineOutput_stopTone hb ha
  · intro T p hp hfrom hto
    exact (lineOutput_sent hb ha hf hx).trans (lineSignal_at (lineTime_pos hspeed) hp hfrom hto)

end Sys2Proof.Machine
end

section
/-! PROOF. The line unit's invariant (R128 to R149) at the unit itself: every change of activity, signal and line state keeps
each timer and record in its activity. -/

namespace Sys2Proof.Machine

/-- What the unit holds and sends belongs to activity `a`. -/
structure LineUnit.Belongs (a : Activity) (l : LineUnit) : Prop where
  listen : l.listenFor.isSome = true ↔ a = .listening
  hold : l.holdAt.isSome = true ↔ a = .holding
  timer : l.timer.isSome = true ↔ a = .phasing ∨ a = .picture
  sent : l.sent.isSome = true ↔ a = .phasing ∨ a = .picture
  figures : a = .startTone ∨ a = .phasing ∨ a = .picture → l.figures.isSome = true
  sounding : a = .phasing ∨ a = .picture → ∃ since, l.signal = .sounding since
  burst : ∀ since, l.signal = .burst since → a = .holding ∨ a = .startTone ∨ a = .stopTone
  dialTone : ∀ since, l.signal = .dialTone since → a = .dialing
  heard : ∀ o w r, l.signal = .listen o w r → a = .listening

/-- The clauses of `LineUnit.Inv`, those on an activity gathered for the one that stands. -/
structure LineUnit.Sound (l : LineUnit) : Prop where
  loop : l.loopClosed = true ↔ l.state = .seized
  active : l.activity.isSome = true ↔ l.state = .seized
  still : l.state ≠ .seized → l.signal = .silent ∧ l.loopTimer = none
  clearing : l.releaseAt.isSome = true ↔ l.state = .releasing
  idle : l.state = .idle → l.figures = none ∧ l.network = none ∧ l.lastListenEnd = none
  belongs : ∀ a, l.activity = some a → l.Belongs a
  unused : l.activity = none → l.listenFor = none ∧ l.holdAt = none ∧ l.timer = none ∧ l.sent = none

section
variable {l m : LineUnit} {a : Activity} {now : Nat}

theorem LineUnit.Inv.sound (h : l.Inv) : l.Sound := by
  obtain ⟨loop, active, still, clearing, idle, listen, hold, timer, sent, figures, sounding, burst, dialTone, heard⟩ := h
  refine ⟨loop, active, still, clearing, idle, fun a ha => ?_, fun ha => ?_⟩
  · simp only [ha, Option.some.injEq] at listen hold timer sent figures sounding burst dialTone heard
    exact ⟨listen, hold, timer, sent, figures, sounding, burst, dialTone, heard⟩
  · simpa [ha] using And.intro listen (And.intro hold (And.intro timer sent))

theorem LineUnit.Sound.inv (h : l.Sound) : l.Inv := by
  refine ⟨h.loop, h.active, h.still, h.clearing, h.idle, ?_⟩
  cases ha : l.activity with
  | none =>
    obtain ⟨hlisten, hhold, htimer, hsent⟩ := h.unused ha
    have hsilent : l.signal = .silent := (h.still fun hs => by simpa [ha] using h.active.2 hs).1
    simp [hlisten, hhold, htimer, hsent, hsilent]
  | some a =>
    obtain ⟨listen, hold, timer, sent, figures, sounding, burst, dialTone, heard⟩ := h.belongs a ha
    simp only [Option.some.injEq]
    exact ⟨listen, hold, timer, sent, figures, sounding, burst, dialTone, heard⟩

/-- An activity stands in SEIZED alone. -/
theorem LineUnit.Sound.seized (h : l.Sound) (ha : l.activity = some a) : l.state = .seized := h.active.1 (by simp [ha])

theorem LineUnit.Sound.not_seized (h : l.Sound) (hs : l.state ≠ .seized) : l.activity = none := by
  cases ha : l.activity with
  | none => rfl
  | some a => exact absurd (h.seized ha) hs

/-- In SEIZED one activity, with what belongs to it, may give its place to another. -/
theorem LineUnit.Sound.moves (h : l.Sound) (hs : l.state = .seized) (hm : m.Belongs a) (ha : m.activity = some a)
    (hstate : m.state = l.state) (hloop : m.loopClosed = l.loopClosed) (hat : m.releaseAt = l.releaseAt) : m.Sound where
  loop := by rw [hloop, hstate]; exact h.loop
  active := by simp [ha, hstate, hs]
  still hn := absurd (hstate.trans hs) hn
  clearing := by rw [hat, hstate]; exact h.clearing
  idle hi := by simp [hstate, hs] at hi
  belongs b hb := by rwa [← Option.some.inj (ha.symm.trans hb)]
  unused hn := by simp [ha] at hn

/-- A line unit but for what the invariant does not read, and for the loop-current timer. -/
def LineUnit.core (l : LineUnit) : LineUnit :=
  { l with
    orderNumber := 0, callCode := none, dialDigits := [], loopCurrent := false, loopTimer := none, lastSignalEnd := none
    lineNumber := 0, releaseCause := .request, lastRequest := none }

theorem LineUnit.Belongs.of_core (h : l.Belongs a) (e : m.core = l.core) : m.Belongs a := by
  have hl : m.core.Belongs a := e ▸ ⟨h.listen, h.hold, h.timer, h.sent, h.figures, h.sounding, h.burst, h.dialTone, h.heard⟩
  exact ⟨hl.listen, hl.hold, hl.timer, hl.sent, hl.figures, hl.sounding, hl.burst, hl.dialTone, hl.heard⟩

/-- The loop-current timer runs in SEIZED alone; the rest of the change is not the invariant's. -/
theorem LineUnit.Sound.of_core (h : l.Sound) (e : m.core = l.core) (ht : m.state ≠ .seized → m.loopTimer = none) :
    m.Sound := by
  have hl : m.core.Sound := by
    rw [e]
    exact ⟨h.loop, h.active, fun hs => ⟨(h.still hs).1, rfl⟩, h.clearing, h.idle,
      fun a ha => (h.belongs a ha).of_core rfl, h.unused⟩
  exact ⟨hl.loop, hl.active, fun hs => ⟨(hl.still hs).1, ht hs⟩, hl.clearing, hl.idle,
    fun a ha => (hl.belongs a ha).of_core rfl, hl.unused⟩

/-! ## Signals -/

/-- What is sent or heard has its activity. -/
theorem LineUnit.Sound.exists_activity (h : l.Sound) (hg : l.signal ≠ .silent) : ∃ a, l.activity = some a := by
  cases ha : l.activity with
  | none => exact absurd (h.still fun hs => by simpa [ha] using h.active.2 hs).1 hg
  | some a => exact ⟨a, rfl⟩

theorem LineUnit.Sound.hears (h : l.Sound) {o : Nat} {w : Option Nat} {r : Option (ReplyTone × Nat)}
    (hg : l.signal = .listen o w r) : l.activity = some .listening := by
  obtain ⟨a, ha⟩ := h.exists_activity (by simp [hg])
  rw [ha, (h.belongs a ha).heard o w r hg]

theorem LineUnit.Sound.dials (h : l.Sound) {b : Nat} (hg : l.signal = .dialTone b) : l.activity = some .dialing := by
  obtain ⟨a, ha⟩ := h.exists_activity (by simp [hg])
  rw [ha, (h.belongs a ha).dialTone b hg]

theorem LineUnit.Sound.bursts (h : l.Sound) {b : Nat} (hg : l.signal = .burst b) :
    l.activity = some .holding ∨ l.activity = some .startTone ∨ l.activity = some .stopTone := by
  obtain ⟨a, ha⟩ := h.exists_activity (by simp [hg])
  simpa [ha] using (h.belongs a ha).burst b hg

/-- A signal of its own, or silence, after any guard: what a unit that neither phases nor sends a picture may send. -/
theorem LineUnit.Belongs.sends (h : l.Belongs a) (ha : a ≠ .phasing ∧ a ≠ .picture) {g : Signal}
    (hg : g = .silent ∨ (∃ e, g = .guardWait e) ∨ ∃ b, g = .sounding b) : LineUnit.Belongs a { l with signal := g } where
  listen := h.listen
  hold := h.hold
  timer := h.timer
  sent := h.sent
  figures := h.figures
  sounding hs := absurd hs (by simp [ha])
  burst b hb := by obtain rfl | ⟨e, rfl⟩ | ⟨b, rfl⟩ := hg <;> cases hb
  dialTone b hb := by obtain rfl | ⟨e, rfl⟩ | ⟨b, rfl⟩ := hg <;> cases hb
  heard o w r hb := by obtain rfl | ⟨e, rfl⟩ | ⟨b, rfl⟩ := hg <;> cases hb

theorem LineUnit.Sound.sends (h : l.Sound) (hs : l.activity = some a) (ha : a ≠ .phasing ∧ a ≠ .picture) {g : Signal}
    (hg : g = .silent ∨ (∃ e, g = .guardWait e) ∨ ∃ b, g = .sounding b) : LineUnit.Sound { l with signal := g } :=
  h.moves (h.seized hs) ((h.belongs a hs).sends ha hg) hs rfl rfl rfl

theorem LineUnit.beginSending_sound (h : l.Sound) (hs : l.activity = some a) (ha : a ≠ .phasing ∧ a ≠ .picture) :
    (l.beginSending now).Sound := by
  unfold LineUnit.beginSending
  split
  · split
    · exact h.sends hs ha (.inr (.inl ⟨_, rfl⟩))
    · exact h.sends hs ha (.inr (.inr ⟨_, rfl⟩))
  · exact h.sends hs ha (.inr (.inr ⟨_, rfl⟩))

/-! ## Activities -/

/-- Outside LISTENING, HOLDING, PHASING and PICTURE no listen, hold timer, line timer or line sent stands. -/
theorem LineUnit.Belongs.idleTimers (h : l.Belongs a) (h1 : a ≠ .listening) (h2 : a ≠ .holding) (h3 : a ≠ .phasing)
    (h4 : a ≠ .picture) : l.listenFor = none ∧ l.holdAt = none ∧ l.timer = none ∧ l.sent = none := by
  simpa [h1, h2, h3, h4] using And.intro h.listen (And.intro h.hold (And.intro h.timer h.sent))

/-- The activity that a request brings in QUIET, or in HOLDING and START_TONE when it is START_TONE or STOP_TONE, which
alone may wait for a burst; the signal is still the one before (R129, R140). -/
theorem LineUnit.Belongs.follows {b : Activity} (h : l.Belongs b)
    (hb : b = .quiet ∨ (b = .holding ∨ b = .startTone) ∧ (a = .startTone ∨ a = .stopTone))
    (ha : a ≠ .phasing ∧ a ≠ .picture) (hsignal : m.signal = l.signal) (htimer : m.timer = l.timer) (hsent : m.sent = l.sent)
    (hlisten : m.listenFor.isSome = true ↔ a = .listening) (hhold : m.holdAt.isSome = true ↔ a = .holding)
    (hfigures : a = .startTone → m.figures.isSome = true) : m.Belongs a := by
  have hb1 : b ≠ .phasing ∧ b ≠ .picture ∧ b ≠ .dialing ∧ b ≠ .listening := by
    rcases hb with rfl | ⟨rfl | rfl, -⟩ <;> simp
  refine ⟨hlisten, hhold, ?_, ?_, fun hf => hfigures (by simpa [ha] using hf), fun hs => absurd hs (by simp [ha]), ?_, ?_, ?_⟩
  · simp [htimer, h.timer, hb1, ha]
  · simp [hsent, h.sent, hb1, ha]
  · intro since hg
    rcases hb with rfl | ⟨-, ha⟩
    · simpa using h.burst since (hsignal ▸ hg)
    · exact .inr ha
  · exact fun since hg => absurd (h.dialTone since (hsignal ▸ hg)) hb1.2.2.1
  · exact fun o w r hg => absurd (h.heard o w r (hsignal ▸ hg)) hb1.2.2.2

theorem LineUnit.seized_sound (h : l.Sound) (hs : l.state = .idle) {n : Nat} {net : Network} {code : Nat}
    {ds : List DialSymbol} : (l.seized n net code ds now).Sound := by
  have hn := h.unused (h.not_seized (by simp [hs]))
  have hr : l.releaseAt = none := by simpa [hs] using h.clearing
  have hb : ∀ a, (l.seized n net code ds now).activity = some a → (l.seized n net code ds now).Belongs a := by
    intro a ha
    cases net <;> cases ha <;> constructor <;> simp [LineUnit.seized, hn]
  constructor
  case belongs => exact hb
  all_goals simp [LineUnit.seized, hr]

/-- The release of R131, from whatever stood. -/
theorem LineUnit.released_sound (l : LineUnit) (c : ReleaseCause) : (l.released c now).Sound := by
  constructor <;> simp [LineUnit.released]

theorem LineUnit.idled_sound (h : l.Sound) (hs : l.state = .releasing) : l.idled.Sound := by
  obtain ⟨hlisten, hhold, htimer, hsent⟩ := h.unused (h.not_seized (by simp [hs]))
  have hloop : l.loopClosed = false := by simpa [hs] using h.loop
  have htime := (h.still (by simp [hs])).2
  constructor <;> simp [LineUnit.idled, *]

theorem LineUnit.restart_sound (h : l.Sound) : (l.restart now).Sound := by
  unfold LineUnit.restart
  split
  · exact l.released_sound _
  · exact h.of_core rfl fun hs => (h.still hs).2
  · exact h

theorem LineUnit.endListen_sound (h : l.Sound) (ha : l.activity = some a) (h2 : a ≠ .holding) (h3 : a ≠ .phasing)
    (h4 : a ≠ .picture) : (l.endListen now).Sound := by
  have hb := h.belongs a ha
  refine h.moves (a := .quiet) (h.seized ha) ?_ rfl rfl rfl rfl
  constructor <;> simp [LineUnit.endListen, hb.hold, hb.timer, hb.sent, h2, h3, h4]

theorem LineUnit.listenAfter_sound (h : l.Sound) (ha : l.activity = some a) (h1 : a ≠ .listening) (h2 : a ≠ .holding)
    (h3 : a ≠ .phasing) (h4 : a ≠ .picture) (k : ListenKind) : (l.listenAfter k now).Sound := by
  obtain ⟨-, hhold, htimer, hsent⟩ := (h.belongs a ha).idleTimers h1 h2 h3 h4
  refine h.moves (a := .listening) (h.seized ha) ?_ rfl rfl rfl rfl
  constructor <;> simp [LineUnit.listenAfter, hhold, htimer, hsent]

theorem LineUnit.openListen_sound (h : l.Sound) (ha : l.activity = some .listening) (st : Settings) :
    (l.openListen st now).Sound := by
  have hb := h.belongs _ ha
  refine h.moves (a := .listening) (h.seized ha) ?_ ha rfl rfl rfl
  constructor <;> simp [LineUnit.openListen, hb.listen, hb.hold, hb.timer, hb.sent]

theorem LineUnit.qualify_sound (h : l.Sound) (tone : ReplyTone) : (l.qualify tone now).Sound := by
  unfold LineUnit.qualify
  split
  · split
    · have ha := h.hears ‹_›
      have hb := h.belongs _ ha
      refine h.moves (a := .listening) (h.seized ha) ?_ ha rfl rfl rfl
      constructor <;> simp [hb.listen, hb.hold, hb.timer, hb.sent]
    · exact h
  · exact h

theorem LineUnit.beginBurst_sound (h : l.Sound) (ha : l.activity = some .holding) : (l.beginBurst now).Sound := by
  have hb := h.belongs _ ha
  refine h.moves (a := .holding) (h.seized ha) ?_ ha rfl rfl rfl
  constructor <;> simp [LineUnit.beginBurst, hb.listen, hb.timer, hb.sent]

/-- After a burst HOLDING is silent, and the start tone or the stop tone sounds (R140). -/
theorem LineUnit.endBurst_sound (h : l.Sound) (hover : l.burstOver now = true) : (l.endBurst now).Sound := by
  have ⟨b, hg⟩ : ∃ b, l.signal = .burst b := by
    unfold LineUnit.burstOver at hover
    split at hover
    · exact ⟨_, ‹_›⟩
    · cases hover
  rcases h.bursts hg with ha | ha | ha
  all_goals
    have hb := h.belongs _ ha
    refine h.moves (h.seized ha) ?_ ha rfl rfl rfl
    constructor <;> simp [LineUnit.endBurst, ha, hb.listen, hb.hold, hb.timer, hb.sent, hb.figures]

theorem LineUnit.beginStopTone_sound (h : l.Sound) (ha : l.activity = some a) (h1 : a ≠ .listening) :
    (l.beginStopTone now).Sound := by
  have hb := h.belongs a ha
  refine h.moves (a := .stopTone) (h.seized ha) ?_ rfl rfl rfl rfl
  constructor <;> simp [LineUnit.beginStopTone]
  simpa [h1] using hb.listen

theorem LineUnit.beginPhasing_sound (h : l.Sound) (ha : l.activity = some .startTone) : (l.beginPhasing now).Sound := by
  have hb := h.belongs _ ha
  refine h.moves (a := .phasing) (h.seized ha) ?_ rfl rfl rfl rfl
  constructor <;> simp [LineUnit.beginPhasing, hb.listen, hb.hold, hb.figures]

theorem LineUnit.sendLine_sound (h : l.Sound) (n : Nat) (k : SentKind) (v : List Nat) : (l.sendLine n k v).Sound := by
  unfold LineUnit.sendLine
  split
  · rename_i t f ht hf
    cases ha : l.activity with
    | none => simp [h.unused ha] at ht
    | some a =>
      have hb := h.belongs a ha
      have hs := hb.timer.1 (by simp [ht])
      exact h.moves (h.seized ha) { hb with timer := by simp [hs], sent := by simp [hs] } rfl rfl rfl rfl
  · exact h

/-- At boundary P PHASING gives its place to PICTURE, its signal and its line timer kept (R142). -/
theorem LineUnit.pictureBegun_sound (h : l.Sound) (ha : l.activity = some .phasing) :
    LineUnit.Sound { l with activity := some .picture } := by
  have hb := h.belongs _ ha
  obtain ⟨since, hg⟩ := hb.sounding (.inl rfl)
  refine h.moves (a := .picture) (h.seized ha) ?_ rfl rfl rfl rfl
  constructor <;> simp [hb.listen, hb.hold, hb.timer, hb.sent, hb.figures, hg]

end

end Sys2Proof.Machine
end

section
/-! PROOF. The run sequencer's requests keep the line unit's invariant, and so does every operation that makes them
(R129 to R146, R152 to R169). -/

namespace Sys2Proof.Machine

section
variable {s t : State} {r : RunRecord} {o : Order}

/-- An operation done on a condition. -/
theorem when_sound {c : Prop} [Decidable c] (ht : t.line.Sound) (hs : s.line.Sound) :
    (if c then t else s).line.Sound := Kept.when (P := fun u : State => u.line.Sound) c ht hs

/-! ## The requests (R129) -/

theorem LineUnit.takes_quiet {q : LineRequest} {l : LineUnit} (hq : q = .call ∨ q = .poll ∨ q = .listen ∨ q = .hold)
    (h : l.takes q = true) : l.activity = some .quiet := by
  rcases hq with rfl | rfl | rfl | rfl <;> simp [LineUnit.takes] at h <;> exact h.2

theorem LineUnit.takes_stopTone {l : LineUnit} (h : l.takes .stopTone = true) :
    ∃ a, l.activity = some a ∧ a ≠ .listening := by
  cases ha : l.activity with
  | none => simp [LineUnit.takes, ha] at h
  | some a =>
    refine ⟨a, rfl, ?_⟩
    rintro rfl
    simp [LineUnit.takes, ha] at h

theorem LineUnit.takes_start {l : LineUnit} (h : l.takes .start = true) :
    l.activity = some .quiet ∨ l.activity = some .holding := by
  simp only [LineUnit.takes, Bool.and_eq_true, Bool.or_eq_true, beq_iff_eq] at h
  exact h.2

@[simp] theorem lineSeize_sound {n : Nat} {net : Network} {code : Nat} {ds : List DialSymbol} (h : s.line.Sound) :
    (lineSeize n net code ds s).line.Sound := by
  unfold lineSeize
  split
  · have hs : s.line.state = .idle := by simpa [LineUnit.takes] using ‹s.line.takes .seize = true›
    exact LineUnit.seized_sound h hs
  · exact h

/-- A call or a poll, sounding or waiting for its guard (R133, R137). -/
@[simp] theorem lineCall_sound {q : LineRequest} {a : Activity} (hq : q = .call ∧ a = .calling ∨ q = .poll ∧ a = .polling)
    (code : Nat) (h : s.line.Sound) : (lineCall q a code s).line.Sound := by
  have hplain : a ≠ .listening ∧ a ≠ .holding ∧ a ≠ .startTone ∧ a ≠ .phasing ∧ a ≠ .picture := by
    rcases hq with ⟨-, rfl⟩ | ⟨-, rfl⟩ <;> simp
  unfold lineCall
  split
  · have ha := LineUnit.takes_quiet (q := q) (by rcases hq with ⟨rfl, -⟩ | ⟨rfl, -⟩ <;> simp) ‹_›
    have hb := h.belongs _ ha
    have hm : LineUnit.Sound { s.line with activity := some a, callCode := some code, lastRequest := some q } :=
      h.moves (h.seized ha) (hb.follows (.inl rfl) (by simp [hplain]) rfl rfl rfl (by simp [hb.listen, hplain])
        (by simp [hb.hold, hplain]) (by simp [hplain])) rfl rfl rfl rfl
    exact LineUnit.beginSending_sound hm rfl (by simp [hplain])
  · exact h

@[simp] theorem lineListen_sound (h : s.line.Sound) : (lineListen s).line.Sound := by
  unfold lineListen
  split
  · have ha := LineUnit.takes_quiet (q := .listen) (by simp) ‹_›
    have hb := h.belongs _ ha
    have hm : LineUnit.Sound
        { s.line with activity := some .listening, listenFor := some .dialConfirm, lastRequest := some .listen } :=
      h.moves (h.seized ha) (hb.follows (.inl rfl) (by simp) rfl rfl rfl (by simp) (by simp [hb.hold]) (by simp))
        rfl rfl rfl rfl
    dsimp only [onLine_line]
    split
    · split
      · exact hm.sends rfl (by simp) (.inr (.inl ⟨_, rfl⟩))
      · exact LineUnit.openListen_sound hm rfl _
    · exact LineUnit.openListen_sound hm rfl _
  · exact h

@[simp] theorem lineHold_sound (h : s.line.Sound) : (lineHold s).line.Sound := by
  unfold lineHold
  split
  · have ha := LineUnit.takes_quiet (q := .hold) (by simp) ‹_›
    have hb := h.belongs _ ha
    refine h.moves (a := .holding) (h.seized ha) ?_ rfl rfl rfl rfl
    constructor <;> simp [hb.listen, hb.timer, hb.sent]
  · exact h

/-- A start tone follows a burst in progress and otherwise any guard (R140, R141). -/
@[simp] theorem lineStart_sound {fig : Figures} (h : s.line.Sound) : (lineStart fig s).line.Sound := by
  unfold lineStart
  split
  · have hm : LineUnit.Sound { s.line with
        activity := some .startTone, figures := some fig, holdAt := none, lastRequest := some .start } := by
      rcases LineUnit.takes_start ‹_› with ha | ha
      all_goals
        have hb := h.belongs _ ha
        exact h.moves (h.seized ha) (hb.follows (by simp) (by simp) rfl rfl rfl (by simp [hb.listen]) (by simp) (by simp))
          rfl rfl rfl rfl
    simp only [reportIfStartTone_keeps, onLine_line]
    split
    · exact hm
    · exact LineUnit.beginSending_sound hm rfl (by simp)
  · exact h

/-- STOP_TONE waits as START does, or cuts the signal off (R140, R146). -/
@[simp] theorem lineStopTone_sound (h : s.line.Sound) : (lineStopTone s).line.Sound := by
  have hwait : ∀ a, s.line.activity = some a → a = .quiet ∨ a = .holding ∨ a = .startTone → LineUnit.Sound
      { s.line with activity := some .stopTone, holdAt := none, lastRequest := some .stopTone } := fun a ha hw => by
    have hb := h.belongs a ha
    refine h.moves (h.seized ha) (hb.follows (hw.imp_right fun hw => ⟨hw, .inr rfl⟩) (by simp) rfl rfl rfl ?_ (by simp)
      nofun) rfl rfl rfl rfl
    rcases hw with rfl | rfl | rfl <;> simp [hb.listen]
  unfold lineStopTone
  split
  · split
    · exact h
    · rename_i ht hn
      dsimp only [onLine_line]
      split
      · rename_i hg
        rcases h.bursts hg with ha | ha | ha
        · exact hwait _ ha (by simp)
        · exact hwait _ ha (by simp)
        · exact absurd ha hn
      · exact hwait _ ‹_› (by simp)
      · exact LineUnit.beginSending_sound (hwait _ ‹_› (by simp)) rfl (by simp)
      · exact LineUnit.beginSending_sound (hwait _ ‹_› (by simp)) rfl (by simp)
      · obtain ⟨a, ha, hl⟩ := LineUnit.takes_stopTone ht
        have hs := LineUnit.beginStopTone_sound (now := s.now) h ha hl
        exact hs.of_core rfl fun hn => (hs.still hn).2
  · exact h

@[simp] theorem lineRelease_sound (h : s.line.Sound) : (lineRelease s).line.Sound := by
  unfold lineRelease
  split
  · exact LineUnit.released_sound _ _
  · exact h

/-! ## Aborts (R165 to R169) -/

@[simp] theorem makeLineAction_sound {a : LineAction} (h : s.line.Sound) : (makeLineAction a s).line.Sound := by
  cases a with
  | none => exact h
  | release => exact lineRelease_sound h
  | stopTone =>
    unfold makeLineAction
    dsimp only
    split
    · exact lineStopTone_sound h
    · exact lineRelease_sound h

@[simp] theorem firstAbort_sound {c : AbortCause} (h : s.line.Sound) : (firstAbort c r o s).line.Sound := by
  unfold firstAbort
  refine makeLineAction_sound ?_
  split <;> split <;> simpa using h

@[simp] theorem secondAbort_sound {c : AbortCause} (h : s.line.Sound) : (secondAbort c r s).line.Sound := by
  unfold secondAbort
  split
  · exact lineRelease_sound h
  · exact h

@[simp] theorem runAbort_sound {c : AbortCause} (h : s.line.Sound) : (runAbort c s).line.Sound := by
  unfold runAbort
  split
  · exact h
  · split
    · exact h
    · split_ifs
      · exact secondAbort_sound h
      · exact firstAbort_sound h
      · exact h

/-! ## The roll call and the confirmation (R152 to R155, R163) -/

@[simp] theorem examineStart_sound (h : s.line.Sound) : (examineStart s).line.Sound := by
  unfold examineStart
  split
  · exact h
  · split
    · exact h
    · split
      · exact lineStart_sound h
      · exact h

@[simp] theorem rollCallEnd_sound (h : s.line.Sound) : (rollCallEnd s).line.Sound := by
  unfold rollCallEnd
  split
  · exact h
  · split
    · exact h
    · dsimp only
      split
      · split
        · exact examineStart_sound h
        · exact lineHold_sound (examineStart_sound h)
      · exact lineRelease_sound h

@[simp] theorem rollCallStep_sound {out : Option ReplyTone} (h : s.line.Sound) : (rollCallStep out r o s).line.Sound := by
  unfold rollCallStep
  split
  · exact lineCall_sound (by simp) _ h
  · dsimp only
    split
    · exact lineCall_sound (by simp) _ h
    · exact rollCallEnd_sound h

@[simp] theorem pollNext_sound (h : s.line.Sound) : (pollNext s).line.Sound := by
  unfold pollNext
  split
  · exact h
  · split
    · exact h
    · split
      · exact lineCall_sound (by simp) _ h
      · exact lineRelease_sound h

@[simp] theorem confirmStep_sound {out : Option ReplyTone} (h : s.line.Sound) : (confirmStep out r o s).line.Sound := by
  have hu : (match o.firstReady with
      | some i => updateOrder o.number (setDest i (confirmResult out)) s
      | none => s).line.Sound := by
    split <;> exact h
  unfold confirmStep
  dsimp only
  split
  · exact pollNext_sound hu
  · exact lineRelease_sound hu

/-- A report that the run answers, or that is discarded (R165). -/
theorem withRun_sound {f : RunRecord → Order → State → State} (h : s.line.Sound)
    (hf : ∀ r o, (f r o s).line.Sound) : (withRun f s).line.Sound := by
  unfold withRun
  split
  · exact h
  · split
    · exact h
    · split
      · exact h
      · exact hf _ _

@[simp] theorem listenOutcome_sound {out : Option ReplyTone} (h : s.line.Sound) : (listenOutcome out s).line.Sound := by
  refine withRun_sound h fun r o => ?_
  split
  · exact rollCallStep_sound h
  · exact confirmStep_sound h
  · exact h

@[simp] theorem noDialToneReport_sound (h : s.line.Sound) : (noDialToneReport s).line.Sound := by
  refine withRun_sound h fun r o => ?_
  split
  · exact rollCallEnd_sound h
  · exact h

@[simp] theorem stopToneEndedReport_sound (h : s.line.Sound) : (stopToneEndedReport s).line.Sound := by
  unfold stopToneEndedReport
  split
  · exact h
  · split
    · exact h
    · split_ifs
      · exact lineRelease_sound h
      · dsimp only
        split
        · exact pollNext_sound (by simpa using h)
        · exact lineListen_sound (by simpa using h)
      · exact h

@[simp] theorem deferExpired_sound (h : s.line.Sound) : (deferExpired s).line.Sound := runAbort_sound h

@[simp] theorem drumReportToRun_sound (h : s.line.Sound) : (drumReportToRun s).line.Sound := examineStart_sound h

@[simp] theorem noLockToRun_sound (h : s.line.Sound) : (noLockToRun s).line.Sound := by
  refine withRun_sound h fun r o => ?_
  split
  · exact runAbort_sound h
  · exact h

@[simp] theorem revolutionToRun_sound {b : Bool} (h : s.line.Sound) : (revolutionToRun b s).line.Sound := by
  unfold revolutionToRun
  split
  · exact h
  · split
    · exact h
    · split
      · exact when_sound (runAbort_sound h) h
      · exact h

end

end Sys2Proof.Machine
end

section
/-! PROOF. Every operation of the drum, the scan unit, the calibration runs, the order manager and the line keeps the line
unit's invariant: those that reach the line do so through the run's requests and aborts. -/

namespace Sys2Proof.Machine

section
variable {s t : State} {p : List Byte}

/-! ## The drum -/

@[simp] theorem reportDrum_sound (h : s.line.Sound) : (reportDrum s).line.Sound := by simp [reportDrum, h]

@[simp] theorem drumChanged_sound (h : s.line.Sound) : (drumChanged s).line.Sound := by simp [drumChanged, h]

@[simp] theorem speedRequest_sound {rpm : Nat} (h : s.line.Sound) : (speedRequest rpm s).line.Sound :=
  when_sound (when_sound h (when_sound (reportDrum_sound h) (drumChanged_sound h))) h

@[simp] theorem enterSpinningDown_sound (h : s.line.Sound) : (enterSpinningDown s).line.Sound := drumChanged_sound h

@[simp] theorem stopRequest_sound {b : Bool} (h : s.line.Sound) : (stopRequest b s).line.Sound := by
  unfold stopRequest
  split
  · exact enterSpinningDown_sound h
  · exact enterSpinningDown_sound h
  · exact enterSpinningDown_sound h
  · exact enterSpinningDown_sound h
  · exact when_sound (enterSpinningDown_sound h) h
  · exact h
  · exact h

@[simp] theorem motorComplete_sound {p q : Nat} (h : s.line.Sound) : (motorComplete p q s).line.Sound :=
  when_sound (by simp [h]) (by simp [h])

@[simp] theorem motorPeriod_sound {P : Nat} (h : s.line.Sound) : (motorPeriod P s).line.Sound := by
  unfold motorPeriod
  split
  · exact h
  · dsimp only
    split
    · exact when_sound h h
    · exact when_sound (motorComplete_sound h) h
    · exact h

@[simp] theorem noLockFound_sound (h : s.line.Sound) : (noLockFound s).line.Sound := by simp [noLockFound, h]

@[simp] theorem stallFound_sound (h : s.line.Sound) : (stallFound s).line.Sound := by simp [stallFound, h]

@[simp] theorem regulate_sound {P : Nat} (h : s.line.Sound) : (regulate P s).line.Sound := by
  have hc : (if !s.drum.clip && (s.onDrum (Drum.loopStep s.motor s.settings P s.now)).drum.clip then
      drumEvent .clip (s.onDrum (Drum.loopStep s.motor s.settings P s.now))
    else s.onDrum (Drum.loopStep s.motor s.settings P s.now)).line.Sound := when_sound (by simp [h]) h
  exact when_sound hc (drumChanged_sound hc)

@[simp] theorem quietExpired_sound (h : s.line.Sound) : (quietExpired s).line.Sound := drumChanged_sound h

@[simp] theorem spinHoldExpired_sound (h : s.line.Sound) : (spinHoldExpired s).line.Sound :=
  when_sound h (when_sound (stopRequest_sound h) h)

/-! ## The lamp, the carriage and the scan -/

@[simp] theorem warmUpDone_sound (h : s.line.Sound) : (warmUpDone s).line.Sound := by simp [warmUpDone, h]

@[simp] theorem carriageFailed_sound (h : s.line.Sound) : (carriageFailed s).line.Sound := by simp [carriageFailed, h]

@[simp] theorem homeStep_sound (h : s.line.Sound) : (homeStep s).line.Sound := when_sound (carriageFailed_sound h) h

@[simp] theorem carriageStep_sound (h : s.line.Sound) : (carriageStep s).line.Sound :=
  when_sound (homeStep_sound h) (when_sound (by simp [h]) h)

@[simp] theorem homeReached_sound (h : s.line.Sound) : (homeReached s).line.Sound := by
  unfold homeReached
  dsimp only
  split <;> simp [h]

@[simp] theorem lampFault_sound (h : s.line.Sound) : (lampFault s).line.Sound := by simp [lampFault, h]

@[simp] theorem completeLine_sound {b : Bool} {sc : ScanRecord} (h : s.line.Sound) : (completeLine b sc s).line.Sound :=
  when_sound (lampFault_sound h) (by simp [h])

@[simp] theorem revolutionToScan_sound {b : Bool} {x : Nat} (h : s.line.Sound) : (revolutionToScan b x s).line.Sound := by
  unfold revolutionToScan
  split
  · simp [h]
  · split <;> simp [h]

@[simp] theorem revolutionReport_sound {b : Bool} {x : Nat} (h : s.line.Sound) : (revolutionReport b x s).line.Sound :=
  revolutionToRun_sound (revolutionToScan_sound h)

@[simp] theorem regulated_sound (h : s.line.Sound) : s.regulated.line.Sound := by
  unfold State.regulated
  split
  · exact regulate_sound h
  · exact h

@[simp] theorem indexPulse_sound {x : Nat} (h : s.line.Sound) : (indexPulse x s).line.Sound := by
  have hturn : ∀ measuring locked : Bool,
      (if measuring then revolutionToCal locked x (revolutionReport locked x s.regulated)
        else revolutionReport locked x s.regulated).line.Sound := fun _ _ => when_sound (by simp [h]) (by simp [h])
  unfold indexPulse
  dsimp only
  split
  · exact hturn _ _
  · exact hturn _ _
  · exact hturn _ _
  · exact h
  · split
    · exact motorPeriod_sound h
    · exact h
  · exact h
  · exact h

/-! ## Selection and mounts -/

@[simp] theorem runBegun_sound {o : Order} (h : s.line.Sound) : (runBegun o s).line.Sound := by
  have hr : (speedRequest o.header.speed (({ s with run := some (runRecordFor o s) } : State).onStore fun _ =>
      Store.opened o.number o.header.samples o.lines)).line.Sound := speedRequest_sound h
  exact lineSeize_sound (by simpa using hr)

@[simp] theorem runStart_sound {o : Order} (h : s.line.Sound) : (runStart o s).line.Sound := by
  rw [runStart_eq]
  exact when_sound (when_sound (by simp [h]) (by simp [h])) (by simp [h])

@[simp] theorem select_sound (h : s.line.Sound) : (select s).line.Sound := by
  unfold select
  split
  · split
    · simp [selectOrder, h]
    · exact h
  · exact h

@[simp] theorem selectAfterCal_sound (h : t.line.Sound) : (selectAfterCal s t).line.Sound := when_sound (select_sound h) h

@[simp] theorem examineMount_sound (h : s.line.Sound) : (examineMount s).line.Sound :=
  when_sound (by simp [mountStart, h]) h

@[simp] theorem doorInterlock_sound (h : s.line.Sound) : (doorInterlock s).line.Sound := by
  have hd : (if (s.onDrum (Drum.interlock s.now)).drum.state = s.drum.state then
      s.onDrum (Drum.interlock s.now) else drumEvent .state (s.onDrum (Drum.interlock s.now))).line.Sound :=
    when_sound h (by simp [h])
  have ha := runAbort_sound (c := .door) (drumReportToRun_sound hd)
  unfold doorInterlock
  simpa using ha

@[simp] theorem openDoor_sound (h : s.line.Sound) : (openDoor s).line.Sound := by
  have hd := selectAfterCal_sound (s := s) (doorInterlock_sound (s := s.onPanel fun p => { p with door := .opened }) h)
  simpa [openDoor] using hd

@[simp] theorem releaseClamp_sound (h : s.line.Sound) : (releaseClamp s).line.Sound := by
  have hd : (if s.panel.door = .closed then doorInterlock (s.onPanel fun p => { p with clamp := .released })
      else mountEnd (s.onPanel fun p => { p with clamp := .released })).line.Sound :=
    when_sound (doorInterlock_sound h) (by simp [h])
  simpa [releaseClamp] using selectAfterCal_sound (s := s) hd

/-! ## Calibration runs -/

@[simp] theorem calTakeDrum_sound {b : Bool} (h : s.line.Sound) : (calTakeDrum b s).line.Sound := by
  unfold calTakeDrum
  dsimp only
  split_ifs <;> simp [h]

@[simp] theorem beginMotor_sound (h : s.line.Sound) : (beginMotor s).line.Sound := drumChanged_sound h

@[simp] theorem beginDark_sound (h : s.line.Sound) : (beginDark s).line.Sound := by simp [beginDark, h]

@[simp] theorem beginWhite_sound (h : s.line.Sound) : (beginWhite s).line.Sound := by simp [beginWhite, h]

@[simp] theorem beginSteps_sound {p : Nat} {l : List TabletStep} (h : s.line.Sound) : (beginSteps p l s).line.Sound :=
  when_sound (by simp [h]) (by simp [h])

@[simp] theorem serveCalKind_sound {k : CalKind} {f : State → State} (h : s.line.Sound) (hf : (f s).line.Sound) :
    (serveCalKind k f s).2.line.Sound := by
  unfold serveCalKind
  split
  · exact h
  · exact when_sound (select_sound hf) hf

theorem serveCalRun_sound (h : s.line.Sound) : (serveCalRun p s).2.line.Sound := by
  unfold serveCalRun
  split
  · exact serveCalKind_sound h (beginMotor_sound h)
  · exact serveCalKind_sound h (beginDark_sound h)
  · exact serveCalKind_sound h (beginWhite_sound h)
  · split
    · exact h
    · exact serveCalKind_sound h (beginSteps_sound h)
  · exact h

theorem serveDrumSpin_sound (h : s.line.Sound) : (serveDrumSpin p s).2.line.Sound := by
  unfold serveDrumSpin
  dsimp only
  split
  · exact h
  · exact when_sound (stopRequest_sound h) (by simp [h])

/-! ## Requests on orders -/

@[simp] theorem finishAssembly_sound {n : Nat} (h : s.line.Sound) : (finishAssembly n s).2.line.Sound := by
  unfold finishAssembly
  split
  · exact h
  · split <;> simp [h]

theorem serveOrderBegin_sound (h : s.line.Sound) : (serveOrderBegin p s).2.line.Sound := by
  unfold serveOrderBegin
  split
  · exact h
  · split
    · exact h
    · dsimp only
      split
      · exact finishAssembly_sound h
      · exact h

theorem serveOrderPart_sound (h : s.line.Sound) : (serveOrderPart p s).2.line.Sound := by
  unfold serveOrderPart
  dsimp only
  split
  · exact h
  · split_ifs
    · exact h
    · exact h
    · exact finishAssembly_sound h
    · exact h

theorem serveOrderCancel_sound (h : s.line.Sound) : (serveOrderCancel p s).2.line.Sound := by
  unfold serveOrderCancel
  dsimp only
  split
  · exact h
  · split
    · simp [h]
    · exact runAbort_sound h
    · exact runAbort_sound h
    · exact runAbort_sound h
    · exact h
    · exact h
    · exact h
    · exact h

theorem serveQueueControl_sound (h : s.line.Sound) : (serveQueueControl p s).2.line.Sound := by
  unfold serveQueueControl
  split_ifs
  · exact h
  · exact h
  · exact select_sound h
  · exact h

/-! ## RESTART and serving -/

theorem carryOutRestart_sound {b : Bool} (h : s.line.Sound) : (carryOutRestart b s).line.Sound :=
  LineUnit.restart_sound h

theorem serveRestart_sound (h : s.line.Sound) : (serveRestart p s).2.line.Sound := by
  unfold serveRestart
  dsimp only
  split_ifs
  · exact h
  · exact carryOutRestart_sound h
  · exact carryOutRestart_sound (b := byteAt p 0 == 1) h

theorem serveKind_sound {k : Nat} (h : s.line.Sound) : (serveKind k p s).2.line.Sound := by
  unfold serveKind answered
  split
  case h_10 => exact serveCalRun_sound h
  case h_11 => exact serveOrderBegin_sound h
  case h_12 => exact serveOrderPart_sound h
  case h_13 => exact serveOrderCancel_sound h
  case h_16 => exact serveQueueControl_sound h
  case h_17 => exact serveDrumSpin_sound h
  case h_19 => exact serveRestart_sound h
  all_goals simp [h]

theorem answer_sound {r : Request} (h : s.line.Sound) : (answer r s).2.line.Sound :=
  answer_ind (P := fun u : State => u.line.Sound) r h fun _ _ => serveKind_sound h

@[simp] theorem serveFront_sound (h : s.line.Sound) : (serveFront s).line.Sound :=
  serveFront_ind (P := fun u : State => u.line.Sound) h (fun _ => answer_sound h) fun _ _ _ ht => by simpa using ht

@[simp] theorem offerFrame_sound {r : Request} (h : s.line.Sound) : (offerFrame r s).line.Sound :=
  when_sound (serveFront_sound h) h

theorem arrive_sound {k tag : Byte} (h : s.line.Sound) : (arrive k tag p s).line.Sound :=
  when_sound h (offerFrame_sound h)

theorem receiveByte_sound {b : Byte} (h : s.line.Sound) : (receiveByte b s).line.Sound := by
  unfold receiveByte
  dsimp only
  split
  · exact offerFrame_sound h
  · exact h

theorem frameDone_sound (h : s.line.Sound) : (frameDone s).line.Sound := by
  unfold frameDone
  split
  · exact h
  · exact serveFront_sound h

/-! ## The end of the clearing time -/

theorem releasedReport_sound (h : s.line.Sound) : (releasedReport s).line.Sound := by
  unfold releasedReport
  split
  · exact h
  · split <;> simp [h]

theorem releaseCleared_sound (h : s.line.Sound) (hs : s.line.state = .releasing) : (releaseCleared s).line.Sound := by
  have hi : (s.onLine LineUnit.idled).line.Sound := LineUnit.idled_sound h hs
  exact when_sound (by simpa using hi) (releasedReport_sound hi)

end

end Sys2Proof.Machine
end

section
/-! PROOF. Every command keeps the line unit's invariant (R128 to R149): the line's own commands, each in the activity it acts
in, and the others through the operations that they share. -/

namespace Sys2Proof.Machine

section
variable {s t : State}

/-! ## Line times (R142 to R145) -/

theorem pictureLine_sound {S : Nat} (h : s.line.Sound) : (pictureLine S s).line.Sound := by
  unfold pictureLine
  exact LineUnit.sendLine_sound (by simpa using h) _ _ _

theorem phasingBoundary_sound {x : LineTimer} {f : Figures} (h : s.line.Sound) (ha : s.line.activity = some .phasing) :
    (phasingBoundary x f s).line.Sound := by
  refine when_sound ?_ (pictureLine_sound ?_)
  · simpa using LineUnit.sendLine_sound h _ _ _
  · simpa using LineUnit.pictureBegun_sound h ha

theorem pictureBoundary_sound {f : Figures} (h : s.line.Sound) (ha : s.line.activity = some .picture) :
    (pictureBoundary f s).line.Sound := by
  refine when_sound ?_ (pictureLine_sound h)
  simpa using LineUnit.beginStopTone_sound h ha nofun

theorem lineBoundary_sound (h : s.line.Sound) : (lineBoundary s).line.Sound := by
  unfold lineBoundary
  split
  · exact phasingBoundary_sound h ‹_›
  · exact pictureBoundary_sound h ‹_›
  · exact h

/-! ## Signals, guards and listens (R133 to R141) -/

theorem LineUnit.soundedFor_activity {l : LineUnit} {a : Activity} {t now : Nat} (h : l.soundedFor a t now = true) :
    l.activity = some a := by
  simp only [LineUnit.soundedFor, Bool.and_eq_true, beq_iff_eq] at h
  exact h.1

theorem LineUnit.guardDue_waits {l : LineUnit} {now : Nat} (h : l.guardDue now = true) : ∃ e, l.signal = .guardWait e := by
  unfold LineUnit.guardDue at h
  split at h
  · exact ⟨_, ‹_›⟩
  · cases h

theorem LineUnit.dialWatched_dials {l : LineUnit} {t now : Nat} (h : l.dialWatched t now = true) :
    ∃ b, l.signal = .dialTone b := by
  unfold LineUnit.dialWatched at h
  split at h
  · exact ⟨_, ‹_›⟩
  · cases h

theorem LineUnit.windowOver_hears {l : LineUnit} {now : Nat} (h : l.windowOver now = true) :
    ∃ o w, l.signal = .listen o w none := by
  unfold LineUnit.windowOver at h
  split at h
  · exact ⟨_, _, ‹_›⟩
  · cases h

theorem LineUnit.replyOlder_hears {l : LineUnit} {t now : Nat} {tone : ReplyTone} (h : l.replyOlder t now = some tone) :
    ∃ o w q, l.signal = .listen o w (some (tone, q)) := by
  unfold LineUnit.replyOlder at h
  split at h
  · split at h
    · cases h
      exact ⟨_, _, _, ‹_›⟩
    · cases h
  · cases h

theorem guardOver_sound (h : s.line.Sound) (hd : s.line.guardDue s.now = true) : (guardOver s).line.Sound := by
  obtain ⟨e, he⟩ := LineUnit.guardDue_waits hd
  obtain ⟨a, ha⟩ := h.exists_activity (by simp [he])
  unfold guardOver
  split
  · exact LineUnit.openListen_sound h ‹_› _
  · have hn : a ≠ .phasing ∧ a ≠ .picture := by
      constructor <;> rintro rfl <;> simpa [he] using (h.belongs _ ha).sounding (by simp)
    simpa using h.sends ha hn (.inr (.inr ⟨s.now, rfl⟩))

theorem listenEnds_sound {out : Option ReplyTone} (h : s.line.Sound) {o : Nat} {w : Option Nat}
    {r : Option (ReplyTone × Nat)} (hg : s.line.signal = .listen o w r) : (listenEnds out s).line.Sound :=
  listenOutcome_sound (LineUnit.endListen_sound h (h.hears hg) nofun nofun nofun)

/-- The end of a full stop tone leaves the unit in QUIET (R145). -/
theorem State.quieted_sound (h : s.line.Sound) (ha : s.line.activity = some .stopTone) : s.quieted.line.Sound := by
  obtain ⟨hlisten, hhold, htimer, hsent⟩ := (h.belongs _ ha).idleTimers nofun nofun nofun nofun
  refine h.moves (a := .quiet) (h.seized ha) ?_ rfl rfl rfl rfl
  constructor <;> simp [State.quieted, hlisten, hhold, htimer, hsent]

/-- Dial tone found: the digits wait for the guard in DIALING (R138, R139). -/
theorem dialToneFound_sound (h : s.line.Sound) (hd : s.line.dialWatched (ms 500) s.now = true) (e : Nat) :
    (s.onLine fun l => { l with signal := .guardWait e, lastListenEnd := some s.now }).line.Sound := by
  obtain ⟨b, hb⟩ := LineUnit.dialWatched_dials hd
  have ha := h.dials hb
  obtain ⟨hlisten, hhold, htimer, hsent⟩ := (h.belongs _ ha).idleTimers nofun nofun nofun nofun
  refine h.moves (a := .dialing) (h.seized ha) ?_ ha rfl rfl rfl
  constructor <;> simp [hlisten, hhold, htimer, hsent]

/-! ## Loop current and its loss (R132, R168) -/

/-- The loop-current timer starts in SEIZED alone. -/
theorem loopCurrentLost_sound (h : s.line.Sound) (e : Nat) : (s.onLine fun l =>
    { l with loopCurrent := false, loopTimer := if l.state = .seized then some e else l.loopTimer }).line.Sound :=
  h.of_core rfl fun hs => (if_neg hs).trans (h.still hs).2

theorem lineLost_sound (s : State) : (lineLost s).line.Sound := LineUnit.released_sound _ _

/-! ## Commands -/

theorem reset_lineSound : State.reset.line.Sound := by
  obtain ⟨-, -, -, -, -, -, -, -, h⟩ := resetMeetsTheInvariants
  exact h.sound

/-- Every command keeps the line unit's invariant. -/
theorem exec_lineSound (i : Instr) (h : s.line.Sound) : ∃ t, exec i s = .next t ∧ t.line.Sound := by
  have ha : ∀ dt, (advance dt s).line.Sound := fun _ => h
  cases hf : i.frame with
  | some f => exact ⟨_, exec_frame hf s, arrive_sound (ha f.1)⟩
  | none =>
    cases i with
    | powerOn l => exact ⟨_, rfl, reset_lineSound⟩
    | linkByteReceived dt b => exact ⟨_, rfl, receiveByte_sound (ha dt)⟩
    | frameSent dt => exact ⟨_, rfl, when_sound (frameDone_sound (ha dt)) (ha dt)⟩
    | doorOpen dt => exact ⟨_, rfl, when_sound (openDoor_sound (ha dt)) (ha dt)⟩
    | doorClose dt | clampEngage dt =>
      refine ⟨_, rfl, when_sound ?_ (ha dt)⟩
      simpa using examineMount_sound (s := (advance dt s).onPanel _) (ha dt)
    | clampRelease dt => exact ⟨_, rfl, when_sound (releaseClamp_sound (ha dt)) (ha dt)⟩
    | stopKey dt =>
      have hr := runAbort_sound (c := .stop) (s := (advance dt s).onManager fun m => { m with state := .halted }) (ha dt)
      have hc : (calAbort .stopped (runAbort .stop
        ((advance dt s).onManager fun m => { m with state := .halted }))).line.Sound := by simpa using hr
      exact ⟨_, rfl, by simpa using stopRequest_sound (b := false) hc⟩
    | indexPulse dt x => exact ⟨_, rfl, selectAfterCal_sound (indexPulse_sound (ha dt))⟩
    | spinUpLimitExpiry dt => exact ⟨_, rfl, when_sound (selectAfterCal_sound (noLockFound_sound (ha dt))) (ha dt)⟩
    | stall dt => exact ⟨_, rfl, when_sound (selectAfterCal_sound (stallFound_sound (ha dt))) (ha dt)⟩
    | quietTimerExpiry dt => exact ⟨_, rfl, when_sound (quietExpired_sound (ha dt)) (ha dt)⟩
    | spinHoldExpiry dt => exact ⟨_, rfl, when_sound (selectAfterCal_sound (spinHoldExpired_sound (ha dt))) (ha dt)⟩
    | warmUpExpiry dt => exact ⟨_, rfl, when_sound (warmUpDone_sound (ha dt)) (ha dt)⟩
    | carriageStep dt => exact ⟨_, rfl, when_sound (selectAfterCal_sound (carriageStep_sound (ha dt))) (ha dt)⟩
    | homeSwitchClose dt => exact ⟨_, rfl, when_sound (homeReached_sound (ha dt)) (ha dt)⟩
    | homeSearchLimit dt => exact ⟨_, rfl, when_sound (selectAfterCal_sound (homeStep_sound (ha dt))) (ha dt)⟩
    | lineBoundary dt => exact ⟨_, rfl, when_sound (lineBoundary_sound (ha dt)) (ha dt)⟩
    | startToneEnd dt =>
      refine ⟨_, rfl, ?_⟩
      split_ifs with hd
      · simpa using LineUnit.beginPhasing_sound (ha dt) (LineUnit.soundedFor_activity hd)
      · exact ha dt
    | stopToneEnd dt =>
      refine ⟨_, rfl, ?_⟩
      split_ifs with hd
      · exact stopToneEndedReport_sound (State.quieted_sound (ha dt) (LineUnit.soundedFor_activity hd))
      · exact ha dt
    | releaseCleared dt =>
      refine ⟨_, rfl, ?_⟩
      split_ifs with hd
      · exact releaseCleared_sound (ha dt) hd.1
      · exact ha dt
    | loopCurrentLost dt => exact ⟨_, rfl, when_sound (loopCurrentLost_sound (ha dt) _) (ha dt)⟩
    | loopCurrentReturn dt => exact ⟨_, rfl, (ha dt).of_core rfl fun _ => rfl⟩
    | lineLoss dt => exact ⟨_, rfl, when_sound (lineLost_sound _) (ha dt)⟩
    | guardExpiry dt =>
      refine ⟨_, rfl, ?_⟩
      split_ifs with hd
      · exact guardOver_sound (ha dt) hd
      · exact ha dt
    | callEnd dt =>
      refine ⟨_, rfl, ?_⟩
      split_ifs with hc hp
      · exact LineUnit.listenAfter_sound (ha dt) (LineUnit.soundedFor_activity hc) nofun nofun nofun nofun _
      · exact LineUnit.listenAfter_sound (ha dt) (LineUnit.soundedFor_activity hp) nofun nofun nofun nofun _
      · exact ha dt
    | replyQualified dt tone => exact ⟨_, rfl, LineUnit.qualify_sound (ha dt) tone⟩
    | replyEnd dt | replyOverlong dt =>
      refine ⟨_, rfl, ?_⟩
      split
      · obtain ⟨o, w, q, hg⟩ := LineUnit.replyOlder_hears ‹_›
        exact listenEnds_sound (ha dt) hg
      · exact ha dt
    | replyWindowExpiry dt =>
      refine ⟨_, rfl, ?_⟩
      split_ifs with hd
      · obtain ⟨o, w, hg⟩ := LineUnit.windowOver_hears hd
        exact listenEnds_sound (ha dt) hg
      · exact ha dt
    | dialToneFound dt =>
      refine ⟨_, rfl, ?_⟩
      split_ifs with hd
      · exact dialToneFound_sound (ha dt) hd _
      · exact ha dt
    | noDialTone dt =>
      refine ⟨_, rfl, ?_⟩
      split_ifs with hd
      · obtain ⟨b, hb⟩ := LineUnit.dialWatched_dials hd
        exact noDialToneReport_sound (LineUnit.endListen_sound (ha dt) (LineUnit.Sound.dials (ha dt) hb) nofun nofun nofun)
      · exact ha dt
    | dialDigitsEnd dt =>
      refine ⟨_, rfl, ?_⟩
      split_ifs with hd
      · exact LineUnit.listenAfter_sound (ha dt) (LineUnit.soundedFor_activity hd) nofun nofun nofun nofun _
      · exact ha dt
    | holdBurst dt =>
      refine ⟨_, rfl, ?_⟩
      split_ifs with hd
      · exact LineUnit.beginBurst_sound (ha dt) hd.1
      · exact ha dt
    | holdBurstEnd dt =>
      refine ⟨_, rfl, ?_⟩
      split_ifs with hd
      · simpa using LineUnit.endBurst_sound (ha dt) hd
      · exact ha dt
    | deferLimitExpiry dt => exact ⟨_, rfl, when_sound (deferExpired_sound (ha dt)) (ha dt)⟩
    | gapTimerExpiry dt | assemblyTimeout dt | motorSettleEnd dt | darkLampSettled dt | lampIdleExpiry dt | paperOut dt
    | paperBack dt | rowStepEnd dt | timeOfDayTick dt | encoderCount dt _ _ =>
      exact ⟨_, rfl, when_sound (by simpa using h) (ha dt)⟩
    | _ => simp [Instr.frame] at hf

end

/-- Settles O60: in SEIZED an activity gives its place to another with what belongs to it (`LineUnit.Sound.moves`), the line
is seized, released and cleared as a whole (`LineUnit.seized_sound`, `LineUnit.released_sound`, `LineUnit.idled_sound`),
and every command changes the line by these (`exec_lineSound`). -/
theorem everyStepKeepsTheLineUnit : Obligations.EveryStepKeepsTheLineUnit := by
  intro s t hi e
  have h : s.line.Sound := hi.sound
  refine LineUnit.Sound.inv ?_
  unfold step at e
  split at e
  · cases e
    exact h
  · obtain ⟨u, hu, hsound⟩ := exec_lineSound (s := { s with pending := ‹_› }) ‹Instr› h
    rw [hu] at e
    cases e
    exact hsound

end Sys2Proof.Machine
end

section
/-! PROOF. The line unit alone moves on (R133 to R140): the ends of calls and digits, dial tone, hold bursts, the guard and the
qualified reply. -/

namespace Sys2Proof.Machine

section
variable {s : State} {l : LineUnit} {dt : Nat}

theorem soundedFor_other {a b : Activity} {t now : Nat} (ha : l.activity = some a) (hne : a ≠ b) :
    ¬l.soundedFor b t now = true := fun h => hne (Option.some.inj (ha.symm.trans (LineUnit.soundedFor_activity h)))

theorem dialTime_eq (ds : List DialSymbol) : dialTime ds = 160000 * ds.length := by
  simp only [dialTime, ms]
  omega

theorem burstOver_iff {now b : Nat} (h : l.signal = .burst b) : l.burstOver now = true ↔ b + 400000 ≤ now := by
  simp only [LineUnit.burstOver, h]
  exact decide_eq_true_iff

theorem guardDue_iff {now e : Nat} (h : l.signal = .guardWait e) : l.guardDue now = true ↔ e ≤ now := by
  simp [LineUnit.guardDue, h]

theorem dialWatched_iff {t now b : Nat} (h : l.signal = .dialTone b) : l.dialWatched t now = true ↔ b + t ≤ now := by
  simp [LineUnit.dialWatched, h]

/-- No other activity's signal is reported. -/
theorem reportIfStartTone_other (h : s.line.activity ≠ some .startTone) : reportIfStartTone s = s := by
  unfold reportIfStartTone
  split
  · exact absurd ‹_› h
  · rfl

/-- Only the first tone of an open listen whose window still runs qualifies, from 150 ms on (R134, R135). -/
theorem qualify_eq {tone : ReplyTone} {now opened : Nat} {w : Option Nat} {reply : Option (ReplyTone × Nat)}
    (h : l.signal = .listen opened w reply) : l.qualify tone now =
      if opened + 150000 ≤ now ∧ w.isSome ∧ reply = none then { l with signal := .listen opened none (some (tone, now)) }
      else l := by
  unfold LineUnit.qualify
  rw [h]
  cases reply with
  | none => exact if_congr (and_congr_right' (by simp)) rfl rfl
  | some x => exact (if_neg (by simp)).symm

theorem due_some_iff {x : Option Nat} {e now : Nat} (h : x = some e) : due x now = true ↔ e ≤ now := by
  simp [due, h]

theorem endBurst_holding {now : Nat} (h : l.activity = some .holding) :
    l.endBurst now = { l with signal := .silent, lastSignalEnd := some now } := by
  simp [LineUnit.endBurst, h]

theorem endBurst_stopTone {now : Nat} (h : l.activity = some .stopTone) :
    l.endBurst now = { l with signal := .sounding now, lastSignalEnd := some now } := by
  simp [LineUnit.endBurst, h]

/-- The end of a burst is reported to no one outside START_TONE (R140). -/
theorem execHoldBurstEnd_eq {b : Nat} (hb : s.line.signal = .burst b) (ha : s.line.activity ≠ some .startTone) :
    exec (.holdBurstEnd dt) s = .next (if b + 400000 ≤ s.now + dt then
      { s with now := s.now + dt, line := s.line.endBurst (s.now + dt) } else { s with now := s.now + dt }) := by
  have hr : reportIfStartTone ((advance dt s).onLine (LineUnit.endBurst (s.now + dt))) =
      (advance dt s).onLine (LineUnit.endBurst (s.now + dt)) := reportIfStartTone_other ha
  exact congrArg Host.Outcome.next (if_congr (burstOver_iff hb) hr rfl)

theorem exec_replyQualified (tone : ReplyTone) : exec (.replyQualified dt tone) s = .next
    { s with now := s.now + dt, line := s.line.qualify tone (s.now + dt) } := rfl

end

/-- Settles O47: each command's own test in the words of its rule (`soundedFor_iff`, `dialWatched_iff`, `burstOver_iff`,
`guardDue_iff`, `qualify_eq`), and no report follows (`reportIfStartTone_other`). -/
theorem signalsAndGuardsEnd : Obligations.SignalsAndGuardsEnd := by
  intro dt s now l passes listening
  refine ⟨fun b hb => ⟨fun ha => ?_, fun ha => ?_, fun ha => ?_⟩, fun b hb => ?_, fun e ha hs he => ?_,
    fun b hb => ⟨fun ha => ?_, fun ha => ?_⟩, fun e he => ⟨fun hlt => ?_, fun hle ha => ?_, fun hle hlisten hstart => ?_⟩,
    fun opened w reply tone hg => ?_⟩
  · exact congrArg Host.Outcome.next (if_congr (soundedFor_iff ha hb) rfl
      (if_neg (soundedFor_other (b := .polling) ha nofun)))
  · exact congrArg Host.Outcome.next ((if_neg (soundedFor_other (b := .calling) ha nofun)).trans
      (if_congr (soundedFor_iff ha hb) rfl rfl))
  · refine congrArg Host.Outcome.next (if_congr ?_ rfl rfl)
    rw [← dialTime_eq]
    exact soundedFor_iff ha hb
  · exact congrArg Host.Outcome.next (if_congr (dialWatched_iff hb) rfl rfl)
  · refine congrArg Host.Outcome.next (if_congr ?_ rfl rfl)
    exact ⟨fun ⟨_, _, hd⟩ => (due_some_iff he).1 hd, fun hle => ⟨ha, hs, (due_some_iff he).2 hle⟩⟩
  · rw [execHoldBurstEnd_eq hb (by simp [show s.line.activity = _ from ha]), endBurst_holding ha]
  · rw [execHoldBurstEnd_eq hb (by simp [show s.line.activity = _ from ha]), endBurst_stopTone ha]
  · exact congrArg Host.Outcome.next (if_neg (mt (guardDue_iff he).1 (Nat.not_le.2 hlt)))
  · exact congrArg Host.Outcome.next ((if_pos ((guardDue_iff he).2 hle)).trans (if_pos ha))
  · refine congrArg Host.Outcome.next ((if_pos ((guardDue_iff he).2 hle)).trans ((if_neg hlisten).trans ?_))
    exact reportIfStartTone_other hstart
  · rw [exec_replyQualified, qualify_eq hg]
    split <;> rfl

end Sys2Proof.Machine
end

section
/-! PROOF. A RESTART with the line SEIZED, whose reply waits for the clearing time (R131, R149, R201). -/

namespace Sys2Proof.Machine

section
variable {s : State} {dt : Nat}

/-- With the line not IDLE afterwards the reply waits for it. -/
theorem serveRestart_waits {p : List Byte} (h : byteAt p 0 ≤ 1) (hl : s.line.state ≠ .idle) :
    serveRestart p s = (none, (carryOutRestart (byteAt p 0 == 1) s).onLink fun l =>
      { l with restart := some (byteAt p 0 == 1) }) := by
  have hbusy : (carryOutRestart (byteAt p 0 == 1) s).line.state ≠ .idle := by
    change (s.line.restart s.now).state ≠ .idle
    unfold LineUnit.restart
    split
    · nofun
    · simp [*]
    · exact absurd ‹_› hl
  simp only [serveRestart, Nat.not_lt.2 h, if_false, hbusy]

theorem beq_one_iff (k : Byte) : (k.toNat == 1) = (k == 1#8) := by
  rw [Bool.eq_iff_iff, beq_iff_eq, beq_iff_eq, ← BitVec.toNat_inj]
  rfl

theorem exec_restart_waits (hf : s.LinkFree) {tag k : Byte} (hk : k.toNat ≤ 1) (hl : s.line.state ≠ .idle) :
    exec (.restart dt tag [k]) s = .next ((carryOutRestart (k == 1#8) (s.serving dt ⟨0x13#8, tag, [k]⟩)).onLink fun l =>
      { l with restart := some (k == 1#8) }) := by
  have hserve := serveRestart_waits (s := s.serving dt ⟨0x13#8, tag, [k]⟩) (p := [k]) hk hl
  rw [show byteAt [k] 0 = k.toNat from rfl, beq_one_iff] at hserve
  rw [exec_frame (i := .restart dt tag [k]) rfl, arrive_free hf (by simp), answer_known rfl rfl]
  exact congrArg (fun x : Option Reply × State => Host.Outcome.next (match x with
    | (some a, t) => placeReply ⟨0x13#8, tag, [k]⟩ a t
    | (none, t) => t)) hserve

/-- The reply of a RESTART that waited, on a transmitter that is free: it is made and sent (R195, R201). -/
theorem finishRestart_sends {keep : Bool} {r : Request} (hk : s.link.restart = some keep) (hr : s.link.holding = [r])
    (htx : s.link.tx = none) (hslot : s.link.replySlot = none) : finishRestart s = s.onLink fun l =>
      { l with restart := none, tx := some ⟨Reply.frame r (restartReply keep), true, s.now⟩ } := by
  simp [finishRestart, placeReply, State.onLink, Link.kick, hk, hr, htx, hslot]

theorem releaseCleared_restart (h : s.line.releaseCause = .restart) :
    releaseCleared s = finishRestart (s.onLine LineUnit.idled) := if_pos h

end

/-- Settles O34: the reply of a RESTART with the line SEIZED is not made (`exec_restart_waits`), and the end of the clearing
time makes it alone (`releaseCleared_restart`, `finishRestart_sends`). -/
theorem restartWaitsForTheLine : Obligations.RestartWaitsForTheLine := by
  intro dt s now
  refine ⟨fun tag k hf hk hs => ⟨_, exec_restart_waits hf hk (by simp [hs]), ?_, rfl, rfl, rfl, rfl, rfl⟩,
    fun r keep e hs hc he hle hk hr htx hslot => ?_⟩
  · change s.line.restart now = _
    unfold LineUnit.restart
    rw [hs]
    rfl
  · have hdue : (advance dt s).line.state = .releasing ∧ due (advance dt s).line.releaseAt (advance dt s).now = true :=
      ⟨hs, due_some he hle⟩
    refine congrArg Host.Outcome.next ((if_pos hdue).trans ?_)
    rw [releaseCleared_restart (s := advance dt s) hc,
      finishRestart_sends (s := (advance dt s).onLine LineUnit.idled) hk hr htx hslot]
    cases keep <;> rfl

end Sys2Proof.Machine
end

section
/-! PROOF. The ends of listens and what the roll call and the confirmation answer (R135 to R138, R152 to R154, R163). -/

namespace Sys2Proof.Machine

section
variable {o : Order}

/-! ## Destinations after a result is written -/

theorem setDest_getElem {i : Nat} (x : DestResult) (j : Nat) : (setDest (i + 1) x o).dests[j]? =
    (o.dests[j]?).map fun d => if i = j then { d with result := x } else d := by
  simp only [setDest, Nat.add_sub_cancel, List.getElem?_modify]
  by_cases h : i = j <;> simp [h]

/-- A READY destination after a result is written: the one written, or another (R152). -/
theorem anyReady_setDest {i : Nat} (h1 : 1 ≤ i) (h2 : i ≤ o.dests.length) (x : DestResult) :
    (setDest i x o).anyReady = true ↔
      x = .ready ∨ ∃ (j : Nat) (d : Dest), j ≠ i - 1 ∧ o.dests[j]? = some d ∧ d.result = .ready := by
  obtain ⟨i, rfl⟩ := Nat.exists_eq_add_of_le' h1
  simp only [Order.anyReady, List.any_eq_true, beq_iff_eq, List.mem_iff_getElem?, setDest_getElem, Nat.add_sub_cancel]
  constructor
  · rintro ⟨d, ⟨j, hj⟩, hd⟩
    obtain ⟨e, he, rfl⟩ := Option.map_eq_some_iff.1 hj
    by_cases hij : i = j
    · exact .inl (by simpa [hij] using hd)
    · exact .inr ⟨j, e, Ne.symm hij, he, by simpa [hij] using hd⟩
  · rintro (rfl | ⟨j, d, hij, hj, hd⟩)
    · exact ⟨_, ⟨i, by rw [List.getElem?_eq_getElem h2]; rfl⟩, by simp⟩
    · exact ⟨d, ⟨j, by simp [hj, Ne.symm hij]⟩, hd⟩

/-- The next READY destination after the first one has its result (R163). -/
theorem firstReady_setDest {i k : Nat} {e : Dest} {x : DestResult} (hx : x ≠ .ready) (hik : i < k)
    (hk : o.dests[k]? = some e) (he : e.result = .ready)
    (hb : ∀ (j : Nat) (d : Dest), j < i → o.dests[j]? = some d → d.result ≠ .ready)
    (hm : ∀ (j : Nat) (d : Dest), i < j → j < k → o.dests[j]? = some d → d.result ≠ .ready) :
    (setDest (i + 1) x o).firstReady = some (k + 1) ∧ (setDest (i + 1) x o).stationAt (k + 1) = e.station := by
  have hget : (setDest (i + 1) x o).dests[k]? = some e := by simp [setDest_getElem, hk, hik.ne]
  refine ⟨firstReady_some hget he fun j d hj hd => ?_, stationAt_succ hget⟩
  rw [setDest_getElem] at hd
  obtain ⟨d', hd', rfl⟩ := Option.map_eq_some_iff.1 hd
  rcases Nat.lt_trichotomy j i with hlt | rfl | hgt
  · simpa [hlt.ne'] using hb j d' hlt hd'
  · simpa using hx
  · simpa [hgt.ne] using hm j d' hgt hj hd'

/-- None READY is left after the last one has its result (R163). -/
theorem firstReady_setDest_none {i : Nat} {x : DestResult} (hx : x ≠ .ready)
    (hb : ∀ (j : Nat) (d : Dest), j < i → o.dests[j]? = some d → d.result ≠ .ready)
    (ha : ∀ (j : Nat) (d : Dest), i < j → o.dests[j]? = some d → d.result ≠ .ready) :
    (setDest (i + 1) x o).firstReady = none := by
  refine firstReady_none fun d hd => ?_
  obtain ⟨j, hj⟩ := List.mem_iff_getElem?.1 hd
  rw [setDest_getElem] at hj
  obtain ⟨d', hd', rfl⟩ := Option.map_eq_some_iff.1 hj
  rcases Nat.lt_trichotomy j i with hlt | rfl | hgt
  · simpa [hlt.ne'] using hb j d' hlt hd'
  · simpa using hx
  · simpa [hgt.ne] using ha j d' hgt hd'

theorem confirmResult_ne_ready (out : Option ReplyTone) : confirmResult out ≠ .ready := by
  rcases out with _ | _ | _ <;> nofun

end

/-! ## The line's requests at a listening end -/

/-- The line stands SEIZED in QUIET and silence, and a listen has ended this moment. -/
structure State.ListenEnded (s : State) : Prop where
  seized : s.line.state = .seized
  quiet : s.line.activity = some .quiet
  silent : s.line.signal = .silent
  ended : s.line.lastListenEnd = some s.now

section
variable {s t : State} {r : RunRecord} {o : Order}

theorem State.ListenEnded.congr (h : s.ListenEnded) (hl : t.line = s.line) (hn : t.now = s.now) : t.ListenEnded :=
  ⟨hl ▸ h.seized, hl ▸ h.quiet, hl ▸ h.silent, by rw [hl, hn]; exact h.ended⟩

theorem beginSending_waits {l : LineUnit} {now : Nat} (h : l.lastListenEnd = some now) :
    l.beginSending now = { l with signal := .guardWait (now + 60000) } := by
  have hlt : now < now + guardTime := Nat.lt_add_of_pos_right (by decide)
  simp only [LineUnit.beginSending, h, hlt, if_true]
  rfl

/-- The unit after a call or a poll that waits for the guard (R133, R137). -/
def LineUnit.called (q : LineRequest) (a : Activity) (code now : Nat) (l : LineUnit) : LineUnit :=
  { l with activity := some a, callCode := some code, lastRequest := some q, signal := .guardWait (now + 60000) }

theorem State.ListenEnded.call (h : s.ListenEnded) {q : LineRequest} (hq : q = .call ∨ q = .poll) (a : Activity)
    (code : Nat) : lineCall q a code s = s.onLine (LineUnit.called q a code s.now) := by
  have htakes : s.line.takes q = true := by
    rcases hq with rfl | rfl <;> simp [LineUnit.takes, h.seized, h.quiet]
  rw [lineCall, if_pos htakes]
  dsimp only [State.onLine]
  rw [beginSending_waits (by exact h.ended)]
  rfl

theorem State.ListenEnded.hold (h : s.ListenEnded) : lineHold s = s.onLine fun l =>
    { l with
      activity := some .holding, signal := .silent, holdAt := some (s.now + 5000000), lastRequest := some .hold } :=
  if_pos (by simp [LineUnit.takes, h.seized, h.quiet])

/-- A start tone waits for the guard, and is not reported yet (R133, R141). -/
theorem State.ListenEnded.start (h : s.ListenEnded) (fig : Figures) : lineStart fig s = s.onLine fun l =>
    { l with
      activity := some .startTone, figures := some fig, holdAt := none, lastRequest := some .start
      signal := .guardWait (s.now + 60000) } := by
  have htakes : s.line.takes .start = true := by simp [LineUnit.takes, h.seized, h.quiet]
  rw [lineStart, if_pos htakes]
  unfold State.onLine
  simp only [h.silent]
  rw [beginSending_waits (by exact h.ended)]
  rfl

/-! ## The roll call -/

/-- NONE with attempts left: the same destination is called again (R152). -/
theorem rollCallStep_retries (hs : s.ListenEnded) (hr : s.run = some r) {out : Option ReplyTone}
    (h : r.network = .loop ∧ out = none ∧ r.used < r.attempts) : rollCallStep out r o s =
      ({ s with run := some { r with used := r.used + 1 } } : State).onLine
        (LineUnit.called .call .calling (s.callCodeOf (o.stationAt r.index)) s.now) := by
  have ht : State.ListenEnded { s with run := some { r with used := r.used + 1 } } := hs.congr rfl rfl
  rw [rollCallStep, if_pos h, onRun_some hr]
  exact ht.call (.inl rfl) _ _

/-- The outcome is written and the next destination is called (R152). -/
theorem rollCallStep_calls (hs : s.ListenEnded) (hr : s.run = some r) {out : Option ReplyTone} (hn : r.network = .loop)
    (hout : out ≠ none ∨ r.attempts ≤ r.used) (hlt : r.index < o.dests.length) : rollCallStep out r o s =
      (updateOrder o.number (setDest r.index (rollCallResult out))
        { s with run := some { r with index := r.index + 1, used := 1 } }).onLine
        (LineUnit.called .call .calling (s.callCodeOf (o.stationAt (r.index + 1))) s.now) := by
  have h1 : ¬(r.network = .loop ∧ out = none ∧ r.used < r.attempts) := fun ⟨_, ho, hu⟩ =>
    hout.elim (· ho) (Nat.not_le.2 hu)
  rw [rollCallStep, if_neg h1]
  dsimp only
  have ht : (updateOrder o.number (setDest r.index (rollCallResult out))
      { s with run := some { r with index := r.index + 1, used := 1 } }).ListenEnded := hs.congr rfl rfl
  rw [if_pos ⟨hn, hlt⟩, onRun_some (s := updateOrder o.number _ s) hr]
  exact ht.call (.inl rfl) _ _

theorem rollCallStep_ends {out : Option ReplyTone}
    (h : r.network = .dial ∨ (out ≠ none ∨ r.attempts ≤ r.used) ∧ o.dests.length ≤ r.index) :
    rollCallStep out r o s = rollCallEnd (updateOrder o.number (setDest r.index (rollCallResult out)) s) := by
  have h1 : ¬(r.network = .loop ∧ out = none ∧ r.used < r.attempts) := fun ⟨hn, ho, hu⟩ => by
    rcases h with h | ⟨h, -⟩
    · simp [h] at hn
    · exact h.elim (· ho) (Nat.not_le.2 hu)
  have h2 : ¬(r.network = .loop ∧ r.index < o.dests.length) := fun ⟨hn, hlt⟩ => by
    rcases h with h | ⟨-, h⟩
    · simp [h] at hn
    · exact Nat.not_le.2 hlt h
  exact (if_neg h1).trans (if_neg h2)

/-- The order as its defer duration begins (R154, R172). -/
def Order.deferred (now : Nat) (o : Order) : Order := { o with defer := .running now }

/-- The order's defer duration and the 60 s of its run begin (R154). -/
def State.deferred (r : RunRecord) (o : Order) (s : State) : State :=
  updateOrder o.number (Order.deferred s.now)
    { s with run := some { r with rollEnded := true, deferTimer := some (s.now + 60000000) } }

/-- With the START made at once the 60 s do not begin (R154, R155). -/
def State.startAsked (r : RunRecord) (o : Order) (s : State) : State :=
  updateOrder o.number (Order.deferred s.now)
    { s with run := some { r with rollEnded := true, startMade := true, deferTimer := none } }

section
variable (hr : s.run = some r) (ho : s.findOrder r.order = some o)
include hr ho

/-- With none READY the line is released (R154). -/
theorem rollCallEnd_releases (hs : s.ListenEnded) (hany : ¬o.anyReady = true) : rollCallEnd s =
    ({ s with run := some { r with rollEnded := true } } : State).onLine
      fun l => { l with lastRequest := some .release }.released .request s.now := by
  simp only [rollCallEnd, hr, ho, if_neg hany]
  rw [onRun_some hr]
  exact lineRelease_seized hs.seized

theorem rollCallEnd_defers (hany : o.anyReady = true) : rollCallEnd s =
    if ((examineStart (s.deferred r o)).run.map RunRecord.startMade).getD false then examineStart (s.deferred r o)
    else lineHold (examineStart (s.deferred r o)) := by
  have hd : (updateOrder o.number (Order.deferred s.now) (s.onRun fun r => { r with rollEnded := true })).onRun
      (fun r => { r with deferTimer := some (s.now + 60000000) }) = s.deferred r o := by
    rw [onRun_some hr, onRun_some (r := { r with rollEnded := true }) rfl]
    rfl
  simp only [rollCallEnd, hr, ho, if_pos hany]
  rw [← hd]
  rfl

omit hr in
theorem deferred_found : (s.deferred r o).findOrder r.order = some (o.deferred s.now) := by
  have hn : o.number = r.order := findOrder_number ho
  have hf := findOrder_updateOrder (Order.deferred s.now) (fun _ => rfl) ho
  rw [State.deferred, hn]
  exact hf

/-- Without the drum, the lamp and the carriage READY the line HOLDS (R154). -/
theorem rollCallEnd_holds (hs : s.ListenEnded) (hany : o.anyReady = true)
    (hnot : ¬(r.drumReady = true ∧ r.lampReady = true ∧ r.carriageReady = true ∧ r.startMade = false))
    (hmade : r.startMade = false) : rollCallEnd s = (s.deferred r o).onLine fun l =>
      { l with
        activity := some .holding, signal := .silent, holdAt := some (s.now + 5000000), lastRequest := some .hold } := by
  have hcond : startConditions { r with rollEnded := true, deferTimer := some (s.now + 60000000) } (o.deferred s.now)
      = false := by
    simp only [hmade, and_true] at hnot
    simp only [startConditions, Bool.and_eq_false_iff]
    grind
  have he : examineStart (s.deferred r o) = s.deferred r o := by
    simp only [examineStart, deferred_found ho, show (s.deferred r o).run = some _ from rfl, hcond]
    rfl
  have hl : (s.deferred r o).ListenEnded := hs.congr rfl rfl
  rw [rollCallEnd_defers hr ho hany, he, if_neg]
  · exact hl.hold
  · simp [State.deferred, hmade]

/-- With them READY the START is made at once (R154, R155). -/
theorem rollCallEnd_starts (hs : s.ListenEnded) (hany : o.anyReady = true) (hp : o.state = .preparing) (ha : r.abort = none)
    (hdrum : r.drumReady = true) (hlamp : r.lampReady = true) (hcar : r.carriageReady = true) (hmade : r.startMade = false) :
    rollCallEnd s = (s.startAsked r o).onLine fun l =>
      { l with
        activity := some .startTone, figures := some r.figures, holdAt := none, lastRequest := some .start
        signal := .guardWait (s.now + 60000) } := by
  have hcond : startConditions { r with rollEnded := true, deferTimer := some (s.now + 60000000) } (o.deferred s.now)
      = true := by
    have hready : (o.deferred s.now).anyReady = true := hany
    have hstate : (o.deferred s.now).state = .preparing := hp
    simp [startConditions, hready, hstate, ha, hdrum, hlamp, hcar, hmade]
  have he : examineStart (s.deferred r o) = lineStart r.figures (s.startAsked r o) :=
    examineStart_starts (r := { r with rollEnded := true, deferTimer := some (s.now + 60000000) }) rfl
      (deferred_found ho) hcond
  have hl : (s.startAsked r o).ListenEnded := hs.congr rfl rfl
  rw [rollCallEnd_defers hr ho hany, he, hl.start, if_pos]
  · rfl
  · rfl

end

/-- The result written and the defer duration begun are one update of the order. -/
theorem deferred_setDest (i : Nat) (x : DestResult) :
    (updateOrder o.number (setDest i x) s).deferred r (setDest i x o) =
      updateOrder o.number (Order.deferred s.now ∘ setDest i x)
        { s with run := some { r with rollEnded := true, deferTimer := some (s.now + 60000000) } } :=
  updateOrder_updateOrder (g := setDest i x) (fun _ => rfl)
    { s with run := some { r with rollEnded := true, deferTimer := some (s.now + 60000000) } }

theorem startAsked_setDest (i : Nat) (x : DestResult) :
    (updateOrder o.number (setDest i x) s).startAsked r (setDest i x o) =
      updateOrder o.number (Order.deferred s.now ∘ setDest i x)
        { s with run := some { r with rollEnded := true, startMade := true, deferTimer := none } } :=
  updateOrder_updateOrder (g := setDest i x) (fun _ => rfl)
    { s with run := some { r with rollEnded := true, startMade := true, deferTimer := none } }

/-! ## The confirmation -/

/-- The destination polled has its result, and on LOOP the next one is polled (R163). -/
theorem confirmStep_loop {out : Option ReplyTone} {i : Nat} (h : o.firstReady = some i) (hn : r.network = .loop) :
    confirmStep out r o s = pollNext (updateOrder o.number (setDest i (confirmResult out)) s) := by
  simp [confirmStep, h, hn]

/-- On DIAL the release follows at once (R163). -/
theorem confirmStep_dial {out : Option ReplyTone} {i : Nat} (h : o.firstReady = some i) (hn : r.network = .dial) :
    confirmStep out r o s = lineRelease (updateOrder o.number (setDest i (confirmResult out)) s) := by
  simp [confirmStep, h, hn]

/-! ## The commands -/

/-- The state in which a listen, for a reply or for dial tone, has just ended (R135, R138). -/
def State.unheard (dt : Nat) (s : State) : State := (advance dt s).onLine (LineUnit.endListen (s.now + dt))

theorem unheard_ended {dt : Nat} (h : s.line.state = .seized) : (s.unheard dt).ListenEnded := ⟨h, rfl, rfl, rfl⟩

/-- The run, its order and the line after a result is written at a listening end. -/
theorem unheard_written {dt : Nat} (hs : s.line.state = .seized) (hr : s.run = some r) (ho : s.findOrder r.order = some o)
    (i : Nat) (x : DestResult) : (updateOrder o.number (setDest i x) (s.unheard dt)).run = some r ∧
      (updateOrder o.number (setDest i x) (s.unheard dt)).findOrder r.order = some (setDest i x o) ∧
      (updateOrder o.number (setDest i x) (s.unheard dt)).ListenEnded := by
  refine ⟨hr, ?_, (unheard_ended hs).congr rfl rfl⟩
  rw [show o.number = r.order from findOrder_number ho]
  exact findOrder_updateOrder (s := s.unheard dt) _ (fun _ => rfl) ho

theorem replyOlder_some {l : LineUnit} {t now op q : Nat} {w : Option Nat} {tone : ReplyTone}
    (hg : l.signal = .listen op w (some (tone, q))) (h : q + t ≤ now) : l.replyOlder t now = some tone := by
  simp only [LineUnit.replyOlder, hg, if_pos h]

theorem exec_replyEnd {dt : Nat} {tone : ReplyTone} (h : s.line.replyOlder 80000 (s.now + dt) = some tone) :
    exec (.replyEnd dt) s = .next (listenOutcome (some tone) (s.unheard dt)) := by
  have e : (advance dt s).line.replyOlder (ms 80) (advance dt s).now = some tone := h
  change execReplyEnd dt s = _
  simp only [execReplyEnd, e]
  rfl

theorem exec_replyOverlong {dt : Nat} {tone : ReplyTone} (h : s.line.replyOlder 3000000 (s.now + dt) = some tone) :
    exec (.replyOverlong dt) s = .next (listenOutcome (some tone) (s.unheard dt)) := by
  have e : (advance dt s).line.replyOlder (sec 3) (advance dt s).now = some tone := h
  change execReplyOverlong dt s = _
  simp only [execReplyOverlong, e]
  rfl

theorem exec_replyWindowExpiry {dt op w : Nat} (hg : s.line.signal = .listen op (some w) none) (h : w ≤ s.now + dt) :
    exec (.replyWindowExpiry dt) s = .next (listenOutcome none (s.unheard dt)) := by
  have hover : s.line.windowOver (s.now + dt) = true := by simp [LineUnit.windowOver, hg, h]
  exact congrArg Host.Outcome.next (if_pos hover)

/-- Dial tone has been watched for 5 s (R138). -/
theorem exec_noDialTone {dt b : Nat} (hb : s.line.signal = .dialTone b) (h : b + 5000000 ≤ s.now + dt) :
    exec (.noDialTone dt) s = .next (noDialToneReport (s.unheard dt)) :=
  congrArg Host.Outcome.next (if_pos ((dialWatched_iff hb).2 h))

/-- A listen ends by its reply's end, an overlong reply or its window, and its outcome is reported (R135, R136, R147). -/
theorem exec_listenEnds {dt : Nat} {c : Instr} {out : Option ReplyTone}
    (h : (∃ op w tone q, s.line.signal = .listen op w (some (tone, q)) ∧ out = some tone ∧
        (c = .replyEnd dt ∧ q + 80000 ≤ s.now + dt ∨ c = .replyOverlong dt ∧ q + 3000000 ≤ s.now + dt)) ∨
      ∃ op w, s.line.signal = .listen op (some w) none ∧ out = none ∧ w ≤ s.now + dt ∧ c = .replyWindowExpiry dt) :
    exec c s = .next (listenOutcome out (s.unheard dt)) := by
  rcases h with ⟨op, w, tone, q, hg, rfl, ⟨rfl, hq⟩ | ⟨rfl, hq⟩⟩ | ⟨op, w, hg, rfl, hw, rfl⟩
  · exact exec_replyEnd (replyOlder_some hg hq)
  · exact exec_replyOverlong (replyOlder_some hg hq)
  · exact exec_replyWindowExpiry hg hw

end

/-- Settles O48: a listen's end is reported (`exec_listenEnds`) while the line stands in QUIET (`State.ListenEnded`), and
the roll call (`rollCallStep_retries`, `rollCallStep_calls`, `rollCallEnd_releases`, `rollCallEnd_holds`,
`rollCallEnd_starts`) or the confirmation (`confirmStep_some`) goes on. -/
theorem listensEndAndAreAnswered : Obligations.ListensEndAndAreAnswered := by
  intro dt s r o c out hs hr ho ha now quiet calling released table rolled confirmed others
  have hended := unheard_ended (dt := dt) hs
  have hrolled : rolled = rollCallResult out := by rcases out with _ | _ | _ <;> rfl
  have hconfirmed : confirmed = confirmResult out := by rcases out with _ | _ | _ <;> rfl
  refine ⟨fun hc => ?_, fun b hb => ⟨fun hlt => ?_, fun hle hp h1 h2 hno => ?_⟩⟩
  · have hexec := exec_listenEnds hc
    rw [listenOutcome, withRun_live (s := s.unheard dt) hr ho ha] at hexec
    refine ⟨fun hp hloop hout hused => ?_, fun hp hloop hout hlt => ?_, fun hp hend h1 h2 => ?_,
      fun hp i d hi hd hbefore => ?_⟩
    · simp only [hp] at hexec
      rw [hexec, rollCallStep_retries hended hr ⟨hloop, hout, hused⟩]
      rfl
    · simp only [hp] at hexec
      rw [hexec, rollCallStep_calls hended hr hloop hout hlt, hrolled]
      rfl
    · simp only [hp] at hexec
      rw [hexec, rollCallStep_ends hend, hrolled]
      have hany := anyReady_setDest (o := o) h1 h2 (rollCallResult out)
      obtain ⟨hrun, hu, hl⟩ := unheard_written (dt := dt) hs hr ho r.index (rollCallResult out)
      refine ⟨fun hx hno => ?_, fun hready hnot hmade => ?_, fun hready hdrum hlamp hcar hmade => ?_⟩
      · rw [rollCallEnd_releases hrun hu hl fun hr => (hany.1 hr).elim hx hno]
        rfl
      · rw [rollCallEnd_holds hrun hu hl (hany.2 hready) hnot hmade, deferred_setDest]
        rfl
      · rw [rollCallEnd_starts hrun hu hl (hany.2 hready) hp ha hdrum hlamp hcar hmade,
          startAsked_setDest]
        rfl
    · simp only [hp] at hexec
      rw [hexec, hconfirmed]
      have hfirst := firstReady_some hi hd hbefore
      obtain ⟨hrun, hu, hl⟩ := unheard_written (dt := dt) hs hr ho (i + 1) (confirmResult out)
      have hne := confirmResult_ne_ready out
      refine ⟨fun hloop k e hik hk he hm => ?_, fun hlast => ?_⟩
      · obtain ⟨hnext, hstation⟩ := firstReady_setDest hne hik hk he hbefore hm
        rw [confirmStep_loop hfirst hloop, pollNext_some hrun hu hnext, hstation, hl.call (.inr rfl)]
        rfl
      · cases hn : r.network with
        | loop =>
          have hafter := hlast.resolve_left (by simp [hn])
          rw [confirmStep_loop hfirst hn, pollNext_none hrun hu (firstReady_setDest_none hne hbefore hafter),
            lineRelease_seized hl.seized]
          rfl
        | dial =>
          rw [confirmStep_dial hfirst hn, lineRelease_seized hl.seized]
          rfl
  · exact congrArg Host.Outcome.next (if_neg (mt (dialWatched_iff hb).1 (Nat.not_le.2 hlt)))
  · have hany := anyReady_setDest (o := o) h1 h2 .noLine
    obtain ⟨hrun, hu, hl⟩ := unheard_written (dt := dt) hs hr ho r.index .noLine
    rw [exec_noDialTone hb hle, noDialToneReport, withRun_live (s := s.unheard dt) hr ho ha]
    simp only [hp]
    rw [rollCallEnd_releases hrun hu hl fun hr => (hany.1 hr).elim nofun hno]
    rfl

end Sys2Proof.Machine
end

section
/-! PROOF. SLIP_CONTROL FEED and REPRINT (R187, R188). -/

namespace Sys2Proof.Machine

section
variable {s : State} {n : Nat} {sl : Slip}

/-! ## FEED, check by check -/

theorem serveSlipFeed_zero : serveSlipFeed 0 s = (.refused .fieldRange 2, s) := rfl

section
variable (h0 : n ≠ 0) (h255 : n ≤ 255)
include h0 h255

theorem serveSlipFeed_busy (hp : s.slips.printer ≠ .idle) : serveSlipFeed n s = (.refused .state 1, s) := by
  simp [serveSlipFeed, h0, Nat.not_lt.2 h255, hp]

theorem serveSlipFeed_paperOut (hp : s.slips.printer = .idle) (ho : s.slips.paper = .out) :
    serveSlipFeed n s = (.refused .state 2, s) := by
  simp [serveSlipFeed, h0, Nat.not_lt.2 h255, hp, ho]

theorem serveSlipFeed_ok (hp : s.slips.printer = .idle) (ho : s.slips.paper = .present) :
    serveSlipFeed n s = (.ok [], s.onSlips fun u => { u with printer := .feeding .host n s.now }) := by
  simp [serveSlipFeed, h0, Nat.not_lt.2 h255, hp, ho]

end

/-! ## REPRINT, check by check -/

theorem serveSlipReprint_none (h : s.slips.lastPrinted = none) :
    serveSlipReprint s = (.refused .notFound 0, s) := by
  simp [serveSlipReprint, h]

theorem serveSlipReprint_full (h : s.slips.lastPrinted = some sl) (hq : s.slips.queue.length = 8) :
    serveSlipReprint s = (.refused .tableFull 0, s) := by
  simp [serveSlipReprint, h, hq]

theorem serveSlipReprint_ok (h : s.slips.lastPrinted = some sl) (hq : s.slips.queue.length < 8) :
    serveSlipReprint s = (.ok (u16 sl.order), joinSlip { sl with reprint := true } s) := by
  simp [serveSlipReprint, h, hq]

/-- Settles O32: the checks of `serveSlipFeed` and `serveSlipReprint` in their order; a reprint is a slip that joins
the queue (`joinSlip_eq`). -/
theorem slipFeedAndReprint : Obligations.SlipFeedAndReprint := by
  intro dt tag v s hf feed rf reprint rr u
  have hfeed : ∀ (a : Reply) (t : State), t.link.tx = s.link.tx → t.link.replySlot = s.link.replySlot →
      serveSlipFeed v.toNat (s.serving dt rf) = (a, t.serving dt rf) → feed = .next (t.answered dt rf a) :=
    fun a t htx hslot h => exec_request (i := .slipControlFeed dt tag [v]) rfl hf (by simp) rfl rfl a t htx hslot
      (congrArg answered h)
  have hreprint : ∀ (a : Reply) (t : State), t.link.tx = s.link.tx → t.link.replySlot = s.link.replySlot →
      serveSlipReprint (s.serving dt rr) = (a, t.serving dt rr) → reprint = .next (t.answered dt rr a) :=
    fun a t htx hslot h => exec_request (i := .slipControlReprint dt tag [v]) rfl hf (by simp) rfl rfl a t htx hslot
      (congrArg answered h)
  have hpos : v ≠ 0#8 → v.toNat ≠ 0 := fun hv h => hv (BitVec.eq_of_toNat_eq h)
  have hbyte : v.toNat ≤ 255 := Nat.le_of_lt_succ v.isLt
  refine ⟨fun hv => ?_, fun hv hp => ?_, fun hv hp ho => ?_, fun hv hp ho => ?_, fun hl => ?_, fun sl hl hq => ?_,
    fun sl hl hq => ?_⟩
  · exact hfeed _ s rfl rfl (hv ▸ serveSlipFeed_zero)
  · exact hfeed _ s rfl rfl (serveSlipFeed_busy (hpos hv) hbyte hp)
  · exact hfeed _ s rfl rfl (serveSlipFeed_paperOut (hpos hv) hbyte hp ho)
  · exact hfeed _ { s with slips := _ } rfl rfl (serveSlipFeed_ok (hpos hv) hbyte hp ho)
  · exact hreprint _ s rfl rfl (serveSlipReprint_none hl)
  · exact hreprint _ s rfl rfl (serveSlipReprint_full hl hq)
  · exact hreprint _ { s with slips := _ } rfl rfl
      ((serveSlipReprint_ok (s := s.serving dt rr) hl hq).trans (congrArg (Prod.mk _) (joinSlip_eq _ _)))

end

end Sys2Proof.Machine
end

section
/-! PROOF. The queue of commands (log entry 2), and the link receiver (R191): what each byte does to it, and the bytes of a
whole frame one after another. -/

namespace Sys2Proof.Machine

/-- Settles O1: the two cases of `step`. -/
theorem stepRunsFront : Obligations.StepRunsFront := by
  intro s
  refine ⟨fun c rest h => ?_, fun h => ?_⟩
  · simp only [step, h]
  · simp only [step, h]

/-! ## A byte at the receiver -/

section
variable {b : Byte} {now : Nat} {gap : Option Nat}

theorem takeByte_noStart (hb : b ≠ 0xA5#8) : takeByte b now .hunt gap = ⟨.hunt, gap, false, none⟩ := if_neg hb

theorem takeByte_start : takeByte 0xA5#8 now .hunt gap = ⟨.awaitLength, some (now + ms 10), false, none⟩ := rfl

theorem takeByte_length (hb : b.toNat ≤ 60) :
    takeByte b now .awaitLength gap = ⟨.inFrame [b] (b.toNat + 4), some (now + ms 10), false, none⟩ :=
  if_neg (Nat.not_lt.2 hb)

theorem takeByte_tooLong (hb : 60 < b.toNat) : takeByte b now .awaitLength gap = ⟨.hunt, none, true, none⟩ := if_pos hb

theorem takeByte_later (kept : List Byte) (k : Nat) :
    takeByte b now (.inFrame kept (k + 2)) gap = ⟨.inFrame (kept ++ [b]) (k + 1), some (now + ms 10), false, none⟩ := by
  simp [takeByte]

theorem takeByte_last (kept : List Byte) : takeByte b now (.inFrame kept 1) gap = endFrame (kept ++ [b]) := rfl

end

/-- The end of a frame, with the bytes the CRC covers and the two bytes of the CRC apart. -/
theorem endFrame_append (body : List Byte) {crc : List Byte} (h : crc.length = 2) : endFrame (body ++ crc) =
    if crcBytes body = crc then ⟨.hunt, none, false, some ⟨body.getD 1 0, body.getD 2 0, body.drop 3⟩⟩
    else ⟨.hunt, none, true, none⟩ := by
  have hlen : (body ++ crc).length - 2 = body.length := by simp [h]
  simp only [endFrame, hlen, List.take_left, List.drop_left]

/-- The request that a received frame is (R192). -/
def Frame.request (f : Frame) : Request := ⟨f.kind, f.tag, f.payload⟩

theorem endFrame_covered (f : Frame) :
    endFrame (f.covered ++ crcBytes f.covered) = ⟨.hunt, none, false, some f.request⟩ :=
  (endFrame_append _ rfl).trans (if_pos rfl)

/-! ## What LINK_BYTE_RECEIVED answers -/

/-- `s`, `dt` microseconds later, with the receiver and its gap timer as given. -/
def State.hearing (dt : Nat) (rx : Receiver) (gap : Option Nat) (s : State) : State :=
  { s with now := s.now + dt, link := { s.link with receiver := rx, gapTimer := gap } }

theorem State.hearing_hearing (a b : Nat) (rx rx' : Receiver) (gap gap' : Option Nat) (s : State) :
    (s.hearing a rx gap).hearing b rx' gap' = s.hearing (a + b) rx' gap' := by
  simp only [State.hearing, Nat.add_assoc]

section
variable {s : State} {dt : Nat} {b : Byte} {rx : Receiver} {gap : Option Nat}

theorem exec_byte_taken (h : takeByte b (s.now + dt) s.link.receiver s.link.gapTimer = ⟨rx, gap, false, none⟩) :
    exec (.linkByteReceived dt b) s = .next (s.hearing dt rx gap) := by
  change Host.Outcome.next (receiveByte b (advance dt s)) = _
  simp [receiveByte, h, State.onLink, State.hearing, advance]

theorem exec_byte_breaks (h : takeByte b (s.now + dt) s.link.receiver s.link.gapTimer = ⟨rx, gap, true, none⟩) :
    exec (.linkByteReceived dt b) s =
      .next (({ s with link := { s.link with linkError := true } } : State).hearing dt rx gap) := by
  change Host.Outcome.next (receiveByte b (advance dt s)) = _
  simp [receiveByte, h, State.onLink, State.hearing, advance]

theorem exec_byte_completes {r : Request}
    (h : takeByte b (s.now + dt) s.link.receiver s.link.gapTimer = ⟨rx, gap, false, some r⟩) :
    exec (.linkByteReceived dt b) s = .next (offerFrame r (s.hearing dt rx gap)) := by
  change Host.Outcome.next (receiveByte b (advance dt s)) = _
  simp [receiveByte, h, State.onLink, State.hearing, advance]

/-- With its receiver in HUNT and its gap timer stopped, as they stand, a state has only the time passed. -/
theorem State.hearing_hunt (hrx : s.link.receiver = .hunt) (hgap : s.link.gapTimer = none) :
    s.hearing dt .hunt none = advance dt s := by
  simp only [State.hearing, advance, ← hrx, ← hgap]

/-- Settles O5: the bytes case by case (`takeByte_…`), and what the receiver does with each. -/
theorem receiverActsOnBytes : Obligations.ReceiverActsOnBytes := by
  intro dt b s gap linked
  refine ⟨fun hrx hb => ?_, fun hrx => ?_, fun hrx hb => ?_, fun hrx hb => ?_, fun kept k hrx => ?_,
    fun body hi hrx hcrc => ?_, fun g hg hle => ?_⟩
  · exact exec_byte_taken (by rw [hrx]; exact takeByte_noStart hb)
  · exact exec_byte_taken (by rw [hrx]; exact takeByte_start)
  · exact exec_byte_taken (by rw [hrx]; exact takeByte_length hb)
  · exact exec_byte_breaks (by rw [hrx]; exact takeByte_tooLong hb)
  · exact exec_byte_taken (by rw [hrx]; exact takeByte_later kept k)
  · refine exec_byte_breaks ?_
    rw [hrx, takeByte_last, List.append_assoc]
    exact (endFrame_append body rfl).trans (if_neg hcrc)
  · have hdue : due (advance dt s).link.gapTimer (advance dt s).now = true := due_some hg hle
    exact congrArg Host.Outcome.next (if_pos hdue)

/-! ## The bytes of a whole frame -/

theorem receiveAll_cons {t : State} (h : exec (.linkByteReceived dt b) s = .next t) (rest : List (Nat × Byte)) :
    receiveAll ((dt, b) :: rest) s = receiveAll rest t := by
  simp only [receiveAll, h]

/-- After its length byte: the bytes kept and the bytes still to come are together what the CRC covers and the CRC, so the last
of them completes the frame. -/
theorem receiveAll_inFrame (f : Frame) : ∀ (bytes : List (Nat × Byte)) (kept : List Byte) (t : Nat) (gap : Option Nat),
    bytes ≠ [] → kept ++ bytes.map Prod.snd = f.covered ++ crcBytes f.covered →
    receiveAll bytes (s.hearing t (.inFrame kept bytes.length) gap) =
      .next (offerFrame f.request (s.hearing (t + (bytes.map Prod.fst).sum) .hunt none))
  | [], _, _, _, hne, _ => absurd rfl hne
  | [(d, b)], kept, t, gap, _, hall => by
    have hlast := exec_byte_completes (s := s.hearing t (.inFrame kept 1) gap) (dt := d)
      ((takeByte_last (b := b) kept).trans (by rw [← endFrame_covered f, ← hall]; rfl))
    rw [State.hearing_hearing] at hlast
    exact receiveAll_cons hlast []
  | (d, b) :: x :: rest, kept, t, gap, _, hall => by
    have hlater := exec_byte_taken (s := s.hearing t (.inFrame kept (rest.length + 2)) gap) (dt := d)
      (takeByte_later (b := b) kept rest.length)
    rw [State.hearing_hearing] at hlater
    rw [List.map_cons, List.sum_cons, ← Nat.add_assoc]
    exact (receiveAll_cons hlater _).trans
      (receiveAll_inFrame f (x :: rest) (kept ++ [b]) (t + d) _ (by simp) (by simpa using hall))

/-- The bytes of a frame, from a receiver in HUNT: the frame is offered to the holding buffer. -/
theorem receiveAll_frame {f : Frame} (hp : f.payload.length ≤ 60) (hrx : s.link.receiver = .hunt)
    (hgap : s.link.gapTimer = none) {bytes : List (Nat × Byte)} (hbytes : bytes.map Prod.snd = f.bytes) :
    receiveAll bytes s = .next (offerFrame f.request (advance (bytes.map Prod.fst).sum s)) := by
  obtain ⟨⟨d, _⟩, tail, rfl, rfl, htail⟩ := List.map_eq_cons_iff.1 hbytes
  obtain ⟨⟨e, _⟩, rest, rfl, rfl, hrest⟩ := List.map_eq_cons_iff.1 htail
  have hn : (BitVec.ofNat 8 f.payload.length).toNat = f.payload.length := by simp; omega
  have hlen : rest.length = f.payload.length + 4 := by
    simpa [crcBytes] using congrArg List.length hrest
  have hstart := exec_byte_taken (s := s) (dt := d) (b := 0xA5#8) (by rw [hrx]; exact takeByte_start)
  have hlength := exec_byte_taken (s := s.hearing d .awaitLength (some (s.now + d + ms 10))) (dt := e)
    (takeByte_length (hn.trans_le hp))
  rw [State.hearing_hearing, hn, ← hlen] at hlength
  refine (receiveAll_cons hstart _).trans ((receiveAll_cons hlength _).trans ?_)
  rw [receiveAll_inFrame f rest _ _ _ (by rintro rfl; simp at hlen) (by rw [hrest]; rfl), State.hearing_hunt hrx hgap]
  simp [Nat.add_assoc]

/-- A request row whose payload fits a frame offers that frame to the holding buffer. -/
theorem exec_offered {i : Instr} {f : Frame} (hi : i.frame = some (dt, f)) (hp : f.payload.length ≤ 60) :
    exec i s = .next (offerFrame f.request (advance dt s)) :=
  (exec_frame hi s).trans (congrArg Host.Outcome.next (if_neg (Nat.not_lt.2 hp)))

/-- Settles O4: both are the offer of the frame to the holding buffer (`receiveAll_frame`, `exec_offered`). -/
theorem requestRowIsItsFrame : Obligations.RequestRowIsItsFrame := by
  intro i dt f bytes s hi hp hrx hgap hbytes hsum
  rw [receiveAll_frame hp hrx hgap hbytes, exec_offered hi hp, hsum]

end

end Sys2Proof.Machine
end

section
/-! PROOF. The holding buffer and the serving of its requests (R192 to R194), and the transmitter with the notice queue
(R192, R195). -/

namespace Sys2Proof.Machine

/-! ## The holding buffer -/

section
variable {s : State} {r : Request}

theorem Link.inService_iff (l : Link) : l.inService = true ↔
    l.replySlot.isSome ∨ l.restart.isSome ∨ ∃ x, l.tx = some x ∧ x.isReply = true := by
  cases htx : l.tx <;> simp [Link.inService, htx, or_assoc]

/-- A request in service is not served again (R193). -/
theorem serveFront_inService (h : s.link.inService = true) : serveFront s = s := by
  unfold serveFront
  split
  · rfl
  · exact if_pos h

theorem serveFront_none (h : s.link.holding = []) : serveFront s = s := by
  simp only [serveFront, h]

theorem offerFrame_full (h : s.link.holding.length = 2) : offerFrame r s = s.onLink fun l => { l with linkError := true } :=
  if_neg (by omega)

theorem offerFrame_behind (hlen : s.link.holding.length < 2) (h : s.link.inService = true) :
    offerFrame r s = s.onLink fun l => { l with holding := l.holding ++ [r] } :=
  (if_pos hlen).trans (serveFront_inService h)

end

/-- Settles O6: `offerFrame_full` and `offerFrame_behind`. -/
theorem holdingBufferTakesTwo : Obligations.HoldingBufferTakesTwo := by
  intro i dt f s hi hp
  rw [exec_offered hi hp]
  refine ⟨fun htwo => congrArg Host.Outcome.next (offerFrame_full htwo), fun r hone hservice => ?_⟩
  have hbehind := offerFrame_behind (s := advance dt s) (r := f.request) (by simp [hone]) (s.link.inService_iff.2 hservice)
  rw [hbehind]
  simp [State.onLink, hone, Frame.request]

/-! ## The checks of a served request -/

section
variable {s : State} {k tag : Byte} {p : List Byte}

theorem knownKind_iff : knownKind k = true ↔ 1 ≤ k.toNat ∧ k.toNat ≤ 0x13 := by simp [knownKind]

theorem answer_unknownKind (h : k.toNat = 0 ∨ 0x13 < k.toNat) :
    answer ⟨k, tag, p⟩ s = (some (.refused .unknownKind k.toNat), s) :=
  if_neg fun hk => by
    obtain ⟨h1, h19⟩ := knownKind_iff.1 hk
    exact h.elim (Nat.one_le_iff_ne_zero.1 h1) (Nat.not_lt.2 h19)

theorem answer_badLength (h1 : 1 ≤ k.toNat) (h19 : k.toNat ≤ 0x13) (hl : lengthAgrees k p = false) :
    answer ⟨k, tag, p⟩ s = (some (.refused .badLength p.length), s) :=
  (if_pos (knownKind_iff.2 ⟨h1, h19⟩)).trans (if_neg (by simp [hl]))

/-- A request answered without an effect, on a free link. -/
theorem exec_answered {i : Instr} {dt : Nat} {f : Frame} {a : Reply} (hi : i.frame = some (dt, f)) (hf : s.LinkFree)
    (hp : f.payload.length ≤ 60) (h : ∀ t, answer f.request t = (some a, t)) :
    exec i s = .next (s.answered dt f.request a) := by
  rw [exec_frame hi, arrive_free hf hp]
  change Host.Outcome.next (match answer f.request (s.serving dt f.request) with
    | (some a, t) => placeReply f.request a t
    | (none, t) => t) = _
  rw [h]
  exact congrArg Host.Outcome.next (placeReply_serving hf _ _ (l := s.link) rfl rfl rfl)

end

/-- Settles O7: the two checks before a request goes to its owner. -/
theorem requestsAreChecked : Obligations.RequestsAreChecked := fun _ _ _ _ hi hp hf =>
  ⟨fun hk => exec_answered hi hf hp fun _ => answer_unknownKind hk,
    fun h1 h19 hl => exec_answered hi hf hp fun _ => answer_badLength h1 h19 hl⟩

/-! ## The transmitter's choice -/

section
variable {l : Link} {now : Nat}

theorem Link.kick_sending (h : l.tx ≠ none) : l.kick now = l := by
  obtain ⟨x, hx⟩ := Option.ne_none_iff_exists'.1 h
  simp only [Link.kick, hx]

theorem Link.kick_reply {f : Frame} (htx : l.tx = none) (hslot : l.replySlot = some f) :
    l.kick now = { l with replySlot := none, tx := some ⟨f, true, now⟩ } := by
  simp only [Link.kick, htx, hslot]

/-- Notices wait for the reply of a held request (R195, log entry 4). -/
theorem Link.kick_held (hslot : l.replySlot = none) (h : l.holding ≠ []) : l.kick now = l := by
  obtain ⟨r, rs, hr⟩ := List.exists_cons_of_ne_nil h
  cases htx : l.tx <;> simp only [Link.kick, htx, hslot, hr]

/-- With no request in hand the oldest notice is sent, if there is one. -/
theorem Link.kick_notice (htx : l.tx = none) (hslot : l.replySlot = none) (hh : l.holding = []) :
    l.kick now = { l with tx := l.notices.head?.map fun n => ⟨n.frame, false, now⟩, notices := l.notices.tail } := by
  cases hn : l.notices with
  | nil =>
    have hk : l.kick now = l := by simp only [Link.kick, htx, hslot, hh, hn]
    rw [hk]
    cases l
    simp_all
  | cons n ns => simp only [Link.kick, htx, hslot, hh, hn, List.head?_cons, Option.map_some, List.tail_cons]

end

/-- Settles O10: a notice placed on an idle link is the oldest notice that the transmitter takes (`Link.kick_notice`); behind
a frame or a held request it is queued (`place_serving`). -/
theorem noticeQueueHolds24 : Obligations.NoticeQueueHolds24 := by
  refine fun now n l => ⟨fun htx hslot hh hn => ?_, fun hwait => ?_⟩
  · have hroom : l.notices.length < 24 := by simp [hn]
    rw [Link.place, if_pos hroom]
    refine (Link.kick_notice (l := { l with notices := l.notices ++ [n] }) htx hslot hh).trans ?_
    simp [hn, Notice.frame]
  · rw [place_serving hwait]
    exact ⟨fun hroom => if_pos hroom, fun hfull => if_neg (by omega)⟩

/-! ## FRAME_SENT -/

theorem Frame.time_eq (f : Frame) : f.time = (f.payload.length + 6) * 10000000 / 57600 := by
  rw [Frame.time, Nat.mul_assoc]

/-- A frame has been sent in full: the transmitter is free, and a reply's request leaves the holding buffer (R192). -/
def Link.freed (x : Sending) (l : Link) : Link :=
  { l with tx := none, holding := if x.isReply then l.holding.tail else l.holding }

section
variable {s : State} {x : Sending} {dt : Nat}

theorem Link.txDue_iff {l : Link} {now : Nat} (hx : l.tx = some x) :
    l.txDue now = true ↔ x.since + x.frame.time ≤ now := by
  simp only [Link.txDue, hx, decide_eq_true_eq]

theorem exec_frameSent_early (hx : s.link.tx = some x) (h : s.now + dt < x.since + x.frame.time) :
    exec (.frameSent dt) s = .next (advance dt s) :=
  congrArg Host.Outcome.next (if_neg fun hd => Nat.not_lt.2 ((Link.txDue_iff hx).1 hd) h)

theorem exec_frameSent (hx : s.link.tx = some x) (h : x.since + x.frame.time ≤ s.now + dt) : exec (.frameSent dt) s =
    .next ((serveFront ((advance dt s).onLink (Link.freed x))).onLink (Link.kick (s.now + dt))) := by
  have hdone : exec (.frameSent dt) s = .next (frameDone (advance dt s)) :=
    congrArg Host.Outcome.next (if_pos ((Link.txDue_iff (l := (advance dt s).link) hx).2 h))
  rw [hdone]
  simp only [frameDone, advance_link, hx]
  rfl

/-- When no held request is served, the transmitter alone goes on. -/
theorem exec_frameSent_kick (hx : s.link.tx = some x) (h : x.since + x.frame.time ≤ s.now + dt)
    (hserve : (s.link.freed x).holding = [] ∨ (s.link.freed x).inService = true) {l : Link}
    (hl : (s.link.freed x).kick (s.now + dt) = l) : exec (.frameSent dt) s = .next { advance dt s with link := l } := by
  have hsame : serveFront ((advance dt s).onLink (Link.freed x)) = (advance dt s).onLink (Link.freed x) :=
    hserve.elim (fun hh => serveFront_none hh) fun hs => serveFront_inService hs
  rw [exec_frameSent hx h, hsame, ← hl]
  rfl

end

/-- Settles O8: no held request is served in any of the four cases (`exec_frameSent_kick`), and the transmitter takes the
reply (`Link.kick_reply`), the oldest notice (`Link.kick_notice`), or waits (`Link.kick_held`). -/
theorem transmitterChoosesNext : Obligations.TransmitterChoosesNext := by
  intro dt s x hx now sent linked next
  rw [← Frame.time_eq]
  refine ⟨exec_frameSent_early hx, fun h => ⟨fun f hn hslot => ?_, fun hn hslot hh => ?_, fun r hr hslot _ hh => ?_,
    fun r rs hn hslot hrestart hh => ?_⟩⟩
  · have hs : (s.link.freed x).inService = true := (Link.inService_iff _).2 (.inl (by simp [Link.freed, hslot]))
    refine exec_frameSent_kick hx h (.inr hs) ((Link.kick_reply (l := s.link.freed x) rfl hslot).trans ?_)
    simp [Link.freed, hn, now]
  · have he : (s.link.freed x).holding = [] := by simp [Link.freed, hn, hh]
    refine exec_frameSent_kick hx h (.inl he) ((Link.kick_notice (l := s.link.freed x) rfl hslot he).trans ?_)
    simp [Link.freed, hn, next, now]
  · have he : (s.link.freed x).holding = [] := by simp [Link.freed, hr, hh]
    refine exec_frameSent_kick hx h (.inl he) ((Link.kick_notice (l := s.link.freed x) rfl hslot he).trans ?_)
    simp [Link.freed, hr, hh, next, now]
  · have hs : (s.link.freed x).inService = true := (Link.inService_iff _).2 (.inr (.inl hrestart))
    have hheld : (s.link.freed x).holding ≠ [] := by simp [Link.freed, hn, hh]
    refine exec_frameSent_kick hx h (.inr hs) ((Link.kick_held (l := s.link.freed x) hslot hheld).trans ?_)
    simp [Link.freed, hn]

/-! ## The next request -/

section
variable {s t : State} {r : Request}

/-- A RESTART that leaves its answer open empties the notice queue and keeps the rest of the link (R201). -/
theorem serveRestart_open {p : List Byte} (h : serveRestart p s = (none, t)) :
    ∃ keep, t.link = { s.link with notices := [], restart := some keep } := by
  unfold serveRestart at h
  dsimp only at h
  split at h
  · simp at h
  · split at h
    · simp at h
    · obtain ⟨-, rfl⟩ := Prod.mk.inj h
      exact ⟨_, rfl⟩

/-- Every other request is answered at once (R193). -/
theorem serveKind_open {k : Nat} {p : List Byte} (h : serveKind k p s = (none, t)) : serveRestart p s = (none, t) := by
  unfold serveKind at h
  split at h
  case h_19 => exact h
  all_goals simp [answered] at h

theorem answer_open (h : answer r s = (none, t)) :
    ∃ keep, t.link = { s.link with notices := [], restart := some keep } := by
  unfold answer at h
  split at h
  · split at h
    · exact serveRestart_open (serveKind_open h)
    · simp at h
  · simp at h

/-- Once the only request held has been served, or waits for its answer, the transmitter has made its choice. -/
theorem serveFront_settled (hh : s.link.holding = [r]) (hslot : s.link.replySlot = none) (now : Nat) :
    (serveFront s).onLink (Link.kick now) = serveFront s := by
  have hkick : ∀ u : State, u.link.kick now = u.link → u.onLink (Link.kick now) = u := fun u h => by
    rw [State.onLink, h]
  apply hkick
  simp only [serveFront, hh]
  split
  · exact Link.kick_held hslot (by simp [hh])
  · split
    · rename_i a t _
      refine Link.kick_sending ?_
      cases htx : t.link.tx <;> simp [placeReply, Link.kick, htx]
    · rename_i t hopen
      obtain ⟨keep, hl⟩ := answer_open hopen
      rw [hl]
      exact Link.kick_held hslot (by simp [hh])

end

/-- Settles O9: both serve the one request held on a free transmitter, and what FRAME_SENT would still send then is sent
already (`serveFront_settled`). -/
theorem nextRequestIsServed : Obligations.NextRequestIsServed := by
  intro i dt f s x r hi hp hx hr hdue hh hslot hrestart
  have hone : ((advance dt s).onLink (Link.freed x)).link.holding = [f.request] := by
    simp [Link.freed, hr, hh, Frame.request]
  have hfreed : (advance dt s).onLink (Link.freed x) =
      (advance dt { s with link := { s.link with tx := none, holding := [] } }).onLink fun l =>
        { l with holding := l.holding ++ [f.request] } := by
    simp [State.onLink, advance, Link.freed, hr, hh, Frame.request]
  rw [exec_frameSent hx hdue, serveFront_settled hone hslot, hfreed, exec_offered hi hp]
  rfl

end Sys2Proof.Machine
end

section
/-! PROOF. The settings record with its round trip (R197, R198), and the clock (R199). -/

namespace Sys2Proof.Machine

/-! ## Text as bytes -/

theorem printable_iff {b : Byte} : printable b = true ↔ 0x20 ≤ b.toNat ∧ b.toNat ≤ 0x7E := by simp [printable]

/-- Every character is one that a name or a text may hold (R196). -/
def PrintableText (t : List Char) : Prop := ∀ c ∈ t, 0x20 ≤ c.toNat ∧ c.toNat ≤ 0x7E

section
variable {t : List Char} (h : PrintableText t)
include h

theorem map_charOf_textBytes : (textBytes t).map charOf = t := by
  have hchar : ∀ c ∈ t, (charOf ∘ byteOf) c = id c := fun c hc => charOf_byteOf ((h c hc).2.trans_lt (by decide))
  rw [textBytes, List.map_map, List.map_congr_left hchar, List.map_id]

theorem all_printable_textBytes : (textBytes t).all printable = true := by
  simp only [textBytes, List.all_map, List.all_eq_true]
  intro c hc
  have hb : (byteOf c).toNat = c.toNat := toNat_byteOf ((h c hc).2.trans_lt (by decide))
  exact printable_iff.2 (hb ▸ h c hc)

end

/-! ## SETTINGS_GET and SETTINGS_SET -/

/-- The first number of 1..12 whose field is out of range. -/
theorem SettingsFields.firstOutOfRange_some {f : SettingsFields} {i : Nat} (h1 : 1 ≤ i) (h12 : i ≤ 12)
    (hi : f.inRange i = false) (hbefore : ∀ j, 1 ≤ j → j < i → f.inRange j = true) : f.firstOutOfRange = some i := by
  change (List.range' 1 12).find? (fun i => !f.inRange i) = some i
  rw [List.find?_range'_eq_some]
  exact ⟨by simp [hi], by simp; omega, fun j hj hji => by simp [hbefore j hj hji]⟩

section
variable {s : State} {p : List Byte}

theorem serveSettingsSet_running {o : Order} (h : s.runningOrder = some o) :
    serveSettingsSet p s = (.refused .state o.number, s) := by
  simp only [serveSettingsSet, h]

section
variable (hr : s.runningOrder = none)
include hr

theorem serveSettingsSet_range {i : Nat} (hi : (SettingsFields.ofPayload p).firstOutOfRange = some i) :
    serveSettingsSet p s = (.refused .fieldRange i, s) := by
  simp only [serveSettingsSet, hr, hi]

theorem serveSettingsSet_ok (hi : (SettingsFields.ofPayload p).firstOutOfRange = none)
    (hmode : (SettingsFields.ofPayload p).slipMode = 1 ∨ s.settings.slipMode = false) :
    serveSettingsSet p s = (.ok [], { s with settings := (SettingsFields.ofPayload p).settings }) := by
  have hstays : (s.settings.slipMode && !(SettingsFields.ofPayload p).settings.slipMode) = false := by
    obtain h | h := hmode <;> simp [SettingsFields.settings, h]
  simp only [serveSettingsSet, hr, hi, hstays, Bool.false_eq_true, if_false]

end

end

/-- Settles O12: the checks of `serveSettingsSet` in their order. -/
theorem settingsSetReplacesTheRecord : Obligations.SettingsSetReplacesTheRecord := by
  intro dt tag s hf
  refine ⟨exec_request (i := .settingsGet dt tag []) rfl hf (by simp) rfl rfl _ s rfl rfl rfl, ?_⟩
  intro p hp f set r
  have hset : ∀ (a : Reply) (u : State), u.link.tx = s.link.tx → u.link.replySlot = s.link.replySlot →
      serveSettingsSet p (s.serving dt r) = (a, u.serving dt r) → set = .next (u.answered dt r a) :=
    fun a u htx hslot h => exec_request (i := .settingsSet dt tag p) rfl hf (by simp [hp]) rfl (by simp [lengthAgrees, hp])
      a u htx hslot (congrArg answered h)
  refine ⟨fun o ho => ?_, fun hr i h1 h12 hi hbefore => ?_, fun hr hrange hmode => ?_⟩
  · exact hset _ s rfl rfl (serveSettingsSet_running ho)
  · have hfirst := SettingsFields.firstOutOfRange_some h1 h12 hi hbefore
    exact hset _ s rfl rfl (serveSettingsSet_range (s := s.serving dt r) hr hfirst)
  · exact hset _ { s with settings := _ } rfl rfl
      (serveSettingsSet_ok hr (SettingsFields.firstOutOfRange_none hrange) hmode)

/-! ## The settings record's round trip -/

/-- The fields that SETTINGS_GET gives of a record (R198). -/
def Settings.fields (st : Settings) : SettingsFields :=
  { fBlack := st.fBlack, fWhite := st.fWhite, aBlack := st.aBlack, aWhite := st.aWhite, lockWindow := st.lockWindow
    trim := st.trim, spinHold := st.spinHold, lampIdle := st.lampIdle, replyWindow := st.replyWindow
    whiteTracking := if st.whiteTracking then 1 else 0, slipMode := if st.slipMode then 1 else 0
    nameLen := st.name.length, name := textBytes st.name }

section
variable {st : Settings}

theorem padTo_length {n : Nat} {t : List Char} (h : t.length ≤ n) : (padTo n t).length = n := by
  simp [padTo, h]

theorem take_textBytes_padTo (n : Nat) (t : List Char) : (textBytes (padTo n t)).take t.length = textBytes t := by
  rw [textBytes, padTo, List.map_append, List.take_left' (List.length_map _)]
  rfl

/-- The 17 bytes before the name (R197). -/
def Settings.front (st : Settings) : List Byte :=
  [BitVec.ofNat 8 (st.fBlack / 256), BitVec.ofNat 8 st.fBlack, BitVec.ofNat 8 (st.fWhite / 256), BitVec.ofNat 8 st.fWhite,
    BitVec.ofNat 8 st.aBlack, BitVec.ofNat 8 st.aWhite, BitVec.ofNat 8 (st.lockWindow / 256),
    BitVec.ofNat 8 st.lockWindow, BitVec.ofNat 8 st.trim, BitVec.ofNat 8 (st.spinHold / 256),
    BitVec.ofNat 8 st.spinHold, BitVec.ofNat 8 (st.lampIdle / 256), BitVec.ofNat 8 st.lampIdle,
    BitVec.ofNat 8 st.replyWindow, BitVec.ofNat 8 (if st.whiteTracking then 1 else 0),
    BitVec.ofNat 8 (if st.slipMode then 1 else 0), BitVec.ofNat 8 st.name.length]

theorem settingsBytes_eq (st : Settings) : st.bytes = st.front ++ textBytes (padTo 12 st.name) := by
  simp only [Settings.bytes, Settings.front, u8, u16, mark, List.cons_append, List.nil_append]

theorem settingsBytes_length (h : st.name.length ≤ 12) : st.bytes.length = 29 := by
  rw [settingsBytes_eq, List.length_append, textBytes_length, padTo_length h]
  rfl

theorem toNat_mark (b : Bool) : (BitVec.ofNat 8 (if b then 1 else 0)).toNat = if b then 1 else 0 := by
  cases b <;> rfl

section
variable (h : st.InRange)
include h

/-- The bytes of a record are read back as its fields. -/
theorem ofPayload_settingsBytes : SettingsFields.ofPayload st.bytes = st.fields := by
  obtain ⟨⟨-, hfb⟩, ⟨-, hfw, -⟩, hab, ⟨haw, -⟩, ⟨-, hlw⟩, ⟨htrim, -⟩, hspin, hidle, ⟨-, hreply⟩, ⟨-, hname⟩, -⟩ := h
  have hlen : (BitVec.ofNat 8 st.name.length).toNat = st.name.length := toNat_byte (hname.trans_lt (by decide))
  have htext : ((textBytes (padTo 12 st.name)).take 12).take (BitVec.ofNat 8 st.name.length).toNat =
      textBytes st.name := by
    rw [hlen, List.take_of_length_le (i := 12) (by rw [textBytes_length, padTo_length hname]), take_textBytes_padTo]
  rw [settingsBytes_eq, SettingsFields.ofPayload, Settings.fields, SettingsFields.mk.injEq]
  exact ⟨beNat_u16 (by omega), beNat_u16 (by omega), toNat_byte (by omega), toNat_byte (by omega), beNat_u16 (by omega),
    toNat_byte (by omega), beNat_u16 (by omega), beNat_u16 (by omega), toNat_byte (by omega), toNat_mark _, toNat_mark _,
    hlen, htext⟩

theorem fields_inRange : ∀ i, 1 ≤ i → i ≤ 12 → st.fields.inRange i = true := by
  obtain ⟨hfb, ⟨hfw, hfw', hgap⟩, hab, haw, hlw, htrim, hspin, hidle, hreply, hname, hchars⟩ := h
  have hmark : ∀ b : Bool, (if b then 1 else 0) ≤ 1 := by decide
  have htext := all_printable_textBytes (t := st.name) hchars
  have hall : ∀ i ∈ List.range' 1 12, st.fields.inRange i = true := by
    simp [List.range', SettingsFields.inRange, Settings.fields, *]
  exact fun i h1 h12 => hall i (by simp; omega)

theorem settings_fields : st.fields.settings = st := by
  obtain ⟨-, -, -, -, -, -, -, -, -, -, hchars⟩ := h
  have hmark : ∀ b : Bool, ((if b then 1 else 0) == 1) = b := by decide
  simp only [SettingsFields.settings, Settings.fields, hmark, map_charOf_textBytes hchars]

end

end

/-- Settles O13: a record's bytes are the bytes of its fields, which are in range and give the record. -/
theorem settingsRoundTrip : Obligations.SettingsRoundTrip := by
  intro st h f
  have hname : st.name.length ≤ 12 := by
    obtain ⟨-, -, -, -, -, -, -, -, -, ⟨-, h12⟩, -⟩ := h
    exact h12
  have hf : f = st.fields := ofPayload_settingsBytes h
  rw [hf]
  exact ⟨settingsBytes_length hname, fields_inRange h, settings_fields h⟩

/-! ## The clock -/

section
variable {s : State} {p : List Byte}

theorem serveClockSet_late (h : 86399 < longAt p 0) : serveClockSet p s = (.refused .fieldRange 1, s) := if_pos h

section
variable (h : longAt p 0 ≤ 86399)
include h

theorem serveClockSet_unprintable (hd : ∃ b ∈ p.drop 4, b.toNat < 0x20 ∨ 0x7E < b.toNat) :
    serveClockSet p s = (.refused .fieldRange 2, s) := by
  obtain ⟨b, hb, hout⟩ := hd
  have hbad : ((p.drop 4).all printable) = false :=
    List.all_eq_false.2 ⟨b, hb, fun hp => by
      obtain ⟨hlo, hhi⟩ := printable_iff.1 hp
      omega⟩
  simp only [serveClockSet, Nat.not_lt.2 h, if_false, hbad, Bool.not_false, if_true]

theorem serveClockSet_ok (hd : ∀ b ∈ p.drop 4, 0x20 ≤ b.toNat ∧ b.toNat ≤ 0x7E) : serveClockSet p s =
    (.ok [], { s with clock := some ⟨longAt p 0, (p.drop 4).map charOf, false, s.now + 1000000⟩ }) := by
  have hgood : ((p.drop 4).all printable) = true := List.all_eq_true.2 fun b hb => printable_iff.2 (hd b hb)
  simp only [serveClockSet, Nat.not_lt.2 h, if_false, hgood, Bool.not_true, Bool.false_eq_true]
  rfl

end

theorem exec_timeOfDayTick {dt : Nat} {c : Clock} (hc : s.clock = some c) (h : c.tickAt ≤ s.now + dt) :
    exec (.timeOfDayTick dt) s = .next { advance dt s with clock := some c.step } := by
  have hdue : due ((advance dt s).clock.map Clock.tickAt) (advance dt s).now = true :=
    due_some (n := c.tickAt) (by simp [hc]) h
  refine (congrArg Host.Outcome.next (if_pos hdue)).trans ?_
  simp [hc]

end

/-- Settles O15: the checks of `serveClockSet` in their order, and the two cases of `Clock.step`. -/
theorem clockIsSetAndSteps : Obligations.ClockIsSetAndSteps := by
  intro dt s
  refine ⟨?_, fun c hc hdue => ?_⟩
  · intro tag p hf hp set r
    have hset : ∀ (a : Reply) (u : State), u.link.tx = s.link.tx → u.link.replySlot = s.link.replySlot →
        serveClockSet p (s.serving dt r) = (a, u.serving dt r) → set = .next (u.answered dt r a) :=
      fun a u htx hslot h => exec_request (i := .clockSet dt tag p) rfl hf (by simp [hp]) rfl (by simp [lengthAgrees, hp])
        a u htx hslot (congrArg answered h)
    exact ⟨fun h => hset _ s rfl rfl (serveClockSet_late h),
      fun h hd => hset _ s rfl rfl (serveClockSet_unprintable h hd),
      fun h hd => hset _ { s with clock := _ } rfl rfl (serveClockSet_ok h hd)⟩
  · rw [exec_timeOfDayTick hc hdue]
    refine ⟨fun h => ?_, fun h => ?_⟩
    · rw [Clock.step, if_pos h]
      rfl
    · rw [Clock.step, if_neg (by omega)]
      rfl

end Sys2Proof.Machine
end

section
/-! PROOF. STATUS (R200): the bytes of its reply, and the two flags that it clears. -/

namespace Sys2Proof.Machine

section
variable {s : State}

/-! ## The layout -/

/-- The bytes before the date text (R200), as numbers that one byte each holds modulo 256. -/
def State.statusFront (s : State) : List Byte :=
  [s.manager.state.code, s.manager.table.length, (s.runningOrder.map Order.number).getD 0 / 256,
    (s.runningOrder.map Order.number).getD 0, (s.runningOrder.map fun o => o.state.code).getD 255,
    (s.assemblingOrder.map Order.number).getD 0 / 256, (s.assemblingOrder.map Order.number).getD 0,
    s.drum.state.code, s.drum.target, s.drum.drive / 256, s.drum.drive, if s.drum.clip then 1 else 0,
    if s.drum.noLock then 1 else 0, s.panel.door.code, s.panel.clamp.code, s.panel.mountCounter / 256,
    s.panel.mountCounter, if s.panel.mountPresent then 1 else 0, s.lamp.state.code, s.carriage.state.code,
    s.carriage.position.getD 65535 / 256, s.carriage.position.getD 65535, s.line.state.code,
    s.line.shownActivity.getD 255, s.line.shownRequest.getD 255, s.store.slots.length,
    if s.store.isOpen then 1 else 0, (s.cal.map fun c => c.kind.code).getD 255,
    (s.cal.map fun c => c.phase.code).getD 255, s.slips.queue.length, s.slips.printer.code, s.slips.paper.code,
    if s.settings.slipMode then 1 else 0, if s.clock.isSome then 1 else 0, s.todNow.getD 0xFFFFFFFF / 16777216,
    s.todNow.getD 0xFFFFFFFF / 65536, s.todNow.getD 0xFFFFFFFF / 256, s.todNow.getD 0xFFFFFFFF,
    if (s.clock.map Clock.stale).getD false then 1 else 0].map (BitVec.ofNat 8)

/-- The date text's bytes (R199, R200). -/
def State.statusDate (s : State) : List Byte := textBytes (padTo 10 ((s.clock.map Clock.date).getD []))

/-- The bytes after the date text (R200). -/
def State.statusEnd (s : State) : List Byte :=
  mark s.link.linkError ++ (mark s.link.noticesLost ++ u8 s.link.notices.length)

theorem statusBytes_eq (s : State) : statusBytes s = s.statusFront ++ (s.statusDate ++ s.statusEnd) := by
  unfold statusBytes State.statusFront State.statusDate State.statusEnd
  simp only [u8, u16, u32, codeByte, mark, todBytes, List.append_assoc, List.cons_append, List.nil_append,
    List.map_cons, List.map_nil]

theorem statusFront_length (s : State) : s.statusFront.length = 39 := by
  simp [State.statusFront]

theorem statusBytes_front {i : Nat} {b : Byte} (h : s.statusFront[i]? = some b) : (statusBytes s)[i]? = some b := by
  obtain ⟨hi, _⟩ := List.getElem?_eq_some_iff.1 h
  rw [statusBytes_eq, List.getElem?_append_left hi, h]

theorem statusBytes_front_take (i : Nat) {n : Nat} (h : i + n ≤ 39) :
    ((statusBytes s).drop i).take n = (s.statusFront.drop i).take n := by
  have hlen := statusFront_length s
  rw [statusBytes_eq, List.drop_append_of_le_length (by omega),
    List.take_append_of_le_length (by rw [List.length_drop]; omega)]

theorem statusBytes_drop (s : State) : (statusBytes s).drop 39 = s.statusDate ++ s.statusEnd := by
  rw [statusBytes_eq]
  exact List.drop_left' (statusFront_length s)

section
variable (hd : ∀ c, s.clock = some c → c.date.length = 10)
include hd

theorem statusDate_length : s.statusDate.length = 10 := by
  rw [State.statusDate, textBytes_length]
  refine padTo_length ?_
  cases hc : s.clock with
  | none => exact Nat.zero_le _
  | some c => exact (hd c hc).le

theorem statusBytes_length : (statusBytes s).length = 52 := by
  rw [statusBytes_eq, List.length_append, List.length_append, statusFront_length, statusDate_length hd]
  rfl

theorem statusBytes_end {i : Nat} {b : Byte} (h : s.statusEnd[i]? = some b) : (statusBytes s)[49 + i]? = some b := by
  have hi : (statusBytes s)[49 + i]? = ((statusBytes s).drop 39)[10 + i]? := by
    rw [List.getElem?_drop, ← Nat.add_assoc]
  have hdate := statusDate_length hd
  rw [hi, statusBytes_drop, List.getElem?_append_right (by omega), hdate, Nat.add_sub_cancel_left, h]

theorem statusBytes_date : ((statusBytes s).drop 39).take 10 = s.statusDate := by
  rw [statusBytes_drop]
  exact List.take_left' (statusDate_length hd)

end

/-! ## The fields shown in their own words -/

/-- A full date text needs no padding. -/
theorem padTo_full {n : Nat} {t : List Char} (h : t.length = n) : padTo n t = t := by
  simp [padTo, h]

theorem shownActivity_getD (l : LineUnit) : l.shownActivity.getD 255 =
    if l.state = .seized then (l.activity.map Activity.code).getD 255 else 255 := by
  unfold LineUnit.shownActivity
  split <;> rfl

theorem shownRequest_getD (l : LineUnit) : l.shownRequest.getD 255 =
    if l.state = .idle then 255 else (l.lastRequest.map LineRequest.code).getD 255 := by
  unfold LineUnit.shownRequest
  split <;> rfl

/-- The clock is set and its date is stale. -/
theorem stale_iff (o : Option Clock) : (o.map Clock.stale).getD false = true ↔ ∃ c, o = some c ∧ c.stale = true := by
  cases o <;> simp

end

/-- Each pair of a list, told apart. -/
theorem forall_pair_mem {L : List (Nat × Nat)} {P : Nat → Nat → Prop} (h : L.Forall fun x => P x.1 x.2) :
    ∀ N n, (N, n) ∈ L → P N n := fun _ _ hm => List.forall_iff_forall_mem.1 h _ hm

/-- Settles O11: the 52 bytes by their places before (`statusBytes_front`), in (`statusBytes_date`) and after
(`statusBytes_end`) the date text. -/
theorem statusReportsAndClears : Obligations.StatusReportsAndClears := by
  intro dt tag s hf hdate
  refine ⟨statusBytes s, ?_, statusBytes_length hdate, forall_pair_mem ?_, forall_pair_mem ?_, ?_, ?_⟩
  · exact exec_request (i := .status dt tag []) rfl hf (by simp) rfl rfl _
      { s with link := { s.link with linkError := false, noticesLost := false } } rfl rfl rfl
  · have front := @statusBytes_front s
    have back := @statusBytes_end s hdate
    exact ⟨front rfl, front rfl, front rfl, front rfl, front rfl, front rfl, front rfl, front rfl, front rfl, front rfl,
      front rfl, front rfl, front rfl, front (congrArg (some <| BitVec.ofNat 8 ·) (shownActivity_getD s.line)),
      front (congrArg (some <| BitVec.ofNat 8 ·) (shownRequest_getD s.line)), front rfl, front rfl, front rfl, front rfl,
      front rfl, front rfl, front rfl, front rfl, front rfl,
      front (congrArg (some <| BitVec.ofNat 8 ·) (if_congr (stale_iff s.clock) rfl rfl)),
      back (i := 0) rfl, back (i := 1) rfl, back (i := 2) rfl⟩
  · exact ⟨statusBytes_front_take 2 (by decide), statusBytes_front_take 5 (by decide),
      statusBytes_front_take 9 (by decide), statusBytes_front_take 15 (by decide), statusBytes_front_take 20 (by decide)⟩
  · exact statusBytes_front_take 34 (by decide)
  · rw [statusBytes_date hdate, State.statusDate, textBytes]
    refine congrArg (List.map byteOf) ?_
    cases hc : s.clock with
    | none => rfl
    | some c => exact padTo_full (hdate c hc)

end Sys2Proof.Machine
end
